-- ==== Sys2Proof/Word.lean ====
section
/-! DEFINITION. The word types of the part: bytes, uptime, station ids, serials, and the numbers that
name a door slot, a branch, a zone and a hydraulic group (section 0.6). -/

namespace Sys2Proof

/-- One byte of a frame or of a table record. -/
abbrev Byte := BitVec 8

/-- An uptime in tenths of a second: 32 bits, and it wraps (section 0.6, Time). -/
abbrev Time := BitVec 32

/-- A station id on the trunk: 0 to 30, and 31 is the broadcast address (section 0.6). -/
abbrev Station := BitVec 5

/-- The 48-bit serial fixed in a door local unit (section 0.7). -/
abbrev Serial := BitVec 48

/-- A door slot, 0 to 63. -/
abbrev Slot := Fin 64

/-- A door branch, B0 to B3. -/
abbrev BranchId := Fin 4

/-- A zone, 0 to 15. -/
abbrev ZoneId := Fin 16

/-- A hydraulic group, 0 to 7. -/
abbrev GroupId := Fin 8

/-- The broadcast address (section 0.6). -/
def broadcast : Station := 31#5

/-- The time from `since` to `now`, taken modulo 2^32 (R52, R57, R77, R81, R95, R138, R170). -/
def elapsed (now since : Time) : Nat := (now - since).toNat

end Sys2Proof
end

