-- ==== Sys2Proof/Syntax.lean ====
section
/-! DEFINITION. The commands of the part: one constructor for each row of spec/opcode_table.json, and the
types of their operands. What a command does stands in Machine/. -/

namespace Sys2Proof

/-- One present record of a table set: its table id, its index and its bytes (R119). -/
structure Record where
  table : Nat
  index : Nat
  bytes : List Byte
deriving DecidableEq, Repr

/-- A table set: its present records, in canonical order (table id, then index; R119, R131). -/
abbrev TableSet := List Record

/-- The contents of the nonvolatile memory (Table 11-1): a set with its check value, or contents that
fail their check (never written, or torn: R173), of which the spec says nothing else. -/
inductive NvImage where
  | stored (set : TableSet) (check : BitVec 16)
  | bad
deriving DecidableEq, Repr

/-- The levels on the input pins that the part reads (Table 11-3): the straps ID4 to ID0, and for each
branch whether ANOTHER party pulls its emergency close line low. -/
structure Pins where
  straps : BitVec 5
  lineLow : Vector Bool 4
deriving DecidableEq, Repr

/-- The two heel sources (Table 4-5). -/
inductive HeelSrc where
  | primary
  | secondary
deriving DecidableEq, Repr

/-- Source and target of a trunk frame (Table 9-2). -/
structure Route where
  src : Station
  tgt : Station
deriving DecidableEq, Repr

/-- The commands and events of the part, one for each row of the opcode table. A panel command or a
management request carries the route of its frame and the payload bytes its row reads; a branch event
carries its branch; an expiry carries what expires. -/
inductive Instr where
  | powerOnReset (pins : Pins)
  | restartPin (pins : Pins)
  | trunkFrame (bytes : List Byte)
  | closeZone (route : Route) (zone tag : Byte)
  | closeAll (route : Route) (tag : Byte)
  | releaseZone (route : Route) (zone tag : Byte)
  | releaseAll (route : Route) (tag : Byte)
  | doorClose (route : Route) (slot tag : Byte)
  | doorOpen (route : Route) (slot tag : Byte)
  | doorStop (route : Route) (slot tag : Byte)
  | ack (route : Route) (subject kind tag : Byte)
  | ackAll (route : Route) (tag : Byte)
  | heel (route : Route) (value : BitVec 16)
  | identify (route : Route) (tag part : Byte)
  | readStatus (route : Route) (tag page : Byte)
  | readDoor (route : Route) (tag slot part : Byte)
  | readRecord (route : Route) (tag bank table index part : Byte)
  | readAlarms (route : Route) (tag chunk : Byte)
  | loadBegin (route : Route) (tag : Byte)
  | loadChunk (route : Route) (tag table index : Byte) (bytes : List Byte)
  | loadEnd (route : Route) (tag : Byte) (check : BitVec 16)
  | activate (route : Route) (tag : Byte)
  | rollback (route : Route) (tag : Byte)
  | store (route : Route) (tag : Byte)
  | storeEnd (readBack : NvImage)
  | enroll (route : Route) (tag branch mode : Byte)
  | forgetForeign (route : Route) (tag branch : Byte)
  | restartRequest (route : Route) (tag : Byte)
  | transmitStart
  | arbitrationLost (winner : List Byte)
  | transmitError
  | transmitSuccess (pins : Pins)
  | statusReply (branch : BranchId) (bytes : List Byte)
  | pollMiss (branch : BranchId)
  | lineSample (branch : BranchId) (low : Bool)
  | dwellExpiry (door : Slot)
  | retryExpiry (door : Slot)
  | warningLeadExpiry (door : Slot)
  | issueDeadlineExpiry (door : Slot)
  | deadlineExpiry (door : Slot)
  | linkLostHoldExpiry (door : Slot)
  | heelSourceStale (source : HeelSrc)
  | heelStaleFirstJudge
  | reannounceExpiry
  | spacingPoint
  | refreshPoint
  | snapshotRelease
  | callAnswer (branch : BranchId) (serial : Serial)
  | assignSent (branch : BranchId)
  | callAnswerFault (branch : BranchId)
  | callNoAnswer (branch : BranchId)
  | powerLoss
deriving DecidableEq, Repr

end Sys2Proof
end

