-- ==== Sys2Proof/Decode.lean ====
section
/-! DEFINITION. Command words. No row of spec/opcode_table.json gives bits: the part has no instruction words,
and its commands are frames and events. So no word spells a command. -/

namespace Sys2Proof

/-- The command that a word spells by the bits of the table: none, since no row has bits. -/
def decodeTableWord (_nbits _w : Nat) : Option Instr := none

end Sys2Proof
end

