-- ==== Sys2Proof/Machine/State.lean ====
section
/-! DEFINITION. The state of the part as plain data, block by block (Table 1-1), and its value right after
power-on reset. A figure that a rule defines as a function of other state (door state, group account
figures, effective close order, device state flags) is not stored: it is a view in Machine/Views.lean. -/

namespace Sys2Proof.Machine

open Sys2Proof

/-! ### Door Supervision and Motion Admission: the door records -/

/-- Link state (Table 1-6). -/
inductive LinkState where
  | unbound | pending | online | lost
deriving DecidableEq, Repr

/-- Door state (Tables 1-4 and 1-7). -/
inductive DoorState where
  | unknown | opened | closed | intermediate | movingClose | movingOpen | disagree
deriving DecidableEq, Repr

/-- Control phase (Table 1-8). -/
inductive Phase where
  | idle | queued | warning | driving | heldLocal | dwell | retryWait | failed
deriving DecidableEq, Repr

/-- Commands of the command slot, of a POLL and of its echo (Table 1-4; Note under Table 8-4). -/
inductive Cmd where
  | none | close | openDoor | halt | warnOn | warnOff
deriving DecidableEq, Repr

/-- Direction of a movement: CLOSE or OPEN. -/
inductive Dir where
  | closing | opening
deriving DecidableEq, Repr

/-- Motion that a DLU reports (Table 8-4). -/
inductive Sway where
  | still | closing | opening
deriving DecidableEq, Repr

/-- Local handle that a DLU reports (Table 8-4). -/
inductive Handle where
  | idle | openSide | closeSide
deriving DecidableEq, Repr

/-- Origin of a queue entry (Table 3-2). -/
inductive Origin where
  | order | reclose | retry | remote
deriving DecidableEq, Repr

/-- Basis of a queue entry (Table 3-2). -/
inductive Basis where
  | order | remote
deriving DecidableEq, Repr

/-- The last report: the fields of one STATUS reply and its arrival time. The position is clamped to
1000, and no pressure is the failed-sensor mark (R11). -/
structure Report where
  echo : Cmd
  position : Nat
  closedLimit : Bool
  openLimit : Bool
  obstruction : Bool
  motion : Sway
  handle : Handle
  pressure : Option Nat
  unitClass : Nat
  arrival : Time
deriving DecidableEq, Repr

/-- A queue entry (Table 3-2); its slot is the door that holds it. -/
structure Entry where
  dir : Dir
  origin : Origin
  basis : Basis
  queuedAt : Time
deriving DecidableEq, Repr

/-- The admission record (section 3.4), with the arrival of the WARN-ON echo once the warning lead runs
(R57). -/
structure Admission where
  dir : Dir
  origin : Origin
  basis : Basis
  draw : Nat
  admittedAt : Time
  allowance : Nat
  issueDeadline : Time
  leadStart : Option Time
deriving DecidableEq, Repr

/-- The motion record (Table 3-3). -/
structure Motion where
  dir : Dir
  origin : Origin
  basis : Basis
  draw : Nat
  start : Time
  q0 : Nat
  allowance : Nat
  lag : Nat
deriving DecidableEq, Repr

/-- What Motion Admission keeps of a door's movement: nothing, the admission record, or the motion
record made from it at the start (R58). The admission stands unless it is `none`. -/
inductive Move where
  | none
  | admitted (a : Admission)
  | started (m : Motion)
deriving DecidableEq, Repr

/-- Kind of a hold (R48). A HALT hold keeps the start time and allowance of a motion that had started,
for its conversion (R67). -/
inductive HoldKind where
  | linkLost (expiry : Time)
  | halt (begun : Option (Time × Nat))
deriving DecidableEq, Repr

/-- A hold of a door's flow (R48). -/
structure Hold where
  draw : Nat
  kind : HoldKind
deriving DecidableEq, Repr

/-- The timer of a door record (Table 1-4). -/
inductive Timer where
  | none
  | dwell (expiry : Time)
  | retry (expiry : Time) (dir : Dir) (origin : Origin) (basis : Basis)
deriving DecidableEq, Repr

/-- The condition set of a door (Table 1-5); a motion-end kind carries its direction. -/
structure Conds where
  travelTimeout : Option Dir
  stall : Option Dir
  obstructed : Option Dir
  closeFailed : Option Dir
  disagree : Bool
  linkLost : Bool
  lowPressure : Bool
  localOpen : Bool
deriving DecidableEq, Repr

/-- The runtime record of one door slot (Table 1-4), with its queue entry, its admission or motion
record and its holds. Fitted, door state and pending alarm marks are views (R1, R12, R6). -/
structure Door where
  link : LinkState
  binding : Option Nat
  miss : Nat
  report : Option Report
  phase : Phase
  slot : Cmd
  retry : Nat
  timer : Timer
  conds : Conds
  entry : Option Entry
  move : Move
  holds : List Hold
deriving DecidableEq, Repr

/-! ### Order Unit -/

/-- A zone mode record (Table 2-1): DOORS-CLOSED mode is `closed = true`. -/
structure Zone where
  closed : Bool
  setBy : Option Station
  setAt : Time
deriving DecidableEq, Repr

/-! ### Travel Timing -/

/-- A heel source record (Table 4-5); the value is in tenths of a degree. -/
structure HeelSource where
  value : Option Int
  arrival : Time
  fresh : Bool
deriving DecidableEq, Repr

/-- The heel source selection state. `judged` is set by the first judgement of HEEL-STALE, at uptime 50
(R79). -/
structure Heel where
  primary : HeelSource
  secondary : HeelSource
  judged : Bool
deriving DecidableEq, Repr

/-! ### Indication Builder -/

/-- An indication image: 64 door bytes and 16 zone bytes (Table 5-1). -/
structure Picture where
  doors : List Byte
  zones : List Byte
deriving DecidableEq, Repr

/-- State of the Indication Builder (Table 5-1). -/
structure Indication where
  live : Picture
  frozen : Option Picture
  generation : Byte
  lastFreeze : Time
  outstanding : Nat
deriving DecidableEq, Repr

/-! ### Alarm Unit -/

/-- Alarm kinds in the order of Table 6-1. -/
inductive AlarmKind where
  | travelTimeout | stall | obstructed | closeFailed | disagree | linkLost | lowPressure | localOpen
  | lineExternal | foreignUnit | heelStale | noTable | trunkFault
deriving DecidableEq, Repr

/-- Alarm subjects (section 6.1): a door slot, a branch or the device. -/
inductive Subject where
  | door (d : Slot)
  | branch (b : BranchId)
  | device
deriving DecidableEq, Repr

/-- An alarm list entry (Table 6-2). It is acknowledged exactly while `ackBy` is present. -/
structure AlarmEntry where
  subject : Subject
  kind : AlarmKind
  raisedAt : Time
  active : Bool
  ackBy : Option Station
  count : Nat
deriving DecidableEq, Repr

/-- A pending mark (Table 6-3). -/
structure Mark where
  subject : Subject
  kind : AlarmKind
  ackBy : Option Station
deriving DecidableEq, Repr

/-- The alarm list (oldest first), the pending marks (ascending subject, then kind) and the next expiry
of the re-announce timer (R104, R113, R117). -/
structure Alarms where
  entries : List AlarmEntry
  marks : List Mark
  reannounceAt : Time
deriving DecidableEq, Repr

/-! ### Branch Controllers -/

/-- Frames the part puts on a branch data line (Table 8-3); their bytes are `BranchFrame.bytes`. -/
inductive BranchFrame where
  | poll (address : Nat) (cmd : Cmd)
  | unassign
  | call (classMin classMax : Byte)
  | assign (serial : Serial) (address : Nat)
deriving DecidableEq, Repr

/-- Mode of an enrollment run (R141). -/
inductive EnrollMode where
  | fresh | add
deriving DecidableEq, Repr

/-- Where a run stands: an answer to its CALL is awaited, or its ASSIGN is being sent (R144). -/
inductive RunStep where
  | calling | assigning
deriving DecidableEq, Repr

/-- The enrollment run record (Table 8-1). -/
structure Run where
  mode : EnrollMode
  noProgress : Nat
  pairs : List (Serial × Nat)
  step : RunStep
deriving DecidableEq, Repr

/-- Branch state (Table 8-2); the run record is present while the branch is ENROLLING. -/
inductive BranchState where
  | disabled
  | polling
  | enrolling (run : Run)
deriving DecidableEq, Repr

/-- Line sense (Table 2-5). -/
inductive Sense where
  | clear | own | external
deriving DecidableEq, Repr

/-- Regular or priority poll (R137, R138). -/
inductive PollTurn where
  | regular | priority
deriving DecidableEq, Repr

/-- The poll in flight (Table 8-1), with the kind of poll it is. -/
structure Poll where
  address : Nat
  cmd : Cmd
  turn : PollTurn
deriving DecidableEq, Repr

/-- An entry of the foreign unit list (R147). -/
structure Foreign where
  serial : Serial
  address : Option Nat
deriving DecidableEq, Repr

/-- State of a Branch Controller (Table 8-1). `due` is the kind of the next poll (R138), and `sent` holds
the frames that the latest event to send any put on the data line, in order; the end of a run empties it,
and so does a swap or restart of a branch that has polled. -/
structure Branch where
  state : BranchState
  rotation : Nat
  lastPoll : Vector Time 16
  inFlight : Option Poll
  due : PollTurn
  latch : Bool
  sense : Sense
  foreign : List Foreign
  sent : List BranchFrame
deriving DecidableEq, Repr

/-! ### Trunk Interface -/

/-- The four classes of the transmit queue (R155). -/
inductive TxClass where
  | notice | answer | part | reply
deriving DecidableEq, Repr

/-- A frame of the transmit queue; its kind and priority are those of its class (Table 9-3). -/
structure TxFrame where
  src : Station
  tgt : Station
  payload : List Byte
deriving DecidableEq, Repr

/-- State of the Trunk Interface (Table 9-1). The frame in transmission is the head of the class that
`sending` names (R152). -/
structure Trunk where
  ownId : Station
  notices : List TxFrame
  answers : List TxFrame
  parts : List TxFrame
  replies : List TxFrame
  sending : Option TxClass
  errors : Nat
deriving DecidableEq, Repr

/-! ### Table Unit, Management Responder, Store -/

/-- Bank states (Table 10-1). -/
inductive BankState where
  | empty | loading | ready | pending | active | retired
deriving DecidableEq, Repr

/-- One bank: its state, its set and the check value kept with the set (R133). -/
structure Bank where
  state : BankState
  set : TableSet
  check : BitVec 16
deriving DecidableEq, Repr

/-- The names of the two banks. -/
inductive BankId where
  | a | b
deriving DecidableEq, Repr

/-- The Table Unit: banks A and B. -/
structure Banks where
  a : Bank
  b : Bank
deriving DecidableEq, Repr

/-- The READ-ALARMS snapshot (R170): the entries and counts at the copy, and the uptime of the latest
chunk request. -/
structure Snapshot where
  entries : List AlarmEntry
  unacked : Nat
  marks : Nat
  lastRequest : Time
deriving DecidableEq, Repr

/-- The Management Responder: event flags in the bits of Table 10-7, last-request flag (request code,
reply code), snapshot and snapshot number (R170, R171). -/
structure Mgr where
  events : BitVec 16
  lastRequest : Option (Byte × Byte)
  snapshot : Option Snapshot
  snapshotNumber : Byte
deriving DecidableEq, Repr

/-- The Store (Table 11-1). The engine is COPYING while a bank is pinned; `age` counts the tenths since
the start of the store (R172). -/
structure Store where
  image : NvImage
  pinned : Option BankId
  age : Nat
deriving DecidableEq, Repr

/-! ### The whole part -/

/-- The state of the part. `powered` is false between a loss of power and the next power-on reset,
`freeCount` is the model's own counter of free values, and `pending` is the queue of commands that
wait, first in, first out. -/
structure State where
  powered : Bool
  uptime : Time
  pins : Pins
  doors : Vector Door 64
  zones : Vector Zone 16
  heel : Heel
  ind : Indication
  alarms : Alarms
  branches : Vector Branch 4
  trunk : Trunk
  banks : Banks
  mgr : Mgr
  store : Store
  freeCount : Nat
  pending : List Instr
deriving DecidableEq, Repr

/-- Reasons for which the part stops. There is none: the spec gives every command an effect in every
state, so no meaning answers a fault. -/
inductive Fault where
deriving DecidableEq, Repr

/-- Refusals. -/
inductive Refusal where
  /-- Raised by an arm of `exec` whose command has no meaning yet (safe); no arm does so now. -/
  | notModelled (mnemonic : String)
deriving DecidableEq, Repr

/-! ### Values after power-on reset -/

/-- An empty condition set. -/
def Conds.empty : Conds := ⟨none, none, none, none, false, false, false, false⟩

/-- The record of a slot that is not fitted (R1). -/
def Door.blank : Door where
  link := .unbound
  binding := none
  miss := 0
  report := none
  phase := .idle
  slot := .none
  retry := 0
  timer := .none
  conds := Conds.empty
  entry := none
  move := .none
  holds := []

/-- A zone mode record at power-on reset (R28). -/
def Zone.blank : Zone := ⟨false, none, 0⟩

/-- A heel source at power-on reset and restart (R80). -/
def HeelSource.blank : HeelSource := ⟨none, 0, false⟩

/-- Travel Timing at power-on reset and restart (R80). -/
def Heel.blank : Heel := ⟨.blank, .blank, false⟩

/-- The image of a part without fitted doors and with every zone in LOCAL-CONTROL (R101). -/
def Picture.blank : Picture := ⟨List.replicate 64 0, List.replicate 16 0⟩

/-- The Indication Builder before its first freeze (R94). -/
def Indication.blank : Indication := ⟨.blank, none, 0, 0, 0⟩

/-- The Alarm Unit at power-on reset and restart (R105). -/
def Alarms.blank : Alarms := ⟨[], [], 300⟩

/-- A Branch Controller at power-on reset, before its line is sampled (R134, R42). -/
def Branch.blank : Branch where
  state := .disabled
  rotation := 0
  lastPoll := Vector.replicate 16 0
  inFlight := none
  due := .regular
  latch := false
  sense := .clear
  foreign := []
  sent := []

/-- The Trunk Interface with an empty queue (R160). -/
def Trunk.blank (ownId : Station) : Trunk := ⟨ownId, [], [], [], [], none, 0⟩

/-- A bank without a set. -/
def Bank.blank : Bank := ⟨.empty, [], 0⟩

/-- Both banks EMPTY. -/
def Banks.blank : Banks := ⟨.blank, .blank⟩

/-- The Management Responder at power-on reset, before POWER-ON is set (R171). -/
def Mgr.blank : Mgr := ⟨0, none, none, 0⟩

/-- The part without power: only the nonvolatile image and what lies outside the part (the levels on its
pins, the waiting commands) remain (R173). The other fields take blank values that nothing reads. -/
def State.off (image : NvImage) (pins : Pins) (freeCount : Nat) (pending : List Instr) : State where
  powered := false
  uptime := 0
  pins := pins
  doors := Vector.replicate 64 .blank
  zones := Vector.replicate 16 .blank
  heel := .blank
  ind := .blank
  alarms := .blank
  branches := Vector.replicate 4 .blank
  trunk := .blank 0
  banks := .blank
  mgr := .blank
  store := ⟨image, none, 0⟩
  freeCount := freeCount
  pending := pending

/-- The pins with no strap tied to ground and no line pulled low (Table 11-3: the straps have internal
pull-ups; the lines are open-drain with pull-ups). -/
def untiedPins : Pins := ⟨31#5, Vector.replicate 4 false⟩

/-- Own station id of a part whose straps are not tied: 31 is taken as 30 (R151). -/
def resetOwnId : Station := 30#5

/-- The part right after power-on reset (R175) with a nonvolatile memory that was never written (it
fails its check: R173), no strap tied and every line high: no bank ACTIVE, NO-TABLE raised, generation
0 frozen and queued, POWER-ON and NV-CHECK-FAILED set. -/
def State.reset : State :=
  { State.off .bad untiedPins 0 [] with
    powered := true
    ind := ⟨.blank, some .blank, 0, 0, 5⟩
    alarms := ⟨[⟨.device, .noTable, 0, true, none, 1⟩], [], 300⟩
    trunk :=
      { Trunk.blank resetOwnId with
        notices := [⟨resetOwnId, broadcast, [1, 68, 12, 2, 1, 1, 1, 31, 0, 0, 0, 0]⟩]
        parts := [0, 1, 2, 3, 4].map fun i =>
          ⟨resetOwnId, broadcast, 0 :: i :: List.replicate 16 0⟩ }
    mgr := { Mgr.blank with events := 0x0009#16 } }

end Sys2Proof.Machine
end

