-- ==== Sys2Proof/Machine/Bytes.lean ====
section
/-! DEFINITION. Byte order, the CRC of R132, and the codes that enumerated values take in frames, replies
and records. Multi-byte fields are most significant byte first (section 0.6, Layouts). -/

namespace Sys2Proof.Machine

open Sys2Proof

/-! ### Byte order -/

/-- A number as one byte. -/
def byte (n : Nat) : Byte := BitVec.ofNat 8 n

/-- A truth value as the bit of weight `2^k`. -/
def bit (b : Bool) (k : Nat) : Nat := if b then 2 ^ k else 0

/-- A 16-bit field, most significant byte first. -/
def bytes16 (v : BitVec 16) : List Byte := [v.extractLsb' 8 8, v.extractLsb' 0 8]

/-- A number as a 16-bit field. -/
def nat16 (n : Nat) : List Byte := bytes16 (BitVec.ofNat 16 n)

/-- An uptime as a 4-byte field (R169). -/
def bytes32 (t : Time) : List Byte :=
  [t.extractLsb' 24 8, t.extractLsb' 16 8, t.extractLsb' 8 8, t.extractLsb' 0 8]

/-- A serial as a 6-byte field. -/
def bytes48 (v : Serial) : List Byte :=
  [v.extractLsb' 40 8, v.extractLsb' 32 8, v.extractLsb' 24 8, v.extractLsb' 16 8,
   v.extractLsb' 8 8, v.extractLsb' 0 8]

/-- The 16-bit value of two bytes, most significant first. -/
def word16 (hi lo : Byte) : BitVec 16 := hi ++ lo

/-- Byte `i` of a record or payload; 0 beyond its end. -/
def at_ (bs : List Byte) (i : Nat) : Byte := bs.getD i 0

/-- The 16-bit field that begins at byte `i`. -/
def at16 (bs : List Byte) (i : Nat) : BitVec 16 := word16 (at_ bs i) (at_ bs (i + 1))

/-- The 48-bit field that begins at byte `i`. -/
def at48 (bs : List Byte) (i : Nat) : Serial :=
  at_ bs i ++ at_ bs (i + 1) ++ at_ bs (i + 2) ++ at_ bs (i + 3) ++ at_ bs (i + 4) ++ at_ bs (i + 5)

/-- The 64-bit field that begins at byte `i`. -/
def at64 (bs : List Byte) (i : Nat) : BitVec 64 :=
  at16 bs i ++ at16 bs (i + 2) ++ at16 bs (i + 4) ++ at16 bs (i + 6)

/-! ### The CRC of R132 -/

/-- One step of the CRC register (R132). -/
def crcStep (r : BitVec 16) : BitVec 16 :=
  if r.msb then (r <<< 1) ^^^ 0x1021#16 else r <<< 1

/-- One byte taken into the CRC register (R132). -/
def crcByte (r : BitVec 16) (b : Byte) : BitVec 16 :=
  Nat.repeat crcStep 8 (r ^^^ (b.setWidth 16 <<< 8))

/-- The CRC of a stream of bytes (R132). -/
def crc (bs : List Byte) : BitVec 16 := bs.foldl crcByte 0xFFFF#16

/-! ### Codes of enumerated values -/

/-- Command codes (Note under Table 8-4). -/
def Cmd.code : Cmd → Nat
  | .none => 0 | .close => 1 | .openDoor => 2 | .halt => 3 | .warnOn => 4 | .warnOff => 5

/-- The command that a code names (Note under Table 8-4). -/
def Cmd.ofCode : Nat → Option Cmd
  | 0 => some .none | 1 => some .close | 2 => some .openDoor | 3 => some .halt
  | 4 => some .warnOn | 5 => some .warnOff | _ => Option.none

/-- Codes of the reported motion (Table 8-4). -/
def Sway.code : Sway → Nat
  | .still => 0 | .closing => 1 | .opening => 2

/-- The reported motion that a code names (Table 8-4). -/
def Sway.ofCode : Nat → Option Sway
  | 0 => some .still | 1 => some .closing | 2 => some .opening | _ => none

/-- Codes of the local handle (Table 8-4). -/
def Handle.code : Handle → Nat
  | .idle => 0 | .openSide => 1 | .closeSide => 2

/-- The handle position that a code names (Table 8-4). -/
def Handle.ofCode : Nat → Option Handle
  | 0 => some .idle | 1 => some .openSide | 2 => some .closeSide | _ => none

/-- Codes of Table 10-5: bank states. -/
def BankState.code : BankState → Nat
  | .empty => 0 | .loading => 1 | .ready => 2 | .pending => 3 | .active => 4 | .retired => 5

/-- Codes of Table 10-5: link states. -/
def LinkState.code : LinkState → Nat
  | .unbound => 0 | .pending => 1 | .online => 2 | .lost => 3

/-- Codes of Table 10-5: door states. -/
def DoorState.code : DoorState → Nat
  | .unknown => 0 | .opened => 1 | .closed => 2 | .intermediate => 3
  | .movingClose => 4 | .movingOpen => 5 | .disagree => 6

/-- Codes of Table 10-5: control phases. -/
def Phase.code : Phase → Nat
  | .idle => 0 | .queued => 1 | .warning => 2 | .driving => 3
  | .heldLocal => 4 | .dwell => 5 | .retryWait => 6 | .failed => 7

/-- Codes of Table 10-5: directions. -/
def Dir.code : Dir → Nat
  | .closing => 0 | .opening => 1

/-- Codes of Table 10-5: origins. -/
def Origin.code : Origin → Nat
  | .order => 0 | .reclose => 1 | .retry => 2 | .remote => 3

/-- Codes of Table 10-5: bases. -/
def Basis.code : Basis → Nat
  | .order => 0 | .remote => 1

/-- Codes of Table 10-5: branch states. -/
def BranchState.code : BranchState → Nat
  | .disabled => 0 | .polling => 1 | .enrolling _ => 2

/-- Codes of Table 10-5: line senses. -/
def Sense.code : Sense → Nat
  | .clear => 0 | .own => 1 | .external => 2

/-- Codes of Table 6-1: alarm kinds. -/
def AlarmKind.code : AlarmKind → Nat
  | .travelTimeout => 1 | .stall => 2 | .obstructed => 3 | .closeFailed => 4 | .disagree => 5
  | .linkLost => 6 | .lowPressure => 7 | .localOpen => 8 | .lineExternal => 9 | .foreignUnit => 10
  | .heelStale => 11 | .noTable => 12 | .trunkFault => 13

/-- The alarm kind that a code of Table 6-1 names. -/
def AlarmKind.ofCode : Nat → Option AlarmKind
  | 1 => some .travelTimeout | 2 => some .stall | 3 => some .obstructed | 4 => some .closeFailed
  | 5 => some .disagree | 6 => some .linkLost | 7 => some .lowPressure | 8 => some .localOpen
  | 9 => some .lineExternal | 10 => some .foreignUnit | 11 => some .heelStale | 12 => some .noTable
  | 13 => some .trunkFault | _ => none

/-- Notice class: the entry leaves the list when its condition ends (section 6.1, Table 6-1). -/
def AlarmKind.isNotice : AlarmKind → Bool
  | .localOpen | .lineExternal => true
  | _ => false

/-- Subject numbers: slots 0 to 63, branches 64 to 67, the device 68 (section 6.1). -/
def Subject.code : Subject → Nat
  | .door d => d.val
  | .branch b => 64 + b.val
  | .device => 68

/-- The subject that a number names (section 6.1). -/
def Subject.ofCode (n : Nat) : Option Subject :=
  if h : n < 64 then some (.door ⟨n, h⟩)
  else if h : n - 64 < 4 then some (.branch ⟨n - 64, h⟩)
  else if n = 68 then some .device
  else none

/-- Each kind belongs to one type of subject (Table 6-1). -/
def AlarmKind.suits : AlarmKind → Subject → Bool
  | .lineExternal, .branch _ | .foreignUnit, .branch _ => true
  | .heelStale, .device | .noTable, .device | .trunkFault, .device => true
  | .travelTimeout, .door _ | .stall, .door _ | .obstructed, .door _ | .closeFailed, .door _ => true
  | .disagree, .door _ | .linkLost, .door _ | .lowPressure, .door _ | .localOpen, .door _ => true
  | _, _ => false

/-- An absent station is carried as 31 (Tables 6-4, 10-7 and 10-9). -/
def stationByte (st : Option Station) : Byte := (st.getD 31#5).setWidth 8

/-- The lowest byte values of a branch frame (Table 8-3), without its check. -/
def BranchFrame.body : BranchFrame → List Byte
  | .poll a c => [0x01, byte a, byte c.code]
  | .unassign => [0x02]
  | .call lo hi => [0x03, lo, hi]
  | .assign serial a => 0x04 :: bytes48 serial ++ [byte a]

/-- The bytes of a branch frame on the data line, its check included (section 8.2). -/
def BranchFrame.bytes (f : BranchFrame) : List Byte := f.body ++ bytes16 (crc f.body)

/-- Priority at which the part sends a class (Table 9-3). -/
def TxClass.priority : TxClass → Nat
  | .notice => 0 | .answer => 1 | .part => 2 | .reply => 3

/-- Frame kind of a class (Table 9-3). -/
def TxClass.kind : TxClass → Nat
  | .answer => 1 | .part => 2 | .notice => 3 | .reply => 6

/-- Header and payload of a trunk frame (Table 9-2). -/
def trunkBody (priority kind : Nat) (src tgt : Station) (payload : List Byte) : List Byte :=
  byte (priority * 64 + kind * 4 + src.toNat / 8) :: byte (src.toNat % 8 * 32 + tgt.toNat) ::
    byte payload.length :: payload

/-- A trunk frame on the wire, its check included (Table 9-2). -/
def trunkBytes (priority kind : Nat) (src tgt : Station) (payload : List Byte) : List Byte :=
  trunkBody priority kind src tgt payload ++ bytes16 (crc (trunkBody priority kind src tgt payload))

/-- The bytes of a frame of the transmit queue on the wire. -/
def TxFrame.wire (c : TxClass) (f : TxFrame) : List Byte :=
  trunkBytes c.priority c.kind f.src f.tgt f.payload

end Sys2Proof.Machine
end

