-- ==== Sys2Proof/Machine/Tables.lean ====
section
/-! DEFINITION. The table set (Chapter 7): loading a record, the fields of each record, the check value and
validation. -/

namespace Sys2Proof.Machine

open Sys2Proof

/-! ### Records and their places -/

/-- Record length of a table (Table 7-1). -/
def recordLength : Nat → Nat
  | 1 => 11 | 2 => 3 | 3 => 1 | 4 => 8 | 5 => 14 | 6 => 12 | 7 => 7 | _ => 0

/-- Number of indexes of a table (Table 7-1); 0 for a table id outside 1 to 7. -/
def tableSize : Nat → Nat
  | 1 => 1 | 2 => 4 | 3 => 16 | 4 => 8 | 5 => 64 | 6 => 8 | 7 => 16 | _ => 0

/-- Canonical order of records: table id, then index (R131). -/
def recordBefore (r q : Record) : Bool :=
  r.table < q.table || (r.table == q.table && r.index < q.index)

/-- A record of a set: its index lies in its table and its bytes have the table's length (R119). -/
def recordWf (r : Record) : Bool :=
  r.index < tableSize r.table && r.bytes.length == recordLength r.table

/-- The canonical form of a set: strictly rising, each record of its table's length. -/
def setWf : TableSet → Bool
  | [] => true
  | [r] => recordWf r
  | r :: q :: rest => recordWf r && recordBefore r q && setWf (q :: rest)

/-- The bytes of a record of the set, if present (R119). -/
def lookup (t : TableSet) (table index : Nat) : Option (List Byte) :=
  match t with
  | [] => none
  | r :: rest => if r.table == table && r.index == index then some r.bytes else lookup rest table index

/-- Make a record present with the given bytes, replacing the bytes it had (R119). -/
def putRecord (t : TableSet) (new : Record) : TableSet :=
  match t with
  | [] => [new]
  | r :: rest =>
    if recordBefore new r then new :: r :: rest
    else if recordBefore r new then r :: putRecord rest new
    else new :: rest

/-! ### Fields of the records (section 7.6) -/

/-- Device record fields (R121, Table 7-3). -/
structure DeviceRec where
  station : Byte
  defaultHeel : Nat
  tag : List Byte
deriving DecidableEq, Repr

/-- Table 7-3. -/
def DeviceRec.decode (b : List Byte) : DeviceRec :=
  ⟨at_ b 0, (at16 b 1).toNat, (b.drop 3).take 8⟩

/-- Branch record fields (R122, Table 7-4). -/
structure BranchRec where
  enabled : Byte
  classMin : Byte
  classMax : Byte
deriving DecidableEq, Repr

/-- Table 7-4. -/
def BranchRec.decode (b : List Byte) : BranchRec := ⟨at_ b 0, at_ b 1, at_ b 2⟩

/-- Group record fields (R124, Table 7-5). -/
structure GroupRec where
  budget : Nat
  pNom : Nat
  margin : Nat
  tCap : Nat
  lagTolerance : Nat
deriving DecidableEq, Repr

/-- Table 7-5. -/
def GroupRec.decode (b : List Byte) : GroupRec :=
  ⟨(at_ b 0).toNat, (at16 b 1).toNat, (at_ b 3).toNat, (at16 b 4).toNat, (at16 b 6).toNat⟩

/-- P_floor: half of P_nom, rounded down (R13, R74). -/
def GroupRec.pFloor (g : GroupRec) : Nat := g.pNom / 2

/-- Door record fields (R125, Table 7-6). -/
structure DoorRec where
  serial : Serial
  branch : BranchId
  zone : ZoneId
  group : GroupId
  draw : Nat
  tNom : Nat
  heelFactor : Nat
  warningLead : Nat
  recloseDwell : Nat
deriving DecidableEq, Repr

/-- Table 7-6: byte 6 holds zone (bits 7 to 4) and draw (bits 3 to 0), byte 7 branch (bits 5 to 4) and
group (bits 2 to 0). -/
def DoorRec.decode (b : List Byte) : DoorRec where
  serial := at48 b 0
  branch := Fin.ofNat 4 ((at_ b 7).extractLsb' 4 2).toNat
  zone := Fin.ofNat 16 ((at_ b 6).extractLsb' 4 4).toNat
  group := Fin.ofNat 8 ((at_ b 7).extractLsb' 0 3).toNat
  draw := ((at_ b 6).extractLsb' 0 4).toNat
  tNom := (at16 b 8).toNat
  heelFactor := (at_ b 10).toNat
  warningLead := (at_ b 11).toNat
  recloseDwell := (at16 b 12).toNat

/-- Rights of a panel, by their bit in Table 7-7. -/
inductive Right where
  | mode | release | door | ack | line
deriving DecidableEq, Repr

/-- Bit of a right (Table 7-7). -/
def Right.bit : Right → Nat
  | .mode => 0 | .release => 1 | .door => 2 | .ack => 3 | .line => 4

/-- Panel record fields (R126, Table 7-7). -/
structure PanelRec where
  station : Byte
  rights : Byte
  zoneSet : BitVec 16
  doorSet : BitVec 64
deriving DecidableEq, Repr

/-- Table 7-7. -/
def PanelRec.decode (b : List Byte) : PanelRec := ⟨at_ b 0, at_ b 1, at16 b 2, at64 b 4⟩

/-- The panel holds the right. -/
def PanelRec.holds (p : PanelRec) (r : Right) : Bool := p.rights.getLsbD r.bit

/-- The zone is in the panel's zone set. -/
def PanelRec.hasZone (p : PanelRec) (z : ZoneId) : Bool := p.zoneSet.getLsbD z.val

/-- The slot is in the panel's door set. -/
def PanelRec.hasDoor (p : PanelRec) (d : Slot) : Bool := p.doorSet.getLsbD d.val

/-- Acceptance entry fields (Table 9-6). -/
structure AcceptRec where
  kindEnable : Bool
  kind : Nat
  source : Station
  mask : Station
  selector : Nat
  payload : Byte
  payloadMask : Byte
  action : Nat
deriving DecidableEq, Repr

/-- Table 9-6. -/
def AcceptRec.decode (b : List Byte) : AcceptRec where
  kindEnable := (at_ b 0).getLsbD 7
  kind := ((at_ b 0).extractLsb' 0 4).toNat
  source := (at_ b 1).extractLsb' 0 5
  mask := (at_ b 2).extractLsb' 0 5
  selector := (at_ b 3).toNat
  payload := at_ b 4
  payloadMask := at_ b 5
  action := (at_ b 6).toNat

/-! ### Check value (section 7.8) -/

/-- The stream over which the check value is computed (R131). -/
def checkStream (t : TableSet) : List Byte :=
  t.flatMap fun r => byte r.table :: byte r.index :: r.bytes

/-- The check value of a set (R132). -/
def checkValue (t : TableSet) : BitVec 16 := crc (checkStream t)

/-! ### Validation (section 7.7) -/

/-- Validation reasons (Table 7-8). -/
inductive Reason where
  | range | missing | duplicate | limit | check
deriving DecidableEq, Repr

/-- Values of Table 7-8. -/
def Reason.code : Reason → Nat
  | .range => 1 | .missing => 2 | .duplicate => 3 | .limit => 4 | .check => 5

/-- A failure report: table id, index, reason (R128). -/
structure Failure where
  table : Nat
  index : Nat
  reason : Reason
deriving DecidableEq, Repr

/-- `lo ≤ n ≤ hi`. -/
def inRange (lo hi n : Nat) : Bool := lo ≤ n && n ≤ hi

/-- The reason of the first check of a list that fails (R128). -/
def firstFailing : List (Bool × Reason) → Option Reason
  | [] => none
  | (ok, why) :: rest => if ok then firstFailing rest else some why

/-- The door records of lower index, among the records examined before (R128). -/
def doorsIn (earlier : TableSet) : List DoorRec :=
  (earlier.filter fun r => r.table == 5).map fun r => DoorRec.decode r.bytes

/-- Branch record present with enabled 01H (R122). -/
def branchEnabled (t : TableSet) (b : BranchId) : Bool :=
  match lookup t 2 b.val with
  | some bs => (BranchRec.decode bs).enabled == 1
  | none => false

/-- The checks of a door record (Table 7-9), in order. -/
def doorChecks (t earlier : TableSet) (bs : List Byte) : List (Bool × Reason) :=
  let r := DoorRec.decode bs
  let g := GroupRec.decode ((lookup t 4 r.group.val).getD [])
  [ (r.serial != 0, .range),
    ((at_ bs 7) &&& 0xC8#8 == 0, .range),
    (branchEnabled t r.branch, .missing),
    ((lookup t 3 r.zone.val).isSome, .missing),
    ((lookup t 4 r.group.val).isSome, .missing),
    (inRange 1 15 r.draw, .range),
    (r.draw ≤ g.budget, .limit),
    (inRange 50 600 r.tNom, .range),
    (r.tNom ≤ g.tCap, .limit),
    (r.heelFactor ≤ 100, .range),
    (r.warningLead ≤ 100, .range),
    (r.recloseDwell ≤ 300, .range),
    ((doorsIn earlier).all fun q => q.serial != r.serial, .duplicate),
    (((doorsIn earlier).filter fun q => q.branch == r.branch).length < 16, .limit) ]

/-- The checks of one record (Table 7-9), in order. `earlier` holds the records examined before it. -/
def recordChecks (own : Station) (t earlier : TableSet) (r : Record) : List (Bool × Reason) :=
  let bs := r.bytes
  match r.table with
  | 1 =>
    let v := DeviceRec.decode bs
    [ (v.station.toNat ≤ 30, .range), (v.station != own.setWidth 8, .duplicate),
      (v.defaultHeel ≤ 300, .range),
      (v.tag.all fun c => inRange 0x20 0x7E c.toNat, .range) ]
  | 2 =>
    let v := BranchRec.decode bs
    [ (v.enabled.toNat ≤ 1, .range), (inRange 1 15 v.classMin.toNat, .range),
      (inRange 1 15 v.classMax.toNat, .range), (v.classMin.toNat ≤ v.classMax.toNat, .range) ]
  | 3 => [ ((at_ bs 0).toNat ≤ 7, .range) ]
  | 4 =>
    let v := GroupRec.decode bs
    [ (inRange 1 60 v.budget, .range), (inRange 50 350 v.pNom, .range), (v.margin ≤ 100, .range),
      (inRange 100 1200 v.tCap, .range), (inRange 50 500 v.lagTolerance, .range) ]
  | 5 => doorChecks t earlier bs
  | 6 =>
    let v := PanelRec.decode bs
    [ (inRange 1 30 v.station.toNat, .range), (v.rights &&& 0xE0#8 == 0, .range),
      (v.station != own.setWidth 8, .duplicate),
      (earlier.all fun q => q.table != 6 || at_ q.bytes 0 != v.station, .duplicate) ]
  | 7 =>
    [ ((at_ bs 0) &&& 0x70#8 == 0, .range), ((at_ bs 1) &&& 0xE0#8 == 0, .range),
      ((at_ bs 2) &&& 0xE0#8 == 0, .range), ((at_ bs 3).toNat ≤ 2, .range),
      ((at_ bs 6).toNat ≤ 4, .range) ]
  | _ => []

/-- The records from `rest` on, in canonical order; the first failure stops the validation (R128). -/
def validateFrom (own : Station) (t earlier : TableSet) : TableSet → Option Failure
  | [] => none
  | r :: rest =>
    match firstFailing (recordChecks own t earlier r) with
    | some why => some ⟨r.table, r.index, why⟩
    | none => validateFrom own t (earlier ++ [r]) rest

/-- Validation of a set against the own id (R128, R129): none, or the first failure. -/
def validate (own : Station) (t : TableSet) : Option Failure :=
  if (lookup t 1 0).isNone then some ⟨1, 0, .missing⟩ else validateFrom own t [] t

/-- The check value is compared first; a set whose value differs is not validated (R133). -/
def examine (own : Station) (t : TableSet) (expected : BitVec 16) : Option Failure :=
  if checkValue t = expected then validate own t else some ⟨0, 0, .check⟩

end Sys2Proof.Machine
end

