-- ==== Sys2Proof/Machine/Views.lean ====
section
/-! DEFINITION. Views: the records of the ACTIVE bank, and the figures that the rules define as functions of
the state (door state, effective close order, group accounts, queue order, counts of the alarm list). -/

namespace Sys2Proof.Machine

open Sys2Proof

/-! ### The active table set (R120) -/

/-- The bank of a name. -/
def Banks.get (bs : Banks) : BankId → Bank
  | .a => bs.a
  | .b => bs.b

/-- Replace the bank of a name. -/
def Banks.put (bs : Banks) (id : BankId) (v : Bank) : Banks :=
  match id with
  | .a => { bs with a := v }
  | .b => { bs with b := v }

/-- The first bank in the given state, if any; A is looked at first. -/
def Banks.find (bs : Banks) (st : BankState) : Option BankId :=
  if bs.a.state = st then some .a else if bs.b.state = st then some .b else none

/-- The set of the ACTIVE bank (R120). -/
def State.activeSet (s : State) : Option TableSet :=
  (s.banks.find .active).map fun id => (s.banks.get id).set

/-- The bytes of a record of the active set. -/
def State.activeRecord (s : State) (table index : Nat) : Option (List Byte) :=
  s.activeSet.bind fun t => lookup t table index

/-- A bank is PENDING (R55, R165). -/
def State.bankPending (s : State) : Bool := (s.banks.find .pending).isSome

/-- The active device record (R121). -/
def State.deviceRec (s : State) : Option DeviceRec := (s.activeRecord 1 0).map DeviceRec.decode

/-- The active branch record (R122). -/
def State.branchRec (s : State) (b : BranchId) : Option BranchRec :=
  (s.activeRecord 2 b.val).map BranchRec.decode

/-- A branch is enabled while the active set holds its record with enabled 1 (R122). -/
def State.enabled (s : State) (b : BranchId) : Bool :=
  match s.activeSet with
  | some t => branchEnabled t b
  | none => false

/-- The active set holds a record of the zone (R123). -/
def State.hasZone (s : State) (z : ZoneId) : Bool := (s.activeRecord 3 z.val).isSome

/-- Priority of a zone (R123). -/
def State.zonePriority (s : State) (z : ZoneId) : Nat := (at_ ((s.activeRecord 3 z.val).getD []) 0).toNat

/-- The active group record; all fields 0 where there is none (R46). -/
def State.groupRec (s : State) (g : GroupId) : GroupRec :=
  GroupRec.decode ((s.activeRecord 4 g.val).getD [])

/-- The active door record (R125). -/
def State.doorRec (s : State) (d : Slot) : Option DoorRec :=
  (s.activeRecord 5 d.val).map DoorRec.decode

/-- A slot is fitted while the active bank holds a door record for it (R1). -/
def State.fitted (s : State) (d : Slot) : Bool := (s.doorRec d).isSome

/-- The records of one table of a set, in index order. -/
def tableRecords (t : TableSet) (table : Nat) : List (List Byte) :=
  (t.filter fun r => r.table == table).map fun r => r.bytes

/-- The panel record that names a station (R126, R30). -/
def State.panel (s : State) (st : Station) : Option PanelRec :=
  match s.activeSet with
  | some t => ((tableRecords t 6).map PanelRec.decode).find? fun p => p.station == st.setWidth 8
  | none => none

/-- The present acceptance entries in index order (R127). -/
def State.acceptance (s : State) : List AcceptRec :=
  match s.activeSet with
  | some t => (tableRecords t 7).map AcceptRec.decode
  | none => []

/-- All slots, ascending. -/
def slots : List Slot := List.finRange 64

/-- All zones, ascending. -/
def zoneIds : List ZoneId := List.finRange 16

/-- All branches, ascending. -/
def branchIds : List BranchId := List.finRange 4

/-- All groups, ascending. -/
def groupIds : List GroupId := List.finRange 8

/-- The fitted doors with their records, in ascending order of slot. -/
def State.fittedDoors (s : State) : List (Slot × DoorRec) :=
  slots.filterMap fun d => (s.doorRec d).map fun r => (d, r)

/-! ### Door state (section 1.4) -/

/-- Derivation of the door state from a report (Table 1-7, first line that holds). -/
def Report.doorState (r : Report) : DoorState :=
  if (r.closedLimit && r.openLimit) || (r.closedLimit && r.position < 980)
      || (r.openLimit && 20 < r.position) then .disagree
  else match r.motion with
    | .closing => .movingClose
    | .opening => .movingOpen
    | .still => if r.closedLimit then .closed else if r.openLimit then .opened else .intermediate

/-- The door state: derived from the last report while the link is ONLINE, UNKNOWN otherwise (R12). -/
def Door.state (d : Door) : DoorState :=
  if d.link = .online then
    match d.report with
    | some r => r.doorState
    | none => .unknown
  else .unknown

/-- The door state of the end position of a direction (R14, R60, R68). -/
def Dir.endState : Dir → DoorState
  | .closing => .closed
  | .opening => .opened

/-- The report has the limit switch of a direction's end position set (R61). -/
def Report.limit (r : Report) : Dir → Bool
  | .closing => r.closedLimit
  | .opening => r.openLimit

/-- The report shows the handle at the side against a direction (R61). -/
def Report.handleAgainst (r : Report) : Dir → Bool
  | .closing => r.handle = .openSide
  | .opening => r.handle = .closeSide

/-- CLOSED, or MOVING-CLOSE with the closed limit set in the last report (R16, R39). -/
def Door.atClosed (d : Door) : Bool :=
  match d.state with
  | .closed => true
  | .movingClose => (d.report.map Report.closedLimit).getD false
  | _ => false

/-- The last report shows the handle at OPEN-SIDE. -/
def Door.handleOpen (d : Door) : Bool := (d.report.map fun r => r.handle == .openSide).getD false

/-- The admission stands (R47): an admission or motion record is kept. -/
def Door.stands (d : Door) : Bool :=
  match d.move with
  | .none => false
  | _ => true

/-- Direction of an admission or motion. -/
def Move.dir : Move → Option Dir
  | .none => Option.none
  | .admitted a => some a.dir
  | .started m => some m.dir

/-- Direction of a retry wait. -/
def Timer.dir : Timer → Option Dir
  | .retry _ dir _ _ => some dir
  | _ => Option.none

/-- Direction that a door is queued, admitted, driven or waiting for, by its phase (R33 to R35, R38). -/
def Door.goal (d : Door) : Option Dir :=
  match d.phase with
  | .queued => d.entry.map Entry.dir
  | .warning | .driving => d.move.dir
  | .retryWait => d.timer.dir
  | _ => none

/-! ### The condition set -/

/-- Direction of a motion-end kind, if the kind is present. -/
def Conds.dirOf (c : Conds) : AlarmKind → Option Dir
  | .travelTimeout => c.travelTimeout
  | .stall => c.stall
  | .obstructed => c.obstructed
  | .closeFailed => c.closeFailed
  | _ => none

/-- The kind is present in the condition set. -/
def Conds.has (c : Conds) : AlarmKind → Bool
  | .travelTimeout => c.travelTimeout.isSome
  | .stall => c.stall.isSome
  | .obstructed => c.obstructed.isSome
  | .closeFailed => c.closeFailed.isSome
  | .disagree => c.disagree
  | .linkLost => c.linkLost
  | .lowPressure => c.lowPressure
  | .localOpen => c.localOpen
  | _ => false

/-- Enter a motion-end kind with its direction, replacing the older direction (R5). -/
def Conds.enterEnd (c : Conds) (k : AlarmKind) (dir : Dir) : Conds :=
  match k with
  | .travelTimeout => { c with travelTimeout := some dir }
  | .stall => { c with stall := some dir }
  | .obstructed => { c with obstructed := some dir }
  | .closeFailed => { c with closeFailed := some dir }
  | _ => c

/-- Set a level kind present or absent (R5). -/
def Conds.setLevel (c : Conds) (k : AlarmKind) (v : Bool) : Conds :=
  match k with
  | .disagree => { c with disagree := v }
  | .linkLost => { c with linkLost := v }
  | .lowPressure => { c with lowPressure := v }
  | .localOpen => { c with localOpen := v }
  | _ => c

/-- Remove a kind. -/
def Conds.remove (c : Conds) (k : AlarmKind) : Conds :=
  match k with
  | .travelTimeout => { c with travelTimeout := none }
  | .stall => { c with stall := none }
  | .obstructed => { c with obstructed := none }
  | .closeFailed => { c with closeFailed := none }
  | k => c.setLevel k false

/-! ### The effective close order (R37) -/

/-- The line sense of the branch is OWN or EXTERNAL. -/
def State.lineHeld (s : State) (b : BranchId) : Bool := s.branches[b].sense != .clear

/-- A fitted door holds an effective close order while its zone is in DOORS-CLOSED mode or its branch's
line sense is OWN or EXTERNAL; a slot that is not fitted holds none (R37). -/
def State.orderHeld (s : State) (d : Slot) : Bool :=
  match s.doorRec d with
  | some r => s.zones[r.zone].closed || s.lineHeld r.branch
  | none => false

/-! ### Group accounts (section 3.1) -/

/-- Sum over a list. -/
def total {α : Type} (f : α → Nat) : List α → Nat
  | [] => 0
  | x :: xs => f x + total f xs

/-- The fitted doors of a group. -/
def State.groupDoors (s : State) (g : GroupId) : List (Slot × DoorRec) :=
  s.fittedDoors.filter fun p => p.2.group == g

/-- Draw of an admission that stands (R47). -/
def Move.draw : Move → Nat
  | .none => 0
  | .admitted a => a.draw
  | .started m => m.draw

/-- Draw of a door's holds (R48). -/
def Door.held (d : Door) : Nat := total Hold.draw d.holds

/-- Flow that a door commits: its admission that stands and its holds (R47, R48). -/
def Door.committed (d : Door) : Nat := d.move.draw + d.held

/-- The door counts towards unadmitted (R49). DESIGN CHOICE (log entry 43): it counts so at once where its motion
ends with its last report showing movement, not from its next report. -/
def Door.countsUnadmitted (d : Door) : Bool :=
  d.link == .online && (d.report.map fun r => r.motion != .still).getD false
    && !d.stands && d.holds.isEmpty

/-- Budget of a group; 0 without a group record (R46). -/
def State.budget (s : State) (g : GroupId) : Nat := (s.groupRec g).budget

/-- Held figure of a group (R48). -/
def State.heldFlow (s : State) (g : GroupId) : Nat :=
  total (fun p => s.doors[p.1].held) (s.groupDoors g)

/-- Committed figure of a group (R47). -/
def State.committed (s : State) (g : GroupId) : Nat :=
  total (fun p => s.doors[p.1].committed) (s.groupDoors g)

/-- Unadmitted figure of a group (R49). -/
def State.unadmitted (s : State) (g : GroupId) : Nat :=
  total (fun p => if s.doors[p.1].countsUnadmitted then p.2.draw else 0) (s.groupDoors g)

/-- Free figure of a group; it may be negative (R50). -/
def State.free (s : State) (g : GroupId) : Int :=
  (s.budget g : Int) - (s.committed g : Int) - (s.unadmitted g : Int)

/-! ### Group queues (section 3.2) -/

/-- An entry of a group queue with its door. -/
structure Queued where
  slot : Slot
  record : DoorRec
  entry : Entry
deriving DecidableEq, Repr

/-- The entries of a group's queue, in ascending order of slot. -/
def State.queue (s : State) (g : GroupId) : List Queued :=
  (s.groupDoors g).filterMap fun p => s.doors[p.1].entry.map fun en => ⟨p.1, p.2, en⟩

/-- The queue order (R52): CLOSE before OPEN, higher zone priority, earlier queued-at, lower slot, each
key deciding only where the ones before it are equal. -/
def State.queueBefore (s : State) (x y : Queued) : Bool :=
  if x.entry.dir != y.entry.dir then x.entry.dir == .closing
  else if s.zonePriority x.record.zone != s.zonePriority y.record.zone then
    s.zonePriority y.record.zone < s.zonePriority x.record.zone
  else if elapsed s.uptime x.entry.queuedAt != elapsed s.uptime y.entry.queuedAt then
    elapsed s.uptime y.entry.queuedAt < elapsed s.uptime x.entry.queuedAt
  else x.slot < y.slot

/-- The element that stands first in an order. -/
def firstBy {α : Type} (before : α → α → Bool) : List α → Option α
  | [] => none
  | x :: xs =>
    match firstBy before xs with
    | none => some x
    | some y => if before y x then some y else some x

/-- The head of a group's queue (R52). -/
def State.queueHead (s : State) (g : GroupId) : Option Queued := firstBy s.queueBefore (s.queue g)

/-- A group is quiescent while its committed figure is 0 and its queue is empty (R70). -/
def State.quiescent (s : State) (g : GroupId) : Bool := s.committed g == 0 && (s.queue g).isEmpty

/-- All eight groups are quiescent (R70). -/
def State.allQuiescent (s : State) : Bool := groupIds.all s.quiescent

/-! ### Bindings of a branch -/

/-- The fitted doors of a branch with their records. -/
def State.branchDoors (s : State) (b : BranchId) : List (Slot × DoorRec) :=
  s.fittedDoors.filter fun p => p.2.branch == b

/-- The bound doors of a branch with their addresses (R137). -/
def State.bound (s : State) (b : BranchId) : List (Slot × Nat) :=
  (s.branchDoors b).filterMap fun p => s.doors[p.1].binding.map fun a => (p.1, a)

/-- The fitted door bound to an address of a branch (R140). -/
def State.doorAt (s : State) (b : BranchId) (a : Nat) : Option Slot :=
  ((s.bound b).find? fun p => p.2 == a).map Prod.fst

/-! ### Counts of the alarm list (R116) -/

/-- Unacknowledged listed entries and unacknowledged marks (R116). -/
def Alarms.unacked (a : Alarms) : Nat :=
  (a.entries.filter fun x => x.ackBy.isNone).length + (a.marks.filter fun x => x.ackBy.isNone).length

/-- A count carried in one byte, holding at 255 (R116). -/
def hold255 (n : Nat) : Byte := byte (min n 255)

/-- The alarm standing of a door: an unacknowledged entry, or a pending mark (R116). -/
def Alarms.standing (a : Alarms) (d : Slot) : Bool :=
  (a.entries.any fun x => x.subject == .door d && x.ackBy.isNone)
    || a.marks.any fun x => x.subject == .door d

/-- The pending alarm marks of a door, as a set of kinds (R6). -/
def Alarms.hasMark (a : Alarms) (d : Slot) (k : AlarmKind) : Bool :=
  a.marks.any fun x => x.subject == .door d && x.kind == k

end Sys2Proof.Machine
end

