-- ==== Sys2Proof/Machine/Alarm.lean ====
section
/-! DEFINITION. The Alarm Unit (Chapter 6): requests, entries, pending marks, notices and the filling of
freed room. -/

namespace Sys2Proof.Machine

open Sys2Proof

/-- A request to the Alarm Unit (R103): a raise, a clear, an acknowledgement by a station (R110), the
removal of a subject at a swap (R118), or the word that the removals of an ACK-ALL or of a swap are done,
before which their freed room is not filled (R111, R118). -/
inductive AlarmReq where
  | raise (subject : Subject) (kind : AlarmKind)
  | clear (subject : Subject) (kind : AlarmKind)
  | ack (subject : Subject) (kind : AlarmKind) (station : Station)
  | drop (subject : Subject)
  | removalsDone
deriving DecidableEq, Repr

/-! ### Notices -/

/-- Changes of a notice (Table 6-4, byte 0). -/
inductive Change where
  | raised | reactivated | cleared | acknowledged | removed | again
deriving DecidableEq, Repr

/-- Codes of Table 6-4, byte 0; `again` is REPEAT. -/
def Change.code : Change → Nat
  | .raised => 1 | .reactivated => 2 | .cleared => 3 | .acknowledged => 4 | .removed => 5 | .again => 6

/-- The standing byte (Table 6-4, byte 3). -/
def standingByte (marked active acked full : Bool) : Byte :=
  byte (bit marked 0 + bit active 1 + bit acked 2 + bit full 3)

/-- The notice class takes a notice: at its tail while it holds fewer than 4, over the newest waiting
one otherwise (R115). -/
def Trunk.offerNotice (t : Trunk) (f : TxFrame) : Trunk :=
  { t with notices := if t.notices.length < 4 then t.notices ++ [f] else t.notices.dropLast ++ [f] }

/-- Build an ALARM-NOTICE for an entry with the counts as they now are, and hand it to the notice class
(R114, R116). -/
def State.noticeEntry (s : State) (c : Change) (x : AlarmEntry) : State :=
  { s with
    trunk := s.trunk.offerNotice ⟨s.trunk.ownId, broadcast,
      [byte c.code, byte x.subject.code, byte x.kind.code,
       standingByte false x.active x.ackBy.isSome (!s.alarms.marks.isEmpty),
       byte s.alarms.entries.length, hold255 s.alarms.unacked, byte x.count, stationByte x.ackBy]
        ++ bytes32 x.raisedAt⟩ }

/-- Build an ALARM-NOTICE for a mark: place MARKED, active set, raise count 0, raised-at the present
uptime (R114). -/
def State.noticeMark (s : State) (c : Change) (m : Mark) : State :=
  { s with
    trunk := s.trunk.offerNotice ⟨s.trunk.ownId, broadcast,
      [byte c.code, byte m.subject.code, byte m.kind.code,
       standingByte true true m.ackBy.isSome (!s.alarms.marks.isEmpty),
       byte s.alarms.entries.length, hold255 s.alarms.unacked, 0, stationByte m.ackBy]
        ++ bytes32 s.uptime⟩ }

/-! ### The list and the marks -/

/-- The entry is that of the pair. -/
def AlarmEntry.isPair (x : AlarmEntry) (j : Subject) (k : AlarmKind) : Bool := x.subject == j && x.kind == k

/-- The mark is that of the pair. -/
def Mark.isPair (x : Mark) (j : Subject) (k : AlarmKind) : Bool := x.subject == j && x.kind == k

/-- The entry of a pair. -/
def Alarms.entry (a : Alarms) (j : Subject) (k : AlarmKind) : Option AlarmEntry :=
  a.entries.find? fun x => x.isPair j k

/-- The mark of a pair. -/
def Alarms.mark (a : Alarms) (j : Subject) (k : AlarmKind) : Option Mark := a.marks.find? fun x => x.isPair j k

/-- Remove the entry of a pair. -/
def Alarms.without (a : Alarms) (j : Subject) (k : AlarmKind) : Alarms :=
  { a with entries := a.entries.filter fun x => !x.isPair j k }

/-- Put an entry in the place of the entry of its pair. -/
def Alarms.replace (a : Alarms) (new : AlarmEntry) : Alarms :=
  { a with entries := a.entries.map fun x => if x.isPair new.subject new.kind then new else x }

/-- Add an entry at the tail. -/
def Alarms.append (a : Alarms) (new : AlarmEntry) : Alarms := { a with entries := a.entries ++ [new] }

/-- Remove the mark of a pair. -/
def Alarms.unmark (a : Alarms) (j : Subject) (k : AlarmKind) : Alarms :=
  { a with marks := a.marks.filter fun x => !x.isPair j k }

/-- Order of marks: ascending subject, then kind order (R113). -/
def Mark.before (x y : Mark) : Bool :=
  x.subject.code < y.subject.code || (x.subject.code == y.subject.code && x.kind.code < y.kind.code)

/-- Insert a mark at its place. -/
def insertMark (new : Mark) : List Mark → List Mark
  | [] => [new]
  | m :: ms => if new.before m then new :: m :: ms else m :: insertMark new ms

/-- Put a mark in the place of the mark of its pair, or at its place in the order. -/
def Alarms.setMark (a : Alarms) (new : Mark) : Alarms :=
  { a with marks := insertMark new (a.marks.filter fun x => !x.isPair new.subject new.kind) }

/-- Raise count, holding at 255 (R107). -/
def countUp (n : Nat) : Nat := min 255 (n + 1)

/-- The alarm list takes a new value. -/
def State.withAlarms (s : State) (a : Alarms) : State := { s with alarms := a }

/-- Add a new entry of a pair at the tail: active, unacknowledged, raised now, raise count 1; its notice
is RAISED (R108, R113). -/
def State.listNew (s : State) (j : Subject) (k : AlarmKind) : State :=
  let x : AlarmEntry := ⟨j, k, s.uptime, true, none, 1⟩
  (s.withAlarms (s.alarms.append x)).noticeEntry .raised x

/-- Remove an entry; its notice is REMOVED and carries the entry as the change leaves it. -/
def State.unlist (s : State) (x : AlarmEntry) : State :=
  (s.withAlarms (s.alarms.without x.subject x.kind)).noticeEntry .removed x

/-- Set a mark of a pair and send its notice. -/
def State.putMark (s : State) (c : Change) (m : Mark) : State :=
  (s.withAlarms (s.alarms.setMark m)).noticeMark c m

/-- A raise of a pair (R107, R108). -/
def State.takeRaise (s : State) (j : Subject) (k : AlarmKind) : State :=
  match s.alarms.entry j k with
  | some x =>
    if x.active then
      let y := { x with count := countUp x.count }
      (s.withAlarms (s.alarms.replace y)).noticeEntry .raised y
    else
      let y := { x with active := true, ackBy := none, raisedAt := s.uptime, count := countUp x.count }
      (s.withAlarms ((s.alarms.without j k).append y)).noticeEntry .reactivated y
  | none =>
    match s.alarms.mark j k with
    | some _ => s.putMark .raised ⟨j, k, none⟩
    | none =>
      if s.alarms.entries.length < 64 then s.listNew j k
      else
        match s.alarms.entries.find? fun x => x.ackBy.isSome with
        | some old => (s.unlist old).listNew j k
        | none => s.putMark .raised ⟨j, k, none⟩

/-- A clear of a pair (R109). -/
def State.takeClear (s : State) (j : Subject) (k : AlarmKind) : State :=
  match s.alarms.entry j k with
  | some x =>
    if x.active then
      let y := { x with active := false }
      if k.isNotice || x.ackBy.isSome then s.unlist y
      else (s.withAlarms (s.alarms.replace y)).noticeEntry .cleared y
    else s
  | none =>
    match s.alarms.mark j k with
    | some m => (s.withAlarms (s.alarms.unmark j k)).noticeMark .cleared m
    | none => s

/-- An acknowledgement of a pair by a station (R110). -/
def State.takeAck (s : State) (j : Subject) (k : AlarmKind) (st : Station) : State :=
  match s.alarms.entry j k with
  | some x =>
    match x.active, x.ackBy with
    | true, none =>
      let y := { x with ackBy := some st }
      (s.withAlarms (s.alarms.replace y)).noticeEntry .acknowledged y
    | true, some _ => s
    | false, _ => s.unlist { x with ackBy := some st }
  | none =>
    match s.alarms.mark j k with
    | some m => if m.ackBy.isNone then s.putMark .acknowledged ⟨j, k, some st⟩ else s
    | none => s

/-- The removal of a subject at a swap: each listed entry with a REMOVED notice, in list order, and
every mark without a notice (R118). -/
def State.takeDrop (s : State) (j : Subject) : State :=
  let s1 := (s.alarms.entries.filter fun x => x.subject == j).foldl State.unlist s
  s1.withAlarms { s1.alarms with marks := s1.alarms.marks.filter fun m => m.subject != j }

/-- One request taken. -/
def State.takeReq (s : State) : AlarmReq → State
  | .raise j k => s.takeRaise j k
  | .clear j k => s.takeClear j k
  | .ack j k st => s.takeAck j k st
  | .drop j => s.takeDrop j
  | .removalsDone => s

/-- The request, taken now, removes an entry from the list (R113: by a clear, an acknowledgement or a
swap removal; an eviction is none). -/
def State.reqRemoves (s : State) : AlarmReq → Bool
  | .raise _ _ => false
  | .clear j k =>
    match s.alarms.entry j k with
    | some x => x.active && (k.isNotice || x.ackBy.isSome)
    | none => false
  | .ack j k _ =>
    match s.alarms.entry j k with
    | some x => !x.active
    | none => false
  | .drop j => s.alarms.entries.any fun x => x.subject == j
  | .removalsDone => false

/-- Some request of the list, taken in turn without filling, removes an entry, or ends the removals of an
ACK-ALL or of a swap. -/
def State.laterRemoves (s : State) : List AlarmReq → Bool
  | [] => false
  | r :: rs => r == .removalsDone || s.reqRemoves r || (s.takeReq r).laterRemoves rs

/-- Marks enter a list with room, in their order (R113). -/
def State.fillFrom (s : State) : List Mark → State
  | [] => s
  | m :: ms =>
    if s.alarms.entries.length < 64 then
      ((s.withAlarms (s.alarms.unmark m.subject m.kind)).listNew m.subject m.kind).fillFrom ms
    else s

/-- The filling of freed room from the marks (R113). -/
def State.fill (s : State) : State := s.fillFrom s.alarms.marks

/-- The requests of one event in their order, with the word whether an entry has been removed since the last
filling. The room that the removals free is filled once, after the last of them: where, the room being
filled, no later request of the event removes an entry (R103, R111, R113, R118; log entry 14). -/
def State.takeReqs (s : State) (freed : Bool) : List AlarmReq → State
  | [] => s
  | r :: rs =>
    if (freed || s.reqRemoves r) && !(s.takeReq r).fill.laterRemoves rs then
      (s.takeReq r).fill.takeReqs false rs
    else (s.takeReq r).takeReqs (freed || s.reqRemoves r) rs

/-- The REPEAT of a re-announce expiry: for the first unacknowledged entry in list order, else for the
first unacknowledged mark in subject and kind order, else none (R117). -/
def State.reannounce (s : State) : State :=
  match s.alarms.entries.find? fun x => x.ackBy.isNone with
  | some x => s.noticeEntry .again x
  | none =>
    match s.alarms.marks.find? fun x => x.ackBy.isNone with
    | some m => s.noticeMark .again m
    | none => s

/-! ### What an acknowledgement names (R36, R110, R111) -/

/-- ACK-ALL acts on the doors of the panel's door set and on every branch and device subject (R111). -/
def PanelRec.covers (p : PanelRec) : Subject → Bool
  | .door d => p.hasDoor d
  | _ => true

/-- The first pass of an ACK-ALL: the listed entries in list order, then the marks in subject and kind order;
freed room is filled once the pass is complete (R111). -/
def Alarms.ackAllReqs (a : Alarms) (p : PanelRec) (st : Station) : List AlarmReq :=
  ((a.entries.filter fun x => p.covers x.subject).map fun x => .ack x.subject x.kind st)
    ++ ((a.marks.filter fun x => p.covers x.subject).map fun x => .ack x.subject x.kind st)
    ++ [.removalsDone]

end Sys2Proof.Machine
end

