-- ==== Sys2Proof/Machine/Travel.lean ====
section
/-! DEFINITION. Travel Timing (Chapter 4): the travel allowance, the selected heel and the lag check. -/

namespace Sys2Proof.Machine

open Sys2Proof

/-- Division that rounds up (R72). -/
def ceilDiv (a b : Nat) : Nat := (a + b - 1) / b

/-- First stage of the allowance: heel (R73). `h` is the heel magnitude, counted up to 300. -/
def base1 (tNom k h : Nat) : Nat := ceilDiv (tNom * (10000 + k * min h 300)) 10000

/-- Pressure as counted (R74): the failed-sensor mark counts as P_floor, and the value is limited to
P_floor from below and to P_nom from above. -/
def pEff (g : GroupRec) (pressure : Option Nat) : Nat :=
  min g.pNom (max g.pFloor (pressure.getD g.pFloor))

/-- Second stage: pressure (R74). -/
def base2 (b1 : Nat) (g : GroupRec) (pressure : Option Nat) : Nat :=
  ceilDiv (b1 * g.pNom) (pEff g pressure)

/-- Third stage: margin (R75). -/
def base3 (b2 : Nat) (g : GroupRec) : Nat := ceilDiv (b2 * (100 + g.margin)) 100

/-- T_allow (R72 to R75). -/
def allowance (r : DoorRec) (g : GroupRec) (h : Nat) (pressure : Option Nat) : Nat :=
  min (base3 (base2 (base1 r.tNom r.heelFactor h) g pressure) g) g.tCap

/-- Which source the selected heel is reported from (R78). -/
inductive HeelFrom where
  | primary | secondary | default
deriving DecidableEq, Repr

/-- Codes of Table 10-5: heel source reported. -/
def HeelFrom.code : HeelFrom → Nat
  | .primary => 0 | .secondary => 1 | .default => 2

/-- Source of the selected heel, by the first line of R78 that holds. -/
def Heel.from_ (h : Heel) : HeelFrom :=
  if h.primary.fresh then .primary else if h.secondary.fresh then .secondary else .default

/-- The selected heel in tenths of a degree (R78); none while neither source is fresh and no bank is
ACTIVE, where the spec states no value. -/
def State.selectedHeel (s : State) : Option Int :=
  match s.heel.from_ with
  | .primary => some (s.heel.primary.value.getD 0)
  | .secondary => some (s.heel.secondary.value.getD 0)
  | .default => s.deviceRec.map fun v => (v.defaultHeel : Int)

/-- Heel magnitude (R73): the sign of the heel is not counted. -/
def State.heelMagnitude (s : State) : Nat := (s.selectedHeel.getD 0).natAbs

/-- A heel value clamped to the range -450 to 450 (R76). -/
def clampHeel (v : BitVec 16) : Int := max (-450) (min 450 v.toInt)

/-- The heel source record of a name. -/
def Heel.get (h : Heel) : HeelSrc → HeelSource
  | .primary => h.primary
  | .secondary => h.secondary

/-- Replace a heel source record. -/
def Heel.put (h : Heel) (src : HeelSrc) (v : HeelSource) : Heel :=
  match src with
  | .primary => { h with primary := v }
  | .secondary => { h with secondary := v }

/-- Neither source is fresh (R79). -/
def Heel.noneFresh (h : Heel) : Bool := !h.primary.fresh && !h.secondary.fresh

/-- Position expected of a motion at time `t` since its start (R84, R85). -/
def Motion.expected (m : Motion) (t : Nat) : Nat :=
  match m.dir with
  | .closing => m.q0 + (1000 - m.q0) * t / m.allowance
  | .opening => m.q0 - m.q0 * t / m.allowance

/-- A report is lagging (R84, R85). -/
def Motion.lagging (m : Motion) (t q tolerance : Nat) : Bool :=
  match m.dir with
  | .closing => q + tolerance < m.expected t
  | .opening => m.expected t + tolerance < q

/-- Time of a report since the start of the motion, limited to T_allow (R83). -/
def Motion.since (m : Motion) (now : Time) : Nat := min (elapsed now m.start) m.allowance

/-- The lag count after a report: kept in the start grace of 2.0 s, else one more at a lagging report and
0 at another (R83, R86). -/
def Motion.lagAfter (m : Motion) (now : Time) (q tolerance : Nat) : Nat :=
  if m.since now < 20 then m.lag
  else if m.lagging (m.since now) q tolerance then m.lag + 1 else 0

/-- The report is checked and takes the lag count to 2 (R86). -/
def Motion.stalls (m : Motion) (now : Time) (q tolerance : Nat) : Bool :=
  20 ≤ m.since now && m.lagging (m.since now) q tolerance && 1 ≤ m.lag

end Sys2Proof.Machine
end

