-- ==== Sys2Proof/Machine/Ops.lean ====
section
/-! DEFINITION. The shared operations on the door records: conditions, command slot, phases, holds, and the
loss of a link or of a binding. An event works on an `Ev`: the state, and the alarm requests that it
has handed so far, which are taken together at its end (R103, R113). -/

namespace Sys2Proof.Machine

open Sys2Proof

/-- The state within an event, with the alarm requests handed so far, in order. -/
structure Ev extends State where
  reqs : List AlarmReq

/-- An event begins. -/
def State.begin (s : State) : Ev := { s with reqs := [] }

/-- Change one door record. -/
def Ev.modDoor (e : Ev) (d : Slot) (f : Door → Door) : Ev :=
  { e with doors := e.doors.set d (f e.doors[d]) }

/-- Change every door record. -/
def Ev.modDoors (e : Ev) (f : Slot → Door → Door) : Ev :=
  { e with doors := Vector.ofFn fun d => f d e.doors[d] }

/-- Change one branch. -/
def Ev.modBranch (e : Ev) (b : BranchId) (f : Branch → Branch) : Ev :=
  { e with branches := e.branches.set b (f e.branches[b]) }

/-- Change one zone record. -/
def Ev.modZone (e : Ev) (z : ZoneId) (f : Zone → Zone) : Ev :=
  { e with zones := e.zones.set z (f e.zones[z]) }

/-- Hand a request to the Alarm Unit. -/
def Ev.push (e : Ev) (r : AlarmReq) : Ev := { e with reqs := e.reqs ++ [r] }

/-- Event flags by their bit in Table 10-7. -/
inductive EventFlag where
  | powerOn | restartPin | restartRequest | nvCheckFailed | storeDone | storeFailed
  | enrollDone | enrollAborted | activationCancelled | rxDiscard
deriving DecidableEq, Repr

/-- Bit of an event flag (Table 10-7). -/
def EventFlag.bit : EventFlag → Nat
  | .powerOn => 0 | .restartPin => 1 | .restartRequest => 2 | .nvCheckFailed => 3 | .storeDone => 4
  | .storeFailed => 5 | .enrollDone => 6 | .enrollAborted => 7 | .activationCancelled => 8
  | .rxDiscard => 9

/-- An event flag is set (R171). -/
def Mgr.setFlag (m : Mgr) (f : EventFlag) : Mgr :=
  { m with events := m.events ||| BitVec.twoPow 16 f.bit }

/-- An event flag is set (R171). -/
def Ev.setFlag (e : Ev) (f : EventFlag) : Ev := { e with mgr := e.mgr.setFlag f }

/-! ### Conditions (section 1.2) -/

/-- Enter a motion-end kind: its raise is sent also when it is present (R5). -/
def Ev.enterEnd (e : Ev) (d : Slot) (k : AlarmKind) (dir : Dir) : Ev :=
  (e.modDoor d fun r => { r with conds := r.conds.enterEnd k dir }).push (.raise (.door d) k)

/-- Enter a level kind if absent (R5). -/
def Ev.enterLevel (e : Ev) (d : Slot) (k : AlarmKind) : Ev :=
  if e.doors[d].conds.has k then e
  else (e.modDoor d fun r => { r with conds := r.conds.setLevel k true }).push (.raise (.door d) k)

/-- Remove a kind if present (R5). -/
def Ev.dropCond (e : Ev) (d : Slot) (k : AlarmKind) : Ev :=
  if e.doors[d].conds.has k then
    (e.modDoor d fun r => { r with conds := r.conds.remove k }).push (.clear (.door d) k)
  else e

/-- The motion-end kinds in kind order (R14). -/
def motionEndKinds : List AlarmKind := [.travelTimeout, .stall, .obstructed, .closeFailed]

/-- Remove the motion-end kinds of a direction (R14). -/
def Ev.dropEnds (e : Ev) (d : Slot) (dir : Dir) : Ev :=
  motionEndKinds.foldl
    (fun e k => if e.doors[d].conds.dirOf k = some dir then e.dropCond d k else e) e

/-! ### Command slot (section 1.6) -/

/-- Place a command: it replaces what the slot holds; an OPEN is not taken on a door that holds an
effective close order (R26). -/
def Ev.place (e : Ev) (d : Slot) (c : Cmd) : Ev :=
  if c = .openDoor && e.orderHeld d then e else e.modDoor d fun r => { r with slot := c }

/-! ### Phases (section 1.5) -/

/-- The door takes a phase without a timer (R15: the timer is cleared when DWELL or RETRY-WAIT is left). -/
def Ev.toPhase (e : Ev) (d : Slot) (p : Phase) : Ev :=
  e.modDoor d fun r => { r with phase := p, timer := .none }

/-- The retry count becomes 0. -/
def Ev.zeroRetry (e : Ev) (d : Slot) : Ev := e.modDoor d fun r => { r with retry := 0 }

/-- The queue entry is removed without admission (R53). -/
def Ev.dropEntry (e : Ev) (d : Slot) (p : Phase) : Ev :=
  (e.modDoor d fun r => { r with entry := none }).toPhase d p

/-- The admission or motion record is dropped and its draw released (R60, section 3.5). -/
def Ev.dropMove (e : Ev) (d : Slot) (p : Phase) : Ev :=
  (e.modDoor d fun r => { r with move := .none }).toPhase d p

/-! ### Holds (R48, R66, R67) -/

/-- The LINK-LOST hold of a motion with the given start and allowance; none if it ends at once (R48). -/
def linkLostHold (now : Time) (draw : Nat) (start : Time) (allowed : Nat) : List Hold :=
  if allowed ≤ elapsed now start then []
  else [⟨draw, .linkLost (start + BitVec.ofNat 32 allowed)⟩]

/-- A HALT hold at the loss of the link or of the binding: converted when its movement had started,
released otherwise (R67). -/
def Hold.convert (now : Time) (h : Hold) : List Hold :=
  match h.kind with
  | .linkLost _ => [h]
  | .halt none => []
  | .halt (some (start, allowed)) => linkLostHold now h.draw start allowed

/-- A HALTED or CANCELLED end: HALT is placed, the draw passes into a HALT hold, and the door is IDLE
(R67). -/
def Ev.endHalted (e : Ev) (d : Slot) : Ev :=
  ((e.modDoor d fun r =>
      match r.move with
      | .none => r
      | .admitted a => { r with holds := r.holds ++ [⟨a.draw, .halt none⟩] }
      | .started m => { r with holds := r.holds ++ [⟨m.draw, .halt (some (m.start, m.allowance))⟩] }
    ).place d .halt).dropMove d .idle

/-! ### Loss of the link and of the binding -/

/-- The HALT holds of a door are converted or released (R67). -/
def Door.convertHalts (now : Time) (r : Door) : Door :=
  { r with holds := r.holds.flatMap (Hold.convert now) }

/-- The phase consequences of a link that leaves ONLINE (R10, R66). -/
def Door.leavePhase (now : Time) (r : Door) : Door :=
  match r.phase, r.move with
  | .queued, _ => { r with entry := none, phase := .idle }
  | .warning, _ => { r with move := .none, slot := .warnOff, phase := .idle }
  | .driving, .started m =>
    { r with move := .none, phase := .idle, holds := r.holds ++ linkLostHold now m.draw m.start m.allowance }
  | .driving, _ => { r with move := .none, slot := .halt, phase := .idle }
  | _, _ => r

/-- The door's link leaves ONLINE, if it was ONLINE, and takes another link state (R10). -/
def Door.leaveOnline (now : Time) (dest : LinkState) (r : Door) : Door :=
  if r.link = .online then { (r.leavePhase now).convertHalts now with link := dest }
  else { r with link := dest }

/-- The door loses its binding: UNBOUND, no last report, slot NONE (R9, R26, R67). -/
def Door.unbind (now : Time) (r : Door) : Door :=
  { (r.leaveOnline now .unbound).convertHalts now with binding := none, report := none, slot := .none }

/-- The door is bound to an address: PENDING, miss count 0 (R9, R146). -/
def Door.bind (now : Time) (a : Nat) (r : Door) : Door :=
  { r.leaveOnline now .pending with binding := some a, miss := 0 }

end Sys2Proof.Machine
end

