-- ==== Sys2Proof/Machine/Flags.lean ====
section
/-! DEFINITION. Flags and codes derived from the state: the door and zone bytes of the indication (Chapter 5)
and the state flags of the device status (R171). -/

namespace Sys2Proof.Machine

open Sys2Proof

/-- Door indication codes (Table 5-2). -/
inductive DoorCode where
  | notFitted | noData | closed | opened | intermediate | closing | opening | localOpen | fault
deriving DecidableEq, Repr

/-- Values of Table 5-2. -/
def DoorCode.code : DoorCode → Nat
  | .notFitted => 0 | .noData => 1 | .closed => 2 | .opened => 3 | .intermediate => 4
  | .closing => 5 | .opening => 6 | .localOpen => 7 | .fault => 8

/-- A motion-end kind is present in the condition set (R5). -/
def Conds.anyEnd (c : Conds) : Bool :=
  c.travelTimeout.isSome || c.stall.isSome || c.obstructed.isSome || c.closeFailed.isSome

/-- The code of a door, by the first line of Table 5-2 that holds (R88). -/
def State.doorCode (s : State) (d : Slot) : DoorCode :=
  let r := s.doors[d]
  if !s.fitted d then .notFitted
  else if r.link ≠ .online then .noData
  else if r.state = .disagree || r.conds.anyEnd then .fault
  else if s.orderHeld d && (r.phase == .heldLocal || r.phase == .dwell) then .localOpen
  else match r.state with
    | .movingClose => .closing
    | .movingOpen => .opening
    | .closed => .closed
    | .opened => .opened
    | _ => .intermediate

/-- The ORDER flag (R89). -/
def State.orderFlag (s : State) (d : Slot) : Bool := s.orderHeld d

/-- The LINE flag (R89). -/
def State.lineFlag (s : State) (d : Slot) : Bool :=
  match s.doorRec d with
  | some r => s.lineHeld r.branch
  | none => false

/-- The ALARM flag (R89, R116). -/
def State.alarmFlag (s : State) (d : Slot) : Bool := s.fitted d && s.alarms.standing d

/-- The QUEUED flag (R89). -/
def State.queuedFlag (s : State) (d : Slot) : Bool :=
  s.fitted d && (s.doors[d].phase == .queued || s.doors[d].phase == .warning)

/-- The door byte (Table 5-5); 00H for a slot that is not fitted (R89). -/
def State.doorByte (s : State) (d : Slot) : Byte :=
  byte ((s.doorCode d).code + bit (s.orderFlag d) 4 + bit (s.lineFlag d) 5 + bit (s.alarmFlag d) 6
    + bit (s.queuedFlag d) 7)

/-- The fitted doors whose door record names the zone. -/
def State.zoneDoors (s : State) (z : ZoneId) : List Slot :=
  (s.fittedDoors.filter fun p => p.2.zone == z).map Prod.fst

/-- Zone summary: 0 NO-DOORS, 1 ALL-CLOSED, 2 NOT-ALL-CLOSED (R90). -/
def State.zoneSummary (s : State) (doors : List Slot) : Nat :=
  if doors.isEmpty then 0 else if doors.all fun d => s.doorCode d == .closed then 1 else 2

/-- The door state is MOVING-CLOSE or MOVING-OPEN. -/
def DoorState.moving : DoorState → Bool
  | .movingClose | .movingOpen => true
  | _ => false

/-- The zone byte (R90, R91, Table 5-5). -/
def State.zoneByte (s : State) (z : ZoneId) : Byte :=
  let doors := s.zoneDoors z
  byte (s.zoneSummary doors + bit s.zones[z].closed 4
    + bit (doors.any fun d => s.doorCode d == .fault || s.doorCode d == .noData) 5
    + bit (doors.any s.alarmFlag) 6
    + bit (doors.any fun d => s.doors[d].state.moving) 7)

/-- The image derived from the present state (R88 to R91, R93). -/
def State.picture (s : State) : Picture := ⟨slots.map s.doorByte, zoneIds.map s.zoneByte⟩

/-- ANY-ZONE-CLOSED (R28). -/
def State.anyZoneClosed (s : State) : Bool := zoneIds.any fun z => s.zones[z].closed

/-- Some line sense is OWN or EXTERNAL (R164). -/
def State.anyLineHeld (s : State) : Bool := branchIds.any s.lineHeld

/-- The branch is ENROLLING. -/
def Branch.isEnrolling (b : Branch) : Bool :=
  match b.state with
  | .enrolling _ => true
  | _ => false

/-- The state flags of page 0 (R171, Table 10-7). -/
def State.stateFlags (s : State) : Byte :=
  byte (bit s.activeSet.isSome 0 + bit s.bankPending 1 + bit s.store.pinned.isSome 2
    + bit s.anyZoneClosed 3
    + bit s.branches[(0 : BranchId)].isEnrolling 4 + bit s.branches[(1 : BranchId)].isEnrolling 5
    + bit s.branches[(2 : BranchId)].isEnrolling 6 + bit s.branches[(3 : BranchId)].isEnrolling 7)

end Sys2Proof.Machine
end

