-- ==== Sys2Proof/Machine/Enrollment.lean ====
section
/-! DEFINITION. Enrollment of the door local units (section 8.4): free addresses, the binding of a run
record, the foreign unit list, and the end or abort of a run. -/

namespace Sys2Proof.Machine

open Sys2Proof

/-- The branch addresses 1 to 16. -/
def addresses : List Nat := [1, 2, 3, 4, 5, 6, 7, 8, 9, 10, 11, 12, 13, 14, 15, 16]

/-- The run in progress on a branch. -/
def Branch.run (b : Branch) : Option Run :=
  match b.state with
  | .enrolling r => some r
  | _ => none

/-- The branch is POLLING. -/
def Branch.isPolling (b : Branch) : Bool :=
  match b.state with
  | .polling => true
  | _ => false

/-- An address is held by a binding of a door of the branch, by an entry of the foreign unit list, or by
a pair of the run record (R144). -/
def State.addressHeld (s : State) (b : BranchId) (r : Run) (a : Nat) : Bool :=
  ((s.bound b).any fun p => p.2 == a)
    || (s.branches[b].foreign.any fun f => f.address == some a)
    || r.pairs.any fun p => p.2 == a

/-- The lowest free address of a branch (R144). -/
def State.freeAddress (s : State) (b : BranchId) (r : Run) : Option Nat :=
  addresses.find? fun a => !s.addressHeld b r a

/-- The fitted door of the branch that carries a serial (R146). -/
def State.doorOfSerial (s : State) (b : BranchId) (serial : Serial) : Option Slot :=
  ((s.branchDoors b).find? fun p => p.2.serial == serial).map Prod.fst

/-- A foreign serial taken into the list: a listed one takes the new address, a new one is added while
fewer than 4 are listed (R147). -/
def foreignList (l : List Foreign) (f : Foreign) : List Foreign :=
  if l.any fun x => x.serial == f.serial then
    l.map fun x => if x.serial == f.serial then f else x
  else if l.length < 4 then l ++ [f] else l

/-- A foreign serial is taken, and FOREIGN-UNIT is raised for the branch, listed or not (R147). -/
def Ev.takeForeign (e : Ev) (b : BranchId) (f : Foreign) : Ev :=
  (e.modBranch b fun r => { r with foreign := foreignList r.foreign f }).push
    (.raise (.branch b) .foreignUnit)

/-- One pair of the run record is bound (R146). -/
def Ev.bindPair (e : Ev) (b : BranchId) (p : Serial × Nat) : Ev :=
  match e.doorOfSerial b p.1 with
  | some d => e.modDoor d (Door.bind e.uptime p.2)
  | none => e.takeForeign b ⟨p.1, some p.2⟩

/-- LINK-LOST of each fitted door of the branch left without a binding, in ascending order of slot, if
absent (R9, R146). -/
def Ev.markUnbound (e : Ev) (b : BranchId) : Ev :=
  (e.branchDoors b).foldl
    (fun e p => if e.doors[p.1].binding.isNone then e.enterLevel p.1 .linkLost else e) e

/-- The branch is POLLING and begins its rotation (R134, R146). -/
def Branch.toPolling (r : Branch) : Branch :=
  { r with state := .polling, rotation := 0, inFlight := none, due := .regular, sent := [] }

/-- The end or abort of a run: its pairs are bound in order, then a serial for which no address was free
is taken as foreign, then the unbound doors are marked; the run record is dropped and the branch is
POLLING (R146, R147). DESIGN CHOICE (log entry 53): that serial comes before the unbound doors. -/
def Ev.closeRun (e : Ev) (b : BranchId) (noAddress : Option Serial) : Ev :=
  match e.branches[b].run with
  | none => e
  | some r =>
    let e1 := r.pairs.foldl (fun e p => e.bindPair b p) e
    let e2 := match noAddress with
      | some serial => e1.takeForeign b ⟨serial, none⟩
      | none => e1
    (e2.markUnbound b).modBranch b Branch.toPolling

/-- The run ends by R144 or R145: ENROLL-DONE is set (R146). -/
def Ev.endRun (e : Ev) (b : BranchId) (noAddress : Option Serial) : Ev :=
  (e.closeRun b noAddress).setFlag .enrollDone

/-- The run is aborted: ENROLL-ABORTED is set (R148). -/
def Ev.abortRun (e : Ev) (b : BranchId) : Ev := (e.closeRun b none).setFlag .enrollAborted

/-- An order set or a queue request for a door bound on an ENROLLING branch aborts the run before it is
taken (R148). -/
def Ev.abortFor (e : Ev) (d : Slot) : Ev :=
  match e.doorRec d with
  | some r =>
    if e.doors[d].binding.isSome && (e.branches[r.branch].run).isSome then e.abortRun r.branch else e
  | none => e

/-- Put frames on the data line of a branch. -/
def Branch.send (r : Branch) (fs : List BranchFrame) : Branch := { r with sent := fs }

/-- The CALL of a branch: the class window of its branch record (R144). -/
def State.callFrame (s : State) (b : BranchId) : BranchFrame :=
  match s.branchRec b with
  | some r => .call r.classMin r.classMax
  | none => .call 0 0

/-- A round begins: the CALL is sent (R144). -/
def Ev.beginRound (e : Ev) (b : BranchId) (r : Run) : Ev :=
  e.modBranch b fun br =>
    { br.send [e.callFrame b] with state := .enrolling { r with step := .calling } }

/-- An ASSIGN is sent; the next round begins when it has been sent (R144). -/
def Ev.sendAssign (e : Ev) (b : BranchId) (r : Run) (serial : Serial) (a : Nat) : Ev :=
  e.modBranch b fun br =>
    { br.send [.assign serial a] with state := .enrolling { r with step := .assigning } }

/-- A FRESH run begins: UNASSIGN, every door bound on the branch loses its binding without LINK-LOST, the
foreign units lose their addresses, and the first CALL follows (R142). -/
def Ev.beginFresh (e : Ev) (b : BranchId) : Ev :=
  let e1 := (e.bound b).foldl (fun e p => e.modDoor p.1 (Door.unbind e.uptime)) e
  e1.modBranch b fun br =>
    { br.send [.unassign, e1.callFrame b] with
      state := .enrolling ⟨.fresh, 0, [], .calling⟩
      inFlight := none
      foreign := br.foreign.map fun f => { f with address := none } }

/-- An ADD run begins with its first round; bindings and foreign addresses are kept (R143). -/
def Ev.beginAdd (e : Ev) (b : BranchId) : Ev :=
  e.modBranch b fun br =>
    { br.send [e.callFrame b] with state := .enrolling ⟨.add, 0, [], .calling⟩, inFlight := none }

/-- A round without progress: repeated while the count stays below 3, else the run ends complete (R145). -/
def Ev.noProgress (e : Ev) (b : BranchId) (r : Run) (again : Ev → Run → Ev) : Ev :=
  let r' := { r with noProgress := r.noProgress + 1 }
  if r'.noProgress < 3 then again e r'
  else (e.modBranch b fun br => { br with state := .enrolling r' }).endRun b none

/-- A complete answer with a correct check (R144, R145). The ASSIGN of a recorded serial is sent again also in
the round that ends the run. DESIGN CHOICE (log entry 45): a recorded serial is taken by its own row of the
table also where every address is held. -/
def Ev.takeAnswer (e : Ev) (b : BranchId) (r : Run) (serial : Serial) : Ev :=
  match r.pairs.find? fun p => p.1 == serial with
  | some p =>
    (e.noProgress b r fun e r' => e.sendAssign b r' p.1 p.2).modBranch b fun br => br.send [.assign p.1 p.2]
  | none =>
    match e.freeAddress b r with
    | some a => e.sendAssign b { r with pairs := r.pairs ++ [(serial, a)], noProgress := 0 } serial a
    | none => e.endRun b (some serial)

/-- A door bound on the branch has a queue entry, has an admission standing or holds an effective close
order (R141). -/
def State.enrollBusy (s : State) (b : BranchId) : Bool :=
  (s.bound b).any fun p => s.doors[p.1].entry.isSome || s.doors[p.1].stands || s.orderHeld p.1

end Sys2Proof.Machine
end

