-- ==== Sys2Proof/Machine/Flow.lean ====
section
/-! DEFINITION. Motion Admission (Chapter 3): queue requests, the flow arbiter, admission, the need-close
check that asks for a queueing, and the motion ends. -/

namespace Sys2Proof.Machine

open Sys2Proof

/-! ### Queue requests (R51, R148) -/

/-- Retry count of a door whose entry is made or replaced (R51). -/
def Origin.retryAfter : Origin → Nat → Nat
  | .retry, n => n + 1
  | _, _ => 0

/-- A queue request (R51): it aborts an enrollment of the branch on which the door is bound (R148); it is
not taken while the link is not ONLINE or the admission stands; else it makes or replaces the entry,
with queued-at the present uptime, and the door is QUEUED. -/
def Ev.request (e : Ev) (d : Slot) (dir : Dir) (origin : Origin) (basis : Basis) : Ev :=
  let e := e.abortFor d
  if e.doors[d].link = .online && !e.doors[d].stands then
    (e.modDoor d fun r =>
      { r with entry := some ⟨dir, origin, basis, e.uptime⟩, retry := origin.retryAfter r.retry }
    ).toPhase d .queued
  else e

/-- The need-close check (R16): a door under an order, ONLINE, not at its closed position, IDLE and without
TRAVEL-TIMEOUT is queued for a close of basis ORDER; with the handle at OPEN-SIDE it goes to HELD-LOCAL
instead (R18). -/
def Ev.needClose (e : Ev) (d : Slot) (origin : Origin) : Ev :=
  let r := e.doors[d]
  if e.orderHeld d && r.link == .online && !r.atClosed && r.phase == .idle
      && r.conds.travelTimeout.isNone then
    if r.handleOpen then e.toPhase d .heldLocal else e.request d .closing origin .order
  else e

/-! ### Admission (R54 to R56) -/

/-- First command and phase of an admission (R56). -/
def firstCommand (dir : Dir) (warningLead : Nat) : Cmd × Phase :=
  match dir with
  | .closing => if 0 < warningLead then (.warnOn, .warning) else (.close, .driving)
  | .opening => (.openDoor, .driving)

/-- The admission record of a head entry (R56, R59): T_allow from the heel selected now and the pressure of
the last report. -/
def Ev.admission (e : Ev) (q : Queued) : Admission :=
  let t := allowance q.record (e.groupRec q.record.group) e.heelMagnitude
    (e.doors[q.slot].report.bind Report.pressure)
  { dir := q.entry.dir
    origin := q.entry.origin
    basis := q.entry.basis
    draw := q.record.draw
    admittedAt := e.uptime
    allowance := t
    issueDeadline := e.uptime + BitVec.ofNat 32 (q.record.warningLead + t)
    leadStart := none }

/-- Admission of the head entry (R56). -/
def Ev.admitHead (e : Ev) (q : Queued) : Ev :=
  let a := e.admission q
  let first := firstCommand q.entry.dir q.record.warningLead
  ((e.modDoor q.slot fun r => { r with entry := none, move := .admitted a }).place q.slot first.1).toPhase
    q.slot first.2

/-- The arbiter of a group admits from the head while the head's draw is no more than the free figure; a
head that does not fit blocks all behind it (R54). -/
def Ev.arbiter (g : GroupId) : Nat → Ev → Ev
  | 0, e => e
  | n + 1, e =>
    match e.queueHead g with
    | some q => if (q.record.draw : Int) ≤ e.free g then Ev.arbiter g n (e.admitHead q) else e
    | none => e

/-- The arbiters run; while a bank is PENDING they admit no door (R54, R55). -/
def Ev.arbiters (e : Ev) : Ev :=
  if e.bankPending then e else groupIds.foldl (fun e g => Ev.arbiter g 64 e) e

/-! ### Delivery of a command (R27, R57, R58, R67) -/

/-- The motion record made from an admission and the echoing reply (R58). -/
def Admission.toMotion (a : Admission) (now : Time) (q0 : Nat) : Motion :=
  ⟨a.dir, a.origin, a.basis, a.draw, now, q0, a.allowance, 0⟩

/-- The command that issues a move in a direction. -/
def Dir.command : Dir → Cmd
  | .closing => .close
  | .opening => .openDoor

/-- What Motion Admission does at the delivery of a command: WARN-ON in WARNING starts a warning lead that
does not yet run; CLOSE or OPEN in DRIVING, not yet started, starts the motion of its direction; HALT
and WARN-OFF have no effect here (R27). -/
def Door.deliver (now : Time) (c : Cmd) (q0 : Nat) (r : Door) : Door :=
  match r.phase, r.move with
  | .warning, .admitted a =>
    if c = .warnOn && a.leadStart.isNone then
      { r with move := .admitted { a with leadStart := some now } }
    else r
  | .driving, .admitted a =>
    if c = a.dir.command then { r with move := .started (a.toMotion now q0) } else r
  | _, _ => r

/-- A HALT hold. -/
def Hold.isHalt (h : Hold) : Bool :=
  match h.kind with
  | .halt _ => true
  | .linkLost _ => false

/-- The echo is compared with the slot (R27): equal to a command, the command is delivered: the slot
becomes NONE, the door's HALT holds end (R67), and Motion Admission takes the delivery. DESIGN CHOICE (log
entry 47): an echo that comes after the issue deadline has replaced its command in the slot is stale, and the
slot is kept. -/
def Ev.takeEcho (e : Ev) (d : Slot) (r : Report) : Ev :=
  let c := e.doors[d].slot
  if c ≠ .none ∧ r.echo = c then
    e.modDoor d fun x =>
      { x with slot := .none, holds := x.holds.filter fun h => !h.isHalt }.deliver e.uptime c r.position
  else e

/-! ### Motion ends (section 3.5) -/

/-- REACHED (R62): flow released, retry count 0, IDLE, slot kept; the motion-end kinds of the direction are
removed (R14). -/
def Ev.endReached (e : Ev) (d : Slot) (dir : Dir) : Ev :=
  ((e.dropMove d .idle).zeroRetry d).dropEnds d dir

/-- PREEMPTED-LOCAL (R65): flow released, HALT placed; HELD-LOCAL under an order, else IDLE. -/
def Ev.endPreempted (e : Ev) (d : Slot) : Ev :=
  (e.place d .halt).dropMove d (if e.orderHeld d then .heldLocal else .idle)

/-- STALL or OBSTRUCTED (R64): flow released, HALT placed, the kind entered with the motion's direction;
then a retry wait of 5.0 s while retries remain, else FAILED or IDLE with CLOSE-FAILED for a close, and
IDLE for an open. -/
def Ev.endStopped (e : Ev) (d : Slot) (m : Motion) (k : AlarmKind) : Ev :=
  let e1 := ((e.dropMove d .idle).place d .halt).enterEnd d k m.dir
  if e.doors[d].retry < 3 then
    e1.modDoor d fun r =>
      { r with phase := .retryWait, timer := .retry (e.uptime + 50#32) m.dir m.origin m.basis }
  else
    match m.dir with
    | .closing =>
      (e1.enterEnd d .closeFailed .closing).toPhase d (if e.orderHeld d then .failed else .idle)
    | .opening => e1

/-- TIMEOUT (R59, R63): flow released, TRAVEL-TIMEOUT entered with the direction, IDLE. -/
def Ev.endTimeout (e : Ev) (d : Slot) (dir : Dir) : Ev :=
  (e.dropMove d .idle).enterEnd d .travelTimeout dir

/-- The end tests of a report of a started motion, in their order (R61), with the lag check (R83 to R86). A
motion that ends leaves the need-close check to be made (R16). -/
def Ev.testEnd (e : Ev) (d : Slot) (rec : DoorRec) (m : Motion) (r : Report) : Ev :=
  let tolerance := (e.groupRec rec.group).lagTolerance
  if r.limit m.dir && e.doors[d].state != .disagree then
    (e.endReached d m.dir).needClose d .order
  else if r.handleAgainst m.dir then (e.endPreempted d).needClose d .order
  else if m.dir == .closing && r.obstruction then (e.endStopped d m .obstructed).needClose d .order
  else if m.stalls e.uptime r.position tolerance then (e.endStopped d m .stall).needClose d .order
  else
    e.modDoor d fun x =>
      { x with move := .started { m with lag := m.lagAfter e.uptime r.position tolerance } }

/-- The report is handed to Motion Admission (stage 5 of R11): the end tests of a started motion; the
withdrawal of an admission whose end position is reached (R60); the end of a retry wait whose end
position is reached (R68); and a FAILED door seen CLOSED becomes IDLE (R24). -/
def Ev.takeMotion (e : Ev) (d : Slot) (rec : DoorRec) (r : Report) : Ev :=
  let x := e.doors[d]
  match x.move with
  | .started m => e.testEnd d rec m r
  | .admitted a =>
    if x.state = a.dir.endState then
      ((if x.phase = .warning then e.place d .warnOff else e).dropMove d .idle).zeroRetry d
    else e
  | .none =>
    match x.phase with
    | .retryWait =>
      if x.timer.dir.map Dir.endState = some x.state then (e.toPhase d .idle).zeroRetry d else e
    | .failed => if x.state = .closed then (e.toPhase d .idle).zeroRetry d else e
    | _ => e

/-! ### Local handle (section 1.5) -/

/-- The handle at OPEN-SIDE under an order sends the door to HELD-LOCAL from every phase except FAILED
(R18). -/
def Ev.holdLocal (e : Ev) (d : Slot) : Ev :=
  match e.doors[d].phase with
  | .failed | .heldLocal => e
  | .queued => e.dropEntry d .heldLocal
  | .warning => (e.place d .warnOff).dropMove d .heldLocal
  | .driving => (e.place d .halt).dropMove d .heldLocal
  | .idle | .dwell | .retryWait => e.toPhase d .heldLocal

/-- The handle rules of a report (stage 6 of R11; R18, R20, R22). DESIGN CHOICE (log entry 55): a report in DWELL that
shows the door CLOSED ends the dwell also with the handle at CLOSE-SIDE. -/
def Ev.takeHandle (e : Ev) (d : Slot) (rec : DoorRec) (r : Report) : Ev :=
  let x := e.doors[d]
  if e.orderHeld d && r.handle == .openSide then e.holdLocal d
  else if x.phase = .heldLocal && r.handle == .idle then
    if x.state = .closed then e.toPhase d .idle
    else if rec.recloseDwell = 0 then (e.toPhase d .idle).needClose d .reclose
    else
      e.modDoor d fun y =>
        { y with phase := .dwell, timer := .dwell (e.uptime + BitVec.ofNat 32 rec.recloseDwell) }
  else if x.phase = .dwell && x.state = .closed then e.toPhase d .idle
  else e

/-! ### The valid reply (R11) -/

/-- DISAGREE, LOW-PRESSURE and LOCAL-OPEN are judged, and the motion-end kinds of an end position that the
report shows are removed (stage 7 of R11; R13, R14, R19). -/
def Ev.judge (e : Ev) (d : Slot) (rec : DoorRec) (r : Report) : Ev :=
  let st := e.doors[d].state
  let floor := (e.groupRec rec.group).pFloor
  let e1 := if st = .disagree then e.enterLevel d .disagree else e.dropCond d .disagree
  let e2 := match r.pressure with
    | some p => if p < floor then e1.enterLevel d .lowPressure else e1.dropCond d .lowPressure
    | none => e1
  let ph := e.doors[d].phase
  let e3 :=
    if st = .closed then e2.dropCond d .localOpen
    else if e.orderHeld d && (ph == .heldLocal || ph == .dwell || ph == .failed) then
      e2.enterLevel d .localOpen
    else e2
  if st = .closed then e3.dropEnds d .closing
  else if st = .opened then e3.dropEnds d .opening
  else e3

/-- The report is a drift report against the last report before it (R17). -/
def Ev.drifts (e : Ev) (d : Slot) (before : Option Report) (r : Report) : Bool :=
  e.orderHeld d && e.doors[d].phase == .idle && r.handle == .idle && e.doors[d].state != .closed
    && (match before with
        | some p =>
          p.doorState == .closed || (p.doorState == .movingClose && p.closedLimit) || p.handle != .idle
        | none => false)

/-- A valid reply taken into the record of its door, in the stages of R11. -/
def Ev.takeReport (e : Ev) (d : Slot) (rec : DoorRec) (r : Report) : Ev :=
  let before := e.doors[d].report
  let wasOnline := e.doors[d].link == .online
  let e1 := e.modDoor d fun x => { x with report := some r, miss := 0, link := .online }
  let e2 := if wasOnline then e1 else e1.dropCond d .linkLost
  let e3 := e2.takeEcho d r
  let e4 := e3.takeMotion d rec r
  let e5 := e4.takeHandle d rec r
  let e6 := e5.judge d rec r
  if !wasOnline || e6.drifts d before r then e6.needClose d .order else e6

/-- A poll without a valid reply (R8): the miss count goes up to 3; at 3 a PENDING or ONLINE link becomes
LOST, with LINK-LOST entered if absent and the consequences of R10. -/
def Ev.takeMiss (e : Ev) (d : Slot) : Ev :=
  let e1 := e.modDoor d fun x => { x with miss := min 3 (x.miss + 1) }
  let x := e1.doors[d]
  if x.miss = 3 && (x.link == .pending || x.link == .online) then
    (e1.modDoor d (Door.leaveOnline e.uptime .lost)).enterLevel d .linkLost
  else e1

end Sys2Proof.Machine
end

