-- ==== Sys2Proof/Machine/Orders.lean ====
section
/-! DEFINITION. The Order Unit's changes (Chapter 2): order set and order release of a door, line senses and
latches, and the recomputation of the effective close orders. -/

namespace Sys2Proof.Machine

open Sys2Proof

/-! ### Order set (R38, R39) -/

/-- The door is brought into line with an order that begins (R38): an open is withdrawn, a close is kept,
and a command slot holding OPEN takes HALT. -/
def Ev.withdrawOpen (e : Ev) (d : Slot) : Ev :=
  let x := e.doors[d]
  let e1 :=
    if x.goal = some .opening then
      match x.phase with
      | .queued => e.dropEntry d .idle
      | .driving => e.endHalted d
      | .retryWait => (e.toPhase d .idle).zeroRetry d
      | _ => e
    else e
  if e1.doors[d].slot = .openDoor then e1.place d .halt else e1

/-- The outcome of a door that is IDLE at its order set (R39): the need-close check; a door held local at its
order set has LOCAL-OPEN at once. -/
def Ev.orderOutcome (e : Ev) (d : Slot) : Ev :=
  if e.doors[d].phase = .idle then
    let e1 := e.needClose d .order
    if e1.doors[d].phase = .heldLocal then e1.enterLevel d .localOpen else e1
  else e

/-- An order set (R38, R39, R148). -/
def Ev.orderSet (e : Ev) (d : Slot) : Ev := (((e.abortFor d).withdrawOpen d).orderOutcome d)

/-! ### Order release (R40) -/

/-- The entry or admission has origin ORDER, RECLOSE or RETRY. -/
def Origin.ofOrder : Origin → Bool
  | .remote => false
  | _ => true

/-- The phase consequences of an order release (R40, first table). -/
def Ev.releasePhase (e : Ev) (d : Slot) : Ev :=
  let x := e.doors[d]
  match x.phase, x.entry, x.move with
  | .queued, some en, _ =>
    if en.dir == .closing && en.origin.ofOrder then e.dropEntry d .idle else e
  | .warning, _, .admitted a =>
    if a.origin.ofOrder then (e.place d .warnOff).dropMove d .idle else e
  | .heldLocal, _, _ | .dwell, _, _ | .retryWait, _, _ | .failed, _, _ => e.toPhase d .idle
  | _, _, _ => e

/-- An order release (R40): the order-driven work is withdrawn, the retry count becomes 0, and
TRAVEL-TIMEOUT, CLOSE-FAILED and LOCAL-OPEN are removed. -/
def Ev.orderRelease (e : Ev) (d : Slot) : Ev :=
  ((((e.releasePhase d).zeroRetry d).dropCond d .travelTimeout).dropCond d .closeFailed).dropCond d .localOpen

/-! ### Pending activation (R41) -/

/-- A zone that was in LOCAL-CONTROL before is in DOORS-CLOSED mode, or a line sense that was CLEAR before
is OWN or EXTERNAL. -/
def State.newlyOrdered (before after : State) : Bool :=
  (zoneIds.any fun z => after.zones[z].closed && !before.zones[z].closed)
    || branchIds.any fun b => after.lineHeld b && !before.lineHeld b

/-- A bank changes state. -/
def Banks.setState (bs : Banks) (id : BankId) (st : BankState) : Banks :=
  bs.put id { bs.get id with state := st }

/-- A PENDING bank returns to READY and ACTIVATION-CANCELLED is set (R41, R165). -/
def Ev.cancelPending (e : Ev) : Ev :=
  match e.banks.find .pending with
  | some id => { e with banks := e.banks.setState id .ready, mgr := e.mgr.setFlag .activationCancelled }
  | none => e

/-! ### Recomputation (R37) -/

/-- What a recomputation hands for one door: an order set, an order release, or nothing (R37). -/
def Ev.handOrder (before : State) (e : Ev) (d : Slot) : Ev :=
  match before.orderHeld d, e.orderHeld d with
  | false, true => e.orderSet d
  | true, false => e.orderRelease d
  | _, _ => e

/-- The effective close order of every fitted door is recomputed, and each change is handed in ascending
order of slot (R37). -/
def Ev.recompute (before : State) (e : Ev) : Ev :=
  e.fittedDoors.foldl (fun e p => e.handOrder before p.1) e

/-- Zone modes or line senses have changed: a PENDING bank returns to READY where an order source begins
(R41), and the orders are recomputed (R37). -/
def Ev.sourcesChanged (before : State) (e : Ev) : Ev :=
  (if before.newlyOrdered e.toState then e.cancelPending else e).recompute before

/-! ### Zone modes (R28) -/

/-- A change of mode: set-by takes the source station, set-at the uptime; a zone already in the mode keeps
its record (R28). -/
def Ev.setMode (e : Ev) (z : ZoneId) (closed : Bool) (by_ : Station) : Ev :=
  if e.zones[z].closed = closed then e
  else e.modZone z fun _ => ⟨closed, some by_, e.uptime⟩

/-! ### Emergency close lines (section 2.4) -/

/-- The line sense takes a value; LINE-EXTERNAL is raised when it becomes EXTERNAL and cleared when it
leaves EXTERNAL (R44). -/
def Ev.setSense (e : Ev) (b : BranchId) (v : Sense) : Ev :=
  let old := e.branches[b].sense
  let e1 := e.modBranch b fun r => { r with sense := v }
  if old = v then e1
  else if v = .external then e1.push (.raise (.branch b) .lineExternal)
  else if old = .external then e1.push (.clear (.branch b) .lineExternal)
  else e1

/-- Sense that a sample of a released line gives (R43). -/
def sampledSense (low : Bool) : Sense := if low then .external else .clear

/-- The line of a branch is sampled: its sense follows the level while the latch is released (R43). -/
def Ev.sample (e : Ev) (b : BranchId) : Ev :=
  if e.branches[b].latch then e else e.setSense b (sampledSense e.pins.lineLow[b])

/-- The line latch is set: the sense becomes OWN at once (R42, R43). -/
def Ev.latchSet (e : Ev) (b : BranchId) : Ev :=
  (e.modBranch b fun r => { r with latch := true }).setSense b .own

/-- The line latch is released, and the line is sampled once at the release (R42, R43); a latch that is
already released is left. -/
def Ev.latchRelease (e : Ev) (b : BranchId) : Ev :=
  if e.branches[b].latch then (e.modBranch b fun r => { r with latch := false }).sample b else e

end Sys2Proof.Machine
end

