-- ==== Sys2Proof/Machine/Settle.lean ====
section
/-! DEFINITION. The end of an event: the pending swap at quiescence, the arbiters, the alarm requests of the
event, the live image and its freeze, and the polls that are due. -/

namespace Sys2Proof.Machine

open Sys2Proof

/-! ### The bank swap (R166) -/

/-- The record of a slot at a swap (R4). A swap finds no entry, admission, motion or hold (R71), and its record
has none. -/
def swapDoor (now : Time) (old new : Option DoorRec) (r : Door) : Door :=
  match new with
  | none => Door.blank
  | some n =>
    let kept : Bool :=
      match old with
      | some o => o.branch == n.branch && o.serial == n.serial
      | none => false
    let r1 := if kept then r else r.unbind now
    { r1 with phase := .idle, retry := 0, timer := .none, entry := none, move := .none, holds := [] }

/-- LINK-LOST of a slot that became UNBOUND at a swap, if absent (R4). -/
def Ev.swapLost (old : State) (e : Ev) (d : Slot) : Ev :=
  match old.doorRec d, e.doorRec d with
  | some o, some n => if o.branch = n.branch ∧ o.serial = n.serial then e else e.enterLevel d .linkLost
  | none, some _ => e.enterLevel d .linkLost
  | _, none => e

/-- The removal of a subject that is no longer fitted (R118). -/
def Ev.swapDrop (old : State) (e : Ev) (d : Slot) : Ev :=
  if old.fitted d && !e.fitted d then e.push (.drop (.door d)) else e

/-- A branch at a swap or restart: POLLING when the set enables it, DISABLED otherwise; the poll in flight is
dropped (R134). The ASSIGN of a run that ended in the same event stays in `sent`. -/
def Branch.restate (enabled : Bool) (r : Branch) : Branch :=
  { r with
    state := if enabled then .polling else .disabled
    rotation := 0
    inFlight := none
    due := .regular
    sent := if r.rotation = 0 then r.sent else [] }

/-- The swap (R166): the runs in progress are abandoned and bound under the outgoing set (R149), the incoming
bank becomes ACTIVE and the ACTIVE one RETIRED (R161), the door records and branches are re-derived (R4,
R134), the alarm requests are handed in the order of R118, and the orders are recomputed (R37). DESIGN CHOICE (log
entry 49): the runs of several branches hand their requests in ascending order of branch. -/
def Ev.swap (e : Ev) (incoming : BankId) : Ev :=
  let e0 := branchIds.foldl (fun e b => if (e.branches[b].run).isSome then e.abortRun b else e) e
  let retired := match e0.banks.find .active with
    | some id => e0.banks.setState id .retired
    | none => e0.banks
  let hadNone := (e0.banks.find .active).isNone
  let e1 : Ev := { e0 with banks := retired.setState incoming .active }
  let e2 := e1.modDoors fun d r => swapDoor e.uptime (e0.doorRec d) (e1.doorRec d) r
  let e3 : Ev := { e2 with branches := Vector.ofFn fun b => e2.branches[b].restate (e2.enabled b) }
  let e4 := slots.foldl (fun e d => e.swapDrop e0.toState d) e3
  let e5 := if hadNone then e4.push (.clear .device .noTable) else e4
  let e6 := slots.foldl (fun e d => e.swapLost e0.toState d) (e5.push .removalsDone)
  e6.recompute e0.toState

/-- A PENDING bank is swapped in at the first moment all eight groups are quiescent (R165, R70). -/
def Ev.swapIfQuiescent (e : Ev) : Ev :=
  match e.banks.find .pending with
  | some id => if e.allQuiescent then e.swap id else e
  | none => e

/-! ### The alarm requests of the event (R103, R113) -/

/-- The alarm requests of the event are taken in order, and the event's scratch ends. -/
def Ev.takeAlarms (e : Ev) : State := e.toState.takeReqs false e.reqs

/-! ### Freezing a generation (R95, R96) -/

/-- The five INDICATION parts of a generation (Tables 5-3 and 5-4). -/
def partsOf (own : Station) (gen : Byte) (p : Picture) : List TxFrame :=
  [0, 1, 2, 3, 4].map fun i : Nat =>
    ⟨own, broadcast, gen :: byte i :: ((p.doors ++ p.zones).drop (16 * i)).take 16⟩

/-- A freeze (R96): the number goes up modulo 256 but at the first freeze after a reset, the live image is
copied, and its five parts are queued. -/
def State.freeze (s : State) : State :=
  let gen := if s.ind.frozen.isNone then s.ind.generation else s.ind.generation + 1
  { s with
    ind :=
      { s.ind with
        frozen := some s.ind.live
        generation := gen
        lastFreeze := s.uptime
        outstanding := 5 }
    trunk := { s.trunk with parts := s.trunk.parts ++ partsOf s.trunk.ownId gen s.ind.live } }

/-- The conditions of a freeze (R95). -/
def State.freezeDue (s : State) : Bool :=
  s.ind.outstanding == 0
    && ((s.ind.frozen != some s.ind.live && 2 ≤ elapsed s.uptime s.ind.lastFreeze)
        || 20 ≤ elapsed s.uptime s.ind.lastFreeze)

/-- The conditions of a freeze are judged (R95). -/
def State.judgeFreeze (s : State) : State := if s.freezeDue then s.freeze else s

/-- The live image is brought into line with the state; a change of it is handed to the freeze rule (R93,
R95). -/
def State.updateLive (s : State) : State :=
  if s.picture = s.ind.live then s
  else ({ s with ind := { s.ind with live := s.picture } }).judgeFreeze

/-! ### Polls (section 8.3) -/

/-- The next address of the rotation (R137): the lowest bound address above the position, else the lowest. -/
def nextAddress (position : Nat) (bound : List Nat) : Option Nat :=
  match bound.filter fun a => position < a with
  | [] => bound.min?
  | x :: xs => (x :: xs).min?

/-- A door qualifies for a priority poll (R138). -/
def Door.qualifies (r : Door) : Bool :=
  r.phase == .warning || r.phase == .driving || r.slot != .none
    || (r.report.map fun x => x.motion != .still).getD false

/-- Last-poll time of an address (Table 8-1). -/
def Branch.lastPollOf (r : Branch) (a : Nat) : Time := r.lastPoll[Fin.ofNat 16 (a - 1)]

/-- Of two qualifying addresses, the one polled longer ago, and among equals the lower (R138). -/
def Branch.pollBefore (now : Time) (r : Branch) (x y : Nat) : Bool :=
  if elapsed now (r.lastPollOf x) != elapsed now (r.lastPollOf y) then
    elapsed now (r.lastPollOf y) < elapsed now (r.lastPollOf x)
  else x < y

/-- The address of the next poll and its kind, if one is sent (R137, R138). DESIGN CHOICE (log entry 44): the
door of the regular poll just taken is a candidate like any other, and wins a tie by its lower address. -/
def State.nextPoll (s : State) (b : BranchId) : Option (Nat × PollTurn) :=
  let r := s.branches[b]
  let regular := (nextAddress r.rotation ((s.bound b).map Prod.snd)).map fun a => (a, PollTurn.regular)
  match r.due with
  | .regular => regular
  | .priority =>
    match firstBy (r.pollBefore s.uptime)
        (((s.bound b).filter fun p => s.doors[p.1].qualifies).map Prod.snd) with
    | some a => some (a, .priority)
    | none => regular

/-- The command slot of the door bound to an address (R139). -/
def State.slotOf (s : State) (b : BranchId) (a : Nat) : Cmd :=
  match s.doorAt b a with
  | some d => s.doors[d].slot
  | none => .none

/-- A poll goes out: it carries the command of the slot, and the last-poll time of the address takes the
present uptime (R139). The first poll of a rotation follows the ASSIGN of a run that ended in the same event
(R145). -/
def Branch.poll (now : Time) (a : Nat) (c : Cmd) (turn : PollTurn) (r : Branch) : Branch :=
  { r.send (if r.rotation = 0 then r.sent ++ [.poll a c] else [.poll a c]) with
    inFlight := some ⟨a, c, turn⟩
    rotation := if turn = .regular then a else r.rotation
    lastPoll := r.lastPoll.set (Fin.ofNat 16 (a - 1)) now }

/-- A POLLING branch without a poll in flight sends its next poll (R137, R138). -/
def State.sendPoll (s : State) (b : BranchId) : State :=
  let r := s.branches[b]
  if r.isPolling && r.inFlight.isNone then
    match s.nextPoll b with
    | some (a, turn) =>
      { s with branches := s.branches.set b (r.poll s.uptime a (s.slotOf b a) turn) }
    | none => s
  else s

/-- Every branch sends the poll that is due. -/
def State.sendPolls (s : State) : State := branchIds.foldl State.sendPoll s

/-! ### The end of an event -/

/-- What every event ends with. -/
def Ev.settle (e : Ev) : State :=
  ((e.swapIfQuiescent.arbiters).takeAlarms.updateLive).sendPolls

/-- The end of an event that also judges the freeze conditions: a spacing point, a refresh point, or the
transmission of the last outstanding part (R95). -/
def Ev.settleJudging (e : Ev) : State :=
  (((e.swapIfQuiescent.arbiters).takeAlarms.updateLive).judgeFreeze).sendPolls

/-- The end of a power-on reset or restart: the live image is derived afresh and the first freeze is taken at
once (R94, R100). -/
def Ev.settleReset (e : Ev) : State :=
  let s := e.takeAlarms
  (({ s with ind := { s.ind with live := s.picture } }).freeze).sendPolls

end Sys2Proof.Machine
end

