-- ==== Sys2Proof/Machine/Reset.lean ====
section
/-! DEFINITION. Power-on reset, restart and loss of power (Chapter 11). -/

namespace Sys2Proof.Machine

open Sys2Proof

/-- The own station id that the straps give; 31 is taken as 30 (R151). -/
def ownIdOf (straps : BitVec 5) : Station := if straps = 31#5 then 30#5 else straps

/-! ### Loss of power (R173) -/

/-- The image after a loss of power: torn while a store runs, else as it stands (R173). -/
def Store.afterLoss (st : Store) : NvImage := if st.pinned.isSome then .bad else st.image

/-- The part without power, with the image that the loss leaves. -/
def State.losePower (s : State) : State := State.off s.store.afterLoss s.pins s.freeCount s.pending

/-! ### The power-on load (R174) -/

/-- The bank that the image gives, if the image is good: its records are those of a set, its check value
agrees, and the set passes validation against the own id (R174). -/
def loadImage (own : Station) : NvImage → Option Bank
  | .stored set check => if setWf set && (examine own set check).isNone then some ⟨.active, set, check⟩ else none
  | .bad => none

/-- The power-on load: bank A ACTIVE from a good image, else both banks EMPTY and NV-CHECK-FAILED (R174). -/
def Ev.powerOnLoad (e : Ev) : Ev :=
  match loadImage e.trunk.ownId e.store.image with
  | some bank => { e with banks := { e.banks with a := bank } }
  | none => e.setFlag .nvCheckFailed

/-- A FRESH run starts on each enabled branch (R134, R149). -/
def Ev.freshRuns (e : Ev) : Ev := branchIds.foldl (fun e b => if e.enabled b then e.beginFresh b else e) e

/-- NO-TABLE is raised when no bank is ACTIVE (R161). -/
def Ev.raiseNoTable (e : Ev) : Ev := if e.activeSet.isNone then e.push (.raise .device .noTable) else e

/-- Power-on reset with the given levels on the pins (R174, R175, R45). -/
def State.powerOn (pins : Pins) (s : State) : State :=
  let off := { s.losePower with powered := true, pins := pins, trunk := Trunk.blank (ownIdOf pins.straps) }
  let e := (off.begin.setFlag .powerOn).powerOnLoad
  ((branchIds.foldl Ev.sample e).raiseNoTable.freshRuns).settleReset

/-! ### Restart (R176, R177) -/

/-- The door record after a restart: a binding is kept and its link is PENDING (R3, R71). -/
def Door.restarted (r : Door) : Door :=
  { Door.blank with
    link := if r.binding.isSome then .pending else .unbound
    binding := r.binding }

/-- A bank after a restart: PENDING becomes READY, LOADING becomes EMPTY (R161). -/
def Bank.restarted (b : Bank) : Bank :=
  match b.state with
  | .pending => { b with state := .ready }
  | .loading => .blank
  | _ => b

/-- The line sense after a restart: OWN with the latch set, else by a sample at once (R45). -/
def Branch.resense (low : Bool) (r : Branch) : Branch :=
  { r with sense := if r.latch then .own else sampledSense low }

/-- The runs in progress are abandoned and bound, without a flag (R149). -/
def Ev.abandonRuns (e : Ev) : Ev :=
  branchIds.foldl (fun e b => if (e.branches[b].run).isSome then e.closeRun b none else e) e

/-- What a restart keeps and what it clears (Table 11-2), before the conditions that still hold are raised. -/
def State.restartState (flag : EventFlag) (pins : Pins) (s : State) : State :=
  { s with
    uptime := 0
    pins := pins
    doors := s.doors.map Door.restarted
    zones := s.zones.map fun z => { z with setAt := 0 }
    heel := .blank
    ind := .blank
    alarms := .blank
    branches := Vector.ofFn fun b =>
      (s.branches[b].restate (s.enabled b)).resense pins.lineLow[b]
    trunk := .blank (ownIdOf pins.straps)
    banks := ⟨s.banks.a.restarted, s.banks.b.restarted⟩
    mgr := { s.mgr.setFlag flag with snapshot := none, snapshotNumber := 0 } }

/-- LINK-LOST of each fitted door left UNBOUND (R3, R106). -/
def Ev.raiseUnbound (e : Ev) : Ev :=
  e.fittedDoors.foldl
    (fun e p => if e.doors[p.1].link = .unbound then e.enterLevel p.1 .linkLost else e) e

/-- The conditions of a branch that still hold at a restart (R106). -/
def Ev.raiseBranch (e : Ev) (b : BranchId) : Ev :=
  let e1 :=
    if e.branches[b].sense = .external then e.push (.raise (.branch b) .lineExternal) else e
  if e.branches[b].foreign.isEmpty then e1 else e1.push (.raise (.branch b) .foreignUnit)

/-- The conditions known at the restart, in ascending order of subject, then of kind (R106). -/
def Ev.raiseAnew (e : Ev) : Ev := (branchIds.foldl Ev.raiseBranch e.raiseUnbound).raiseNoTable

/-- A restart with its event flag and the levels on the pins (R176, R177). The alarm requests of the runs
that it abandons are lost with the list that it empties. -/
def State.restart (flag : EventFlag) (pins : Pins) (s : State) : State :=
  (((s.begin.abandonRuns).restartState flag pins).begin.raiseAnew).settleReset

end Sys2Proof.Machine
end

