-- ==== Sys2Proof/Machine/ExecReset.lean ====
section
/-! DEFINITION. The commands that power, restart or stop the part: POWER_ON_RESET, RESTART_PIN, POWER_LOSS. -/

namespace Sys2Proof.Machine

open Sys2Proof

/-- The outcome of a command on a powered part; a part without power does nothing. -/
def State.live (s : State) (f : State → State) : Host.Outcome State Fault Refusal :=
  .next (if s.powered then f s else s)

/-- POWER_ON_RESET (R174, R175): power is applied with the given levels on the pins. On a powered part it
follows a loss of power. -/
def execPowerOnReset (pins : Pins) (s : State) : Host.Outcome State Fault Refusal := .next (s.powerOn pins)

/-- RESTART_PIN (R176). -/
def execRestartPin (pins : Pins) (s : State) : Host.Outcome State Fault Refusal :=
  s.live (State.restart .restartPin pins)

/-- POWER_LOSS (R173). -/
def execPowerLoss (s : State) : Host.Outcome State Fault Refusal := s.live State.losePower

end Sys2Proof.Machine
end

