-- ==== Sys2Proof/Machine/Operands.lean ====
section
/-! DEFINITION. Frames received on the trunk: their check, their classification by the acceptance table and
their delivery (R150, R156 to R158); and the fields of a STATUS reply (R136). -/

namespace Sys2Proof.Machine

open Sys2Proof

/-! ### Trunk frames -/

/-- A frame received whole: its kind, its source and target, and its payload (Table 9-2). The part takes no
account of the priority of a frame it receives. -/
structure RxFrame where
  kind : Nat
  route : Route
  payload : List Byte
deriving DecidableEq, Repr

/-- Read a frame from its bytes; none where the length or the check fails (R150). -/
def parseFrame (bs : List Byte) : Option RxFrame :=
  let n := (at_ bs 2).toNat
  if n ≤ 18 && bs.length == n + 5 && crc (bs.take (n + 3)) == at16 bs (n + 3) then
    some
      { kind := ((at_ bs 0).extractLsb' 2 4).toNat
        route := ⟨(at_ bs 0).extractLsb' 0 2 ++ (at_ bs 1).extractLsb' 5 3, (at_ bs 1).extractLsb' 0 5⟩
        payload := (bs.drop 3).take n }
  else none

/-- The frame is taken into the part: a payload of at most 18 bytes, addressed to the own id or to all
(R150). -/
def State.takes (s : State) (f : RxFrame) : Bool :=
  f.payload.length ≤ 18 && (f.route.tgt == s.trunk.ownId || f.route.tgt == broadcast)

/-- Actions of the acceptance table (Table 9-6). -/
inductive Action where
  | ignore | command | heelPrimary | heelSecondary | management
deriving DecidableEq, Repr

/-- Values of Table 9-6, byte 6. -/
def Action.ofCode : Nat → Action
  | 1 => .command | 2 => .heelPrimary | 3 => .heelSecondary | 4 => .management | _ => .ignore

/-- The four tests of an acceptance entry (R157). -/
def AcceptRec.admits (v : AcceptRec) (own : Station) (f : RxFrame) : Bool :=
  (!v.kindEnable || f.kind == v.kind)
    && (f.route.src &&& v.mask) == (v.source &&& v.mask)
    && (match v.selector with
        | 0 => f.route.tgt == own
        | 1 => f.route.tgt == broadcast
        | _ => true)
    && (v.payloadMask == 0
        || (match f.payload with
            | [] => false
            | b :: _ => (b &&& v.payloadMask) == (v.payload &&& v.payloadMask)))

/-- Kinds of received frames (Table 9-3). -/
def kindCommand : Nat := 0
/-- Kind HEEL (Table 9-3). -/
def kindHeel : Nat := 4
/-- Kind MGMT-REQUEST (Table 9-3). -/
def kindRequest : Nat := 5

/-- Classification of a taken frame (R156): the built-in rule with no bank ACTIVE; else the service station
rule, then the first acceptance entry that matches, then IGNORE. -/
def State.classify (s : State) (f : RxFrame) : Action :=
  if s.activeSet.isNone then
    if f.kind == kindRequest && f.route.tgt == s.trunk.ownId then .management
    else if f.kind == kindCommand then .command
    else .ignore
  else if f.kind == kindRequest && f.route.tgt == s.trunk.ownId
      && s.deviceRec.map DeviceRec.station == some (f.route.src.setWidth 8) then .management
  else
    match s.acceptance.find? fun v => v.admits s.trunk.ownId f with
    | some v => Action.ofCode v.action
    | none => .ignore

/-- Where a frame is delivered (R158). -/
inductive Delivery where
  | nowhere
  | discarded
  | orderUnit
  | travelTiming (source : HeelSrc)
  | manager
deriving DecidableEq, Repr

/-- Delivery of a frame by its action, when the action suits its kind; a COMMAND or MGMT-REQUEST that finds
its answer or reply class full is discarded (R150, R158). -/
def State.deliver (s : State) (f : RxFrame) : Delivery :=
  if !s.takes f then .nowhere
  else
    match s.classify f with
    | .command =>
      if f.kind == kindCommand then
        if s.trunk.answers.length < 8 then .orderUnit else .discarded
      else .nowhere
    | .heelPrimary => if f.kind == kindHeel then .travelTiming .primary else .nowhere
    | .heelSecondary => if f.kind == kindHeel then .travelTiming .secondary else .nowhere
    | .management =>
      if f.kind == kindRequest && f.route.tgt == s.trunk.ownId then
        if s.trunk.replies.length < 2 then .manager else .discarded
      else .nowhere
    | .ignore => .nowhere

/-- A frame discarded for a full class sets RX-DISCARD and does nothing else (R158). -/
def State.rxDiscard (s : State) : State := { s with mgr := s.mgr.setFlag .rxDiscard }

/-! ### STATUS replies (R136, Table 8-4) -/

/-- The fields of a STATUS reply of the polled address that is valid by R136; none for a reply that is taken
as no reply. A position above 1000 is kept as 1000 (R11). -/
def parseStatus (address : Nat) (now : Time) (bs : List Byte) : Option Report :=
  let pressure := (at16 bs 5).toNat
  let unitClass := (at_ bs 7).toNat
  if bs.length == 10 && crc (bs.take 8) == at16 bs 8 && (at_ bs 0).toNat == address
      && !(at_ bs 4).getLsbD 7 && (pressure ≤ 400 || pressure == 0xFFFF) && inRange 1 15 unitClass then
    match Cmd.ofCode (at_ bs 1).toNat, Sway.ofCode ((at_ bs 4).extractLsb' 3 2).toNat,
      Handle.ofCode ((at_ bs 4).extractLsb' 5 2).toNat with
    | some echo, some motion, some handle =>
      some
        { echo := echo
          position := min 1000 (at16 bs 2).toNat
          closedLimit := (at_ bs 4).getLsbD 0
          openLimit := (at_ bs 4).getLsbD 1
          obstruction := (at_ bs 4).getLsbD 2
          motion := motion
          handle := handle
          pressure := if pressure = 0xFFFF then none else some pressure
          unitClass := unitClass
          arrival := now }
    | _, _, _ => none
  else none

/-- Byte 4 of a STATUS reply (Table 8-4), as READ-DOOR returns it (Table 10-8). -/
def Report.switches (r : Report) : Byte :=
  byte (bit r.closedLimit 0 + bit r.openLimit 1 + bit r.obstruction 2 + r.motion.code * 8
    + r.handle.code * 32)

end Sys2Proof.Machine
end

