-- ==== Sys2Proof/Machine/Panel.lean ====
section
/-! DEFINITION. Panel commands (section 2.2): the check of R30, the effect of each command, and the ANSWER. -/

namespace Sys2Proof.Machine

open Sys2Proof

/-- Answer code (Table 9-5) and reason (Table 2-4). -/
structure Answer where
  code : Nat
  reason : Nat
deriving DecidableEq, Repr

/-- DONE. -/
def Answer.done : Answer := ⟨1, 0⟩
/-- ACCEPTED. -/
def Answer.accepted : Answer := ⟨2, 0⟩
/-- NO-TABLE. -/
def Answer.noTable : Answer := ⟨6, 0⟩
/-- REFUSED-AUTH, UNKNOWN-PANEL. -/
def Answer.unknownPanel : Answer := ⟨3, 1⟩
/-- REFUSED-AUTH, NO-RIGHT. -/
def Answer.noRight : Answer := ⟨3, 2⟩
/-- REFUSED-AUTH, OUT-OF-SCOPE. -/
def Answer.outOfScope : Answer := ⟨3, 3⟩
/-- REFUSED-RANGE, BAD-CODE. -/
def Answer.badCode : Answer := ⟨4, 4⟩
/-- REFUSED-RANGE, BAD-OPERAND. -/
def Answer.badOperand : Answer := ⟨4, 5⟩
/-- REFUSED-RANGE, NO-ZONE. -/
def Answer.noZone : Answer := ⟨4, 6⟩
/-- REFUSED-RANGE, NOT-FITTED. -/
def Answer.notFitted : Answer := ⟨4, 7⟩
/-- REFUSED-STATE, ORDER-HELD. -/
def Answer.orderHeld : Answer := ⟨5, 8⟩
/-- REFUSED-STATE, CLOSE-PENDING. -/
def Answer.closePending : Answer := ⟨5, 9⟩
/-- REFUSED-STATE, NO-LINK. -/
def Answer.noLink : Answer := ⟨5, 10⟩
/-- REFUSED-STATE, LOCAL-HOLD. -/
def Answer.localHold : Answer := ⟨5, 11⟩

/-- A panel command: the right it needs, the check of its operand (steps 5 to 7 of R30) and its effect. -/
structure PanelCmd where
  right : Right
  operand : State → PanelRec → Option Answer
  act : Station → PanelRec → Ev → Ev × Answer

/-! ### Operands (steps 5 to 7 of R30) -/

/-- The zone that an operand byte names. -/
def zoneOf (b : Byte) : Option ZoneId := if h : b.toNat < 16 then some ⟨b.toNat, h⟩ else none

/-- The slot that an operand byte names. -/
def slotOf (b : Byte) : Option Slot := if h : b.toNat < 64 then some ⟨b.toNat, h⟩ else none

/-- A zone operand: in range, with a zone record, in the panel's zone set. -/
def zoneOperand (b : Byte) (s : State) (p : PanelRec) : Option Answer :=
  match zoneOf b with
  | none => some .badOperand
  | some z =>
    if !s.hasZone z then some .noZone else if !p.hasZone z then some .outOfScope else none

/-- A slot named: fitted, and in the panel's door set. -/
def doorScope (d : Slot) (s : State) (p : PanelRec) : Option Answer :=
  if !s.fitted d then some .notFitted else if !p.hasDoor d then some .outOfScope else none

/-- A slot operand: in range, fitted, in the panel's door set. -/
def doorOperand (b : Byte) (s : State) (p : PanelRec) : Option Answer :=
  match slotOf b with
  | none => some .badOperand
  | some d => doorScope d s p

/-- The subject and kind of an ACK, when the kind belongs to the subject's type. -/
def ackPair (subject kind : Byte) : Option (Subject × AlarmKind) :=
  match Subject.ofCode subject.toNat, AlarmKind.ofCode kind.toNat with
  | some j, some k => if k.suits j then some (j, k) else none
  | _, _ => none

/-- The operand of an ACK: a subject and a kind that belongs to its type; a door subject is fitted and in the
panel's door set; other subjects need no scope. -/
def ackOperand (subject kind : Byte) (s : State) (p : PanelRec) : Option Answer :=
  match ackPair subject kind with
  | none => some .badOperand
  | some (.door d, _) => doorScope d s p
  | some _ => none

/-- A command without an operand. -/
def noOperand (_ : State) (_ : PanelRec) : Option Answer := none

/-! ### Zone commands (R31, R32) -/

/-- CLOSE-ZONE (R31). -/
def Ev.closeZone (e : Ev) (z : ZoneId) (src : Station) : Ev × Answer :=
  if e.zones[z].closed then (e, .done)
  else ((e.setMode z true src).sourcesChanged e.toState, .accepted)

/-- The zones of a panel's zone set that have a zone record, ascending. -/
def State.scopeZones (s : State) (p : PanelRec) : List ZoneId :=
  zoneIds.filter fun z => p.hasZone z && s.hasZone z

/-- The modes of several zones are set. -/
def Ev.setModes (e : Ev) (zs : List ZoneId) (closed : Bool) (src : Station) : Ev :=
  zs.foldl (fun e z => e.setMode z closed src) e

/-- CLOSE-ALL (R31): the zones and, from a panel holding LINE, the latches change together; one
recomputation follows. DESIGN CHOICE (log entry 48): the LINE-EXTERNAL clears of several branches are handed in
ascending order of branch. -/
def Ev.closeAll (e : Ev) (p : PanelRec) (src : Station) : Ev × Answer :=
  let zs := e.scopeZones p
  let e1 := e.setModes zs true src
  let e2 := if p.holds .line then branchIds.foldl Ev.latchSet e1 else e1
  let changed := (zs.any fun z => !e.zones[z].closed)
    || (p.holds .line && branchIds.any fun b => !e.branches[b].latch)
  (e2.sourcesChanged e.toState, if changed then .accepted else .done)

/-- RELEASE-ZONE (R32). -/
def Ev.releaseZone (e : Ev) (z : ZoneId) (src : Station) : Ev × Answer :=
  ((e.setMode z false src).sourcesChanged e.toState, .done)

/-- RELEASE-ALL (R32): the zones and, from a panel holding LINE, the latches are released together; one
recomputation follows. DESIGN CHOICE (log entry 48): the LINE-EXTERNAL raises of several branches are handed in
ascending order of branch. -/
def Ev.releaseAll (e : Ev) (p : PanelRec) (src : Station) : Ev × Answer :=
  let e1 := e.setModes (e.scopeZones p) false src
  let e2 := if p.holds .line then branchIds.foldl Ev.latchRelease e1 else e1
  (e2.sourcesChanged e.toState, .done)

/-! ### Door commands (R33 to R35) -/

/-- A close with origin REMOTE is queued; the retry count is 0 (R33). -/
def Ev.requestRemote (e : Ev) (d : Slot) (dir : Dir) : Ev := e.request d dir .remote .remote

/-- HELD-LOCAL, DWELL or FAILED. -/
def Phase.local_ : Phase → Bool
  | .heldLocal | .dwell | .failed => true
  | _ => false

/-- DOOR-CLOSE, by the first line of R33 that holds. -/
def Ev.doorClose (e : Ev) (d : Slot) : Ev × Answer :=
  let r := e.doors[d]
  if r.state = .closed then (e, .done)
  else if r.link ≠ .online then (e, .noLink)
  else if r.phase.local_ then (e, .localHold)
  else if r.goal = some .closing then (e, .done)
  else match r.phase with
    | .driving => ((e.endHalted d).requestRemote d .closing, .accepted)
    | .retryWait => (((e.toPhase d .idle).zeroRetry d).requestRemote d .closing, .accepted)
    | _ => (e.requestRemote d .closing, .accepted)

/-- DOOR-OPEN, by the first line of R34 that holds. -/
def Ev.doorOpen (e : Ev) (d : Slot) : Ev × Answer :=
  let r := e.doors[d]
  if e.orderHeld d then (e, .orderHeld)
  else if r.goal = some .closing then (e, .closePending)
  else if r.state = .opened then (e, .done)
  else if r.link ≠ .online then (e, .noLink)
  else if r.goal = some .opening then (e, .done)
  else if r.phase.local_ then (e, .localHold)
  else (e.requestRemote d .opening, .accepted)

/-- DOOR-STOP, by the first line of R35 that holds. -/
def Ev.doorStop (e : Ev) (d : Slot) : Ev × Answer :=
  if e.orderHeld d then (e, .orderHeld)
  else match e.doors[d].phase with
    | .queued => (e.dropEntry d .idle, .done)
    | .warning => ((e.place d .warnOff).dropMove d .idle, .accepted)
    | .driving => (e.endHalted d, .accepted)
    | .retryWait => ((e.toPhase d .idle).zeroRetry d, .done)
    | _ => (e, .done)

/-! ### Acknowledgements (R36, R110 to R112) -/

/-- The re-arm of a FAILED door: retry count 0; HELD-LOCAL with the handle at OPEN-SIDE, else IDLE and the
need-close check (R25, R69, R112). A door that is not in FAILED is not changed. DESIGN CHOICE (log entry 42):
the kept last report of a door whose link is not ONLINE counts here as R25 says, so its handle at OPEN-SIDE
gives HELD-LOCAL. -/
def Ev.rearm (e : Ev) (d : Slot) : Ev :=
  if e.doors[d].phase = .failed then
    let e1 := e.zeroRetry d
    if e.doors[d].handleOpen then e1.toPhase d .heldLocal
    else (e1.toPhase d .idle).needClose d .order
  else e

/-- ACK: the pair is acknowledged; an acknowledgement of CLOSE-FAILED re-arms the door (R110, R112). -/
def Ev.ackOne (e : Ev) (j : Subject) (k : AlarmKind) (src : Station) : Ev :=
  let e1 := e.push (.ack j k src)
  match j, k with
  | .door d, .closeFailed => e1.rearm d
  | _, _ => e1

/-- ACK-ALL: the acknowledgements of the first pass, then the re-arm of every FAILED door of the door set in
ascending order of slot (R111). -/
def Ev.ackAll (e : Ev) (p : PanelRec) (src : Station) : Ev :=
  let e1 : Ev := { e with reqs := e.reqs ++ e.alarms.ackAllReqs p src }
  (slots.filter p.hasDoor).foldl Ev.rearm e1

/-! ### The commands of Table 2-2 -/

/-- CLOSE-ZONE. -/
def cmdCloseZone (zone : Byte) : PanelCmd where
  right := .mode
  operand := zoneOperand zone
  act src _ e := match zoneOf zone with
    | some z => e.closeZone z src
    | none => (e, .badOperand)

/-- CLOSE-ALL. -/
def cmdCloseAll : PanelCmd where
  right := .mode
  operand := noOperand
  act src p e := e.closeAll p src

/-- RELEASE-ZONE. -/
def cmdReleaseZone (zone : Byte) : PanelCmd where
  right := .release
  operand := zoneOperand zone
  act src _ e := match zoneOf zone with
    | some z => e.releaseZone z src
    | none => (e, .badOperand)

/-- RELEASE-ALL. -/
def cmdReleaseAll : PanelCmd where
  right := .release
  operand := noOperand
  act src p e := e.releaseAll p src

/-- A door command. -/
def cmdDoor (slot : Byte) (f : Ev → Slot → Ev × Answer) : PanelCmd where
  right := .door
  operand := doorOperand slot
  act _ _ e := match slotOf slot with
    | some d => f e d
    | none => (e, .badOperand)

/-- ACK. -/
def cmdAck (subject kind : Byte) : PanelCmd where
  right := .ack
  operand := ackOperand subject kind
  act src _ e := match ackPair subject kind with
    | some (j, k) => (e.ackOne j k src, .done)
    | none => (e, .badOperand)

/-- ACK-ALL. -/
def cmdAckAll : PanelCmd where
  right := .ack
  operand := noOperand
  act src p e := (e.ackAll p src, .done)

/-- The command that a command code names (Table 9-4). -/
def panelCmd (code operand kind : Byte) : Option PanelCmd :=
  match code.toNat with
  | 1 => some (cmdCloseZone operand)
  | 2 => some cmdCloseAll
  | 3 => some (cmdReleaseZone operand)
  | 4 => some cmdReleaseAll
  | 5 => some (cmdDoor operand Ev.doorClose)
  | 6 => some (cmdDoor operand Ev.doorOpen)
  | 7 => some (cmdDoor operand Ev.doorStop)
  | 8 => some (cmdAck operand kind)
  | 9 => some cmdAckAll
  | _ => none

/-! ### Check, effect and answer (R30, R159) -/

/-- The first failure of R30, or the panel that passed every check; no command stands for an unknown code. -/
def State.checkCommand (s : State) (src : Station) (c : Option PanelCmd) :
    Sum Answer (PanelRec × PanelCmd) :=
  if s.activeSet.isNone then .inl .noTable
  else
    match s.panel src, c with
    | none, _ => .inl .unknownPanel
    | some _, none => .inl .badCode
    | some p, some c =>
      if !p.holds c.right then .inl .noRight
      else
        match c.operand s p with
        | some why => .inl why
        | none => .inr (p, c)

/-- The ANSWER joins the answer class (R159, Table 9-5). -/
def Ev.answer (e : Ev) (src : Station) (tag code : Byte) (a : Answer) : Ev :=
  { e with
    trunk := { e.trunk with
      answers := e.trunk.answers ++ [⟨e.trunk.ownId, src, [tag, code, byte a.code, byte a.reason]⟩] } }

/-- A COMMAND taken by the Order Unit: checked, carried out, and answered by one ANSWER (R30). -/
def Ev.orderUnit (e : Ev) (src : Station) (tag code : Byte) (c : Option PanelCmd) : Ev :=
  match e.checkCommand src c with
  | .inl a => e.answer src tag code a
  | .inr (p, c) => (c.act src p e).1.answer src tag code (c.act src p e).2

/-- A COMMAND frame as it arrives: delivered to the Order Unit, discarded for a full answer class, or without
effect (R150, R156, R158). -/
def State.commandFrame (s : State) (route : Route) (payload : List Byte) (tag code : Byte)
    (c : Option PanelCmd) : State :=
  match s.deliver ⟨kindCommand, route, payload⟩ with
  | .orderUnit => (s.begin.orderUnit route.src tag code c).settle
  | .discarded => s.rxDiscard
  | _ => s

end Sys2Proof.Machine
end

