-- ==== Sys2Proof/Config.lean ====
section
/-! DEFINITION. What the spec leaves to the implementation: opaque constants, of which nothing can be
proved, so that a claim holds whatever they are. -/

namespace Sys2Proof.Config

/-- The revision byte of the IDENTIFY reply (Tables 10-3 and 10-6): the spec gives no value. -/
opaque revision : Byte

/-- The heel that READ-STATUS page 3 reports as selected while neither source is fresh and no bank is
ACTIVE: R78 takes the default heel of the active device record, and there is none. The argument is
the model's counter of free values. -/
opaque heelWithoutTable : Nat → BitVec 16

end Sys2Proof.Config
end

