-- ==== Sys2Proof/Machine/Replies.lean ====
section
/-! DEFINITION. The data of management replies, byte by byte (R169, Tables 10-4 to 10-9). -/

namespace Sys2Proof.Machine

open Sys2Proof

/-! ### IDENTIFY and READ-RECORD (Table 10-6) -/

/-- IDENTIFY, part 0: vendor code 3AH, part code 1BE4H, revision, own id, bank states. -/
def State.identity (s : State) : List Byte :=
  [0x3A, 0x1B, 0xE4, Config.revision, s.trunk.ownId.setWidth 8, byte s.banks.a.state.code,
   byte s.banks.b.state.code]

/-- IDENTIFY, part 1: the table tag of the ACTIVE bank, or eight spaces. -/
def State.tableTag (s : State) : List Byte :=
  match s.activeSet with
  | none => List.replicate 8 0x20
  | some _ => (s.deviceRec.map DeviceRec.tag).getD (List.replicate 8 0x20)

/-- READ-RECORD: the presence byte and record bytes 0 to 10 (part 0) or 11 onward (part 1). -/
def recordData (record : Option (List Byte)) (part : Nat) : List Byte :=
  match record with
  | none => [0]
  | some bs => 1 :: (if part = 0 then bs.take 11 else bs.drop 11)

/-! ### READ-STATUS (Table 10-7) -/

/-- Page 0: state flags, event flags, last-request flag, counts of the alarm list. -/
def State.page0 (s : State) : List Byte :=
  s.stateFlags :: bytes16 s.mgr.events
    ++ [(s.mgr.lastRequest.map Prod.fst).getD 0, (s.mgr.lastRequest.map Prod.snd).getD 0,
        byte s.alarms.entries.length, hold255 s.alarms.unacked, byte (bit (!s.alarms.marks.isEmpty) 0)]

/-- Check value of a bank; 0 when the bank is EMPTY or LOADING. -/
def Bank.shownCheck (b : Bank) : BitVec 16 :=
  match b.state with
  | .empty | .loading => 0
  | _ => b.check

/-- Pinned bank: 0 A, 1 B, 2 none. -/
def Store.pinCode (st : Store) : Nat :=
  match st.pinned with
  | some .a => 0
  | some .b => 1
  | none => 2

/-- Page 1: states and check values of the banks, store engine state and pinned bank. -/
def State.page1 (s : State) : List Byte :=
  byte s.banks.a.state.code :: bytes16 s.banks.a.shownCheck
    ++ byte s.banks.b.state.code :: bytes16 s.banks.b.shownCheck
    ++ [byte (bit s.store.pinned.isSome 0), byte s.store.pinCode]

/-- Zone modes as a 16-bit value: bit n is set while zone n is in DOORS-CLOSED mode. -/
def State.zoneModes (s : State) : Nat := total (fun z => bit s.zones[z].closed z.val) zoneIds

/-- Page 2: zone modes; state, latch, sense and rotation position of each branch. -/
def State.page2 (s : State) : List Byte :=
  nat16 s.zoneModes ++ branchIds.flatMap fun b =>
    [byte (s.branches[b].state.code + bit s.branches[b].latch 2 + s.branches[b].sense.code * 8),
     byte s.branches[b].rotation]

/-- A heel value as a signed 16-bit field; 0 when absent. -/
def heelBytes (v : Option Int) : List Byte := bytes16 (BitVec.ofInt 16 (v.getD 0))

/-- Age of a heel source in tenths: the present uptime less its arrival, holding at 65535 (R77, R87, Table 10-7).
DEDUCED (log entry 46): a source without a value has arrival 0 (R80), and its age is counted from there. -/
def State.heelAge (s : State) (src : HeelSrc) : List Byte :=
  nat16 (min 65535 (elapsed s.uptime (s.heel.get src).arrival))

/-- The selected heel as page 3 carries it: a free value where the spec states none. -/
def State.selectedHeelBytes (s : State) : List Byte :=
  match s.selectedHeel with
  | some h => bytes16 (BitVec.ofInt 16 h)
  | none => bytes16 (Config.heelWithoutTable s.freeCount)

/-- Page 3: heel selection and both heel source records (R87). -/
def State.page3 (s : State) : List Byte :=
  byte (s.heel.from_.code + bit s.heel.primary.value.isSome 2 + bit s.heel.primary.fresh 3
      + bit s.heel.secondary.value.isSome 4 + bit s.heel.secondary.fresh 5)
    :: s.selectedHeelBytes
    ++ heelBytes s.heel.primary.value ++ s.heelAge .primary
    ++ heelBytes s.heel.secondary.value ++ s.heelAge .secondary

/-- Page 4: generation number, last-freeze time, parts outstanding; trunk error count (R99). -/
def State.page4 (s : State) : List Byte :=
  s.ind.generation :: bytes32 s.ind.lastFreeze ++ [byte s.ind.outstanding, byte s.trunk.errors]

/-- Pages 8 to 15: the figures of a group. -/
def State.groupPage (s : State) (g : GroupId) : List Byte :=
  [byte (s.budget g), byte (s.committed g), byte (s.heldFlow g)] ++ nat16 (s.unadmitted g)
    ++ [byte (s.queue g).length]

/-- Pages 16 to 31: set-by (31 when absent) and set-at of a zone. -/
def State.zonePage (s : State) (z : ZoneId) : List Byte :=
  stationByte s.zones[z].setBy :: bytes32 s.zones[z].setAt

/-- Pages 32 to 47: an entry of a foreign unit list. -/
def State.foreignPage (s : State) (b : BranchId) (place : Nat) : List Byte :=
  match s.branches[b].foreign[place]? with
  | some f => 1 :: bytes48 f.serial ++ [byte (f.address.getD 0)]
  | none => 0 :: List.replicate 7 0

/-- The data of a page; none for a page that is not in Table 10-4. -/
def State.statusPage (s : State) (page : Nat) : Option (List Byte) :=
  match page with
  | 0 => some s.page0
  | 1 => some s.page1
  | 2 => some s.page2
  | 3 => some s.page3
  | 4 => some s.page4
  | n =>
    if inRange 8 15 n then some (s.groupPage (Fin.ofNat 8 (n - 8)))
    else if inRange 16 31 n then some (s.zonePage (Fin.ofNat 16 (n - 16)))
    else if inRange 32 47 n then some (s.foreignPage (Fin.ofNat 4 ((n - 32) / 4)) ((n - 32) % 4))
    else none

/-- The reply carries a free value, so that the next one is fresh. -/
def State.pageIsFree (s : State) (page : Nat) : Bool :=
  page == 3 && s.selectedHeel.isNone

/-! ### READ-DOOR (Table 10-8) -/

/-- Door alarm kinds in the order of Table 6-1, codes 1 to 8. -/
def doorKinds : List AlarmKind :=
  [.travelTimeout, .stall, .obstructed, .closeFailed, .disagree, .linkLost, .lowPressure, .localOpen]

/-- A set of door kinds: bit 0 for the kind of code 1 up to bit 7 for the kind of code 8. -/
def kindBits (has : AlarmKind → Bool) : Byte := byte (total (fun k => bit (has k) (k.code - 1)) doorKinds)

/-- Byte 4 of part 0: the directions of the motion-end kinds; 0 when the kind is absent. -/
def Conds.dirBits (c : Conds) : Byte :=
  byte (total (fun k => bit (c.dirOf k == some .opening) (k.code - 1)) motionEndKinds)

/-- The timer (bytes 6 to 10 of part 0). -/
def Timer.bytes : Timer → List Byte
  | .none => [0, 0, 0, 0, 0]
  | .dwell t => 1 :: bytes32 t
  | .retry t dir origin basis =>
    byte (2 + dir.code * 4 + origin.code * 8 + basis.code * 32) :: bytes32 t

/-- Part 0: the door runtime record. -/
def State.doorPart0 (s : State) (d : Slot) : List Byte :=
  let r := s.doors[d]
  [byte (bit (s.fitted d) 7 + r.link.code * 32 + r.miss * 8 + r.state.code),
   byte (r.binding.getD 0),
   byte (r.phase.code * 32 + r.slot.code * 4 + r.retry),
   kindBits r.conds.has, r.conds.dirBits, kindBits (s.alarms.hasMark d)] ++ r.timer.bytes

/-- Part 1: the last report with its arrival time. -/
def Door.part1 (r : Door) : List Byte :=
  match r.report with
  | none => List.replicate 12 0
  | some x =>
    [1, byte x.echo.code] ++ nat16 x.position ++ [x.switches] ++ nat16 (x.pressure.getD 0xFFFF)
      ++ [byte x.unitClass] ++ bytes32 x.arrival

/-- Part 2: the admission or motion record, or none. -/
def Move.bytes : Move → List Byte
  | .none => List.replicate 10 0
  | .admitted a =>
    [byte (1 + a.dir.code * 4 + a.origin.code * 8 + a.basis.code * 32), byte a.draw]
      ++ bytes32 a.admittedAt ++ [0, 0] ++ nat16 a.allowance
  | .started m =>
    [byte (2 + m.dir.code * 4 + m.origin.code * 8 + m.basis.code * 32 + m.lag * 64), byte m.draw]
      ++ bytes32 m.start ++ nat16 m.q0 ++ nat16 m.allowance

/-- The data of a part of READ-DOOR. -/
def State.doorPart (s : State) (d : Slot) (part : Nat) : List Byte :=
  match part with
  | 0 => s.doorPart0 d
  | 1 => s.doors[d].part1
  | _ => s.doors[d].move.bytes

/-! ### READ-ALARMS (Table 10-9) -/

/-- Chunk 0: snapshot number and counts. -/
def Snapshot.head (n : Byte) (p : Snapshot) : List Byte :=
  [n, byte p.entries.length, hold255 p.unacked] ++ nat16 p.marks

/-- A chunk from 1: an entry of the snapshot. The list-full bit of its standing is that of the copy. -/
def Snapshot.chunk (n : Byte) (p : Snapshot) (x : AlarmEntry) : List Byte :=
  [n, byte x.subject.code, byte x.kind.code,
   standingByte false x.active x.ackBy.isSome (0 < p.marks), byte x.count, stationByte x.ackBy]
    ++ bytes32 x.raisedAt

end Sys2Proof.Machine
end

