-- ==== Sys2Proof/Machine/Manage.lean ====
section
/-! DEFINITION. The Management Responder and the requests it serves (Chapter 10; STORE of Chapter 11). -/

namespace Sys2Proof.Machine

open Sys2Proof

/-- Reply code (Table 10-2), detail and data of a MGMT-REPLY. -/
structure Reply where
  code : Nat
  detail : List Byte
  data : List Byte
deriving DecidableEq, Repr

/-- OK with data. -/
def Reply.ok (data : List Byte) : Reply := ⟨1, [0, 0, 0], data⟩
/-- BUSY. -/
def Reply.busy : Reply := ⟨2, [0, 0, 0], []⟩
/-- REFUSED-STATE. -/
def Reply.refusedState : Reply := ⟨3, [0, 0, 0], []⟩
/-- REFUSED-RANGE. -/
def Reply.refusedRange : Reply := ⟨4, [0, 0, 0], []⟩
/-- INVALID. -/
def Reply.invalid : Reply := ⟨5, [0, 0, 0], []⟩
/-- INVALID with the failure report of a LOAD-END (R130). -/
def Reply.failed (f : Failure) : Reply := ⟨5, [byte f.table, byte f.index, byte f.reason.code], []⟩

/-! ### Reads (R167) -/

/-- IDENTIFY. -/
def Ev.identify (e : Ev) (part : Byte) : Ev × Reply :=
  match part.toNat with
  | 0 => (e, .ok e.identity)
  | 1 => (e, .ok e.tableTag)
  | _ => (e, .refusedRange)

/-- The event flags are cleared (R171). -/
def Ev.clearEvents (e : Ev) : Ev := { e with mgr := { e.mgr with events := 0 } }

/-- The counter of free values advances. -/
def Ev.useFree (e : Ev) : Ev := { e with freeCount := e.freeCount + 1 }

/-- READ-STATUS: page 0 copies the event flags into the reply and clears them (R167, R171). -/
def Ev.readStatus (e : Ev) (page : Byte) : Ev × Reply :=
  match e.statusPage page.toNat with
  | none => (e, .refusedRange)
  | some data =>
    (if page = 0 then e.clearEvents else if e.pageIsFree page.toNat then e.useFree else e, .ok data)

/-- READ-DOOR. -/
def Ev.readDoor (e : Ev) (slot part : Byte) : Ev × Reply :=
  match slotOf slot with
  | none => (e, .refusedRange)
  | some d => if part.toNat ≤ 2 then (e, .ok (e.doorPart d part.toNat)) else (e, .refusedRange)

/-- The bank that a byte names: 0 A, 1 B (Table 10-3). -/
def bankOf (b : Byte) : Option BankId :=
  match b.toNat with
  | 0 => some .a
  | 1 => some .b
  | _ => none

/-- READ-RECORD of READY, PENDING, ACTIVE and RETIRED banks (Table 10-1). DESIGN CHOICE (log entry 50): the ranges
are checked before the state of the bank. -/
def Ev.readRecord (e : Ev) (bank table index part : Byte) : Ev × Reply :=
  match bankOf bank with
  | none => (e, .refusedRange)
  | some id =>
    if tableSize table.toNat ≤ index.toNat || 1 < part.toNat then (e, .refusedRange)
    else
      match (e.banks.get id).state with
      | .empty | .loading => (e, .refusedState)
      | _ => (e, .ok (recordData (lookup (e.banks.get id).set table.toNat index.toNat) part.toNat))

/-- The snapshot is held with a new time of its latest request, or released after its last entry (R170). -/
def Ev.keepSnapshot (e : Ev) (p : Snapshot) (chunk : Nat) : Ev :=
  { e with mgr := { e.mgr with
      snapshot := if p.entries.length ≤ chunk then none else some { p with lastRequest := e.uptime } } }

/-- READ-ALARMS (R170). DESIGN CHOICE (log entry 52): a chunk request that is refused does not restart the count of the
snapshot's release. -/
def Ev.readAlarms (e : Ev) (chunk : Byte) : Ev × Reply :=
  if chunk = 0 then
    let p : Snapshot := ⟨e.alarms.entries, e.alarms.unacked, e.alarms.marks.length, e.uptime⟩
    let n := e.mgr.snapshotNumber + 1
    (Ev.keepSnapshot { e with mgr := { e.mgr with snapshotNumber := n } } p 0, .ok (p.head n))
  else if 64 < chunk.toNat then (e, .refusedRange)
  else
    match e.mgr.snapshot with
    | none => (e, .refusedState)
    | some p =>
      match p.entries[chunk.toNat - 1]? with
      | none => (e, .refusedRange)
      | some x => (e.keepSnapshot p chunk.toNat, .ok (p.chunk e.mgr.snapshotNumber x))

/-! ### Loading (R162, R163) -/

/-- The load target: the bank that is not ACTIVE; bank A while no bank is ACTIVE (R162). -/
def Banks.loadTarget (bs : Banks) : BankId := if bs.a.state = .active then .b else .a

/-- LOAD-BEGIN, by the first line of R162 that holds. -/
def Ev.loadBegin (e : Ev) : Ev × Reply :=
  let id := e.banks.loadTarget
  if (e.banks.get id).state = .pending then (e, .busy)
  else if e.store.pinned = some id then (e, .busy)
  else ({ e with banks := e.banks.put id ⟨.loading, [], 0⟩ }, .ok [])

/-- LOAD-CHUNK (R163). DESIGN CHOICE (log entry 51): that a bank is LOADING is checked before the ranges. Too few record
bytes are judged here (log entry 54). -/
def Ev.loadChunk (e : Ev) (table index : Byte) (bytes : List Byte) : Ev × Reply :=
  match e.banks.find .loading with
  | none => (e, .refusedState)
  | some id =>
    if tableSize table.toNat ≤ index.toNat || bytes.length ≠ recordLength table.toNat then
      (e, .refusedRange)
    else
      let b := e.banks.get id
      ({ e with banks := e.banks.put id { b with set := putRecord b.set ⟨table.toNat, index.toNat, bytes⟩ } },
       .ok [])

/-- LOAD-END (R163, R133): the bank becomes READY and keeps its check value, or EMPTY. -/
def Ev.loadEnd (e : Ev) (check : BitVec 16) : Ev × Reply :=
  match e.banks.find .loading with
  | none => (e, .refusedState)
  | some id =>
    let b := e.banks.get id
    match examine e.trunk.ownId b.set check with
    | none => ({ e with banks := e.banks.put id ⟨.ready, b.set, check⟩ }, .ok [])
    | some f => ({ e with banks := e.banks.put id .blank }, .failed f)

/-! ### Activation and rollback (R164) -/

/-- ACTIVATE acts on the READY bank, ROLLBACK on the RETIRED one: refused while there is none, while a zone is
in DOORS-CLOSED mode or while a line sense is not CLEAR; else an immediate swap, or PENDING (R164). -/
def Ev.activateBank (e : Ev) (from_ : BankState) : Ev × Reply :=
  match e.banks.find from_ with
  | none => (e, .refusedState)
  | some id =>
    if e.anyZoneClosed || e.anyLineHeld then (e, .refusedState)
    else if e.activeSet.isNone || e.allQuiescent then (e.swap id, .ok [])
    else ({ e with banks := e.banks.setState id .pending }, .ok [])

/-! ### STORE, ENROLL, FORGET-FOREIGN, RESTART -/

/-- STORE, by the first line of R172 that holds. -/
def Ev.startStore (e : Ev) : Ev × Reply :=
  if e.store.pinned.isSome then (e, .busy)
  else
    match e.banks.find .active with
    | none => (e, .refusedState)
    | some id => ({ e with store := { e.store with pinned := some id, age := 0 } }, .ok [])

/-- The branch that a byte names. -/
def branchOf (b : Byte) : Option BranchId := if h : b.toNat < 4 then some ⟨b.toNat, h⟩ else none

/-- ENROLL (R141, R168). -/
def Ev.enroll (e : Ev) (branch mode : Byte) : Ev × Reply :=
  match branchOf branch with
  | none => (e, .refusedRange)
  | some b =>
    if 1 < mode.toNat then (e, .refusedRange)
    else
      match e.branches[b].state with
      | .disabled => (e, .refusedState)
      | .enrolling _ => (e, .busy)
      | .polling =>
        if e.enrollBusy b then (e, .busy)
        else (if mode = 0 then e.beginFresh b else e.beginAdd b, .ok [])

/-- FORGET-FOREIGN (R147, R168). -/
def Ev.forgetForeign (e : Ev) (branch : Byte) : Ev × Reply :=
  match branchOf branch with
  | none => (e, .refusedRange)
  | some b =>
    ((e.modBranch b fun r => { r with foreign := [] }).push (.clear (.branch b) .foreignUnit), .ok [])

/-- RESTART is answered OK; the restart is taken at the transmission of that reply (R168). -/
def Ev.askRestart (e : Ev) : Ev × Reply := (e, .ok [])

/-! ### Requests (R167) -/

/-- Number of operand bytes that a request needs (Table 10-3). DESIGN CHOICE (log entry 54): LOAD-CHUNK needs its table
id and index, and the number of its record bytes is left to R163. -/
def operandLength : Nat → Nat
  | 1 => 1 | 2 => 1 | 3 => 2 | 4 => 4 | 5 => 1 | 7 => 2 | 8 => 2 | 12 => 2 | 13 => 1 | _ => 0

/-- A request whose payload is long enough, by its code (Table 10-3); INVALID outside 1 to 14. -/
def Ev.request_ (e : Ev) (code : Byte) (ops : List Byte) : Ev × Reply :=
  match code.toNat with
  | 1 => e.identify (at_ ops 0)
  | 2 => e.readStatus (at_ ops 0)
  | 3 => e.readDoor (at_ ops 0) (at_ ops 1)
  | 4 => e.readRecord (at_ ops 0) (at_ ops 1) (at_ ops 2) (at_ ops 3)
  | 5 => e.readAlarms (at_ ops 0)
  | 6 => e.loadBegin
  | 7 => e.loadChunk (at_ ops 0) (at_ ops 1) (ops.drop 2)
  | 8 => e.loadEnd (at16 ops 0)
  | 9 => e.activateBank .ready
  | 10 => e.activateBank .retired
  | 11 => e.startStore
  | 12 => e.enroll (at_ ops 0) (at_ ops 1)
  | 13 => e.forgetForeign (at_ ops 0)
  | 14 => e.askRestart
  | _ => (e, .invalid)

/-- The request of a payload: INVALID where it is too short for the operands of its code (R167). -/
def Ev.requestOf (code : Byte) (ops : List Byte) (e : Ev) : Ev × Reply :=
  if ops.length < operandLength code.toNat then (e, .invalid) else e.request_ code ops

/-- The MGMT-REPLY joins the reply class, and the last-request flag takes or loses the request (R167, Table
10-2). -/
def Ev.reply (e : Ev) (src : Station) (tag code : Byte) (r : Reply) : Ev :=
  { e with
    mgr := { e.mgr with lastRequest := if r.code = 1 then none else some (code, byte r.code) }
    trunk := { e.trunk with
      replies := e.trunk.replies
        ++ [⟨e.trunk.ownId, src, [code, tag, byte r.code] ++ r.detail ++ r.data⟩] } }

/-- A request taken by the Management Responder: served, and answered by one MGMT-REPLY (R167). -/
def Ev.manager (e : Ev) (src : Station) (tag code : Byte) (f : Ev → Ev × Reply) : Ev :=
  (f e).1.reply src tag code (f e).2

/-- A MGMT-REQUEST frame as it arrives: delivered to the Management Responder, discarded for a full reply
class, or without effect (R150, R156, R158). -/
def State.requestFrame (s : State) (route : Route) (payload : List Byte) (tag code : Byte)
    (f : Ev → Ev × Reply) : State :=
  match s.deliver ⟨kindRequest, route, payload⟩ with
  | .manager => (s.begin.manager route.src tag code f).settle
  | .discarded => s.rxDiscard
  | _ => s

end Sys2Proof.Machine
end

