-- ==== Sys2Proof/Machine/ExecManage.lean ====
section
/-! DEFINITION. The management requests of Table 10-3, each as the arrival of a MGMT-REQUEST frame whose
payload is code, tag and operands; and STORE_END, the end of a store. -/

namespace Sys2Proof.Machine

open Sys2Proof

/-- IDENTIFY, code 1. -/
def execIdentify (route : Route) (tag part : Byte) (s : State) : Host.Outcome State Fault Refusal :=
  s.live fun s => s.requestFrame route [1, tag, part] tag 1 fun e => e.identify part

/-- READ-STATUS, code 2 (R167, R171). -/
def execReadStatus (route : Route) (tag page : Byte) (s : State) : Host.Outcome State Fault Refusal :=
  s.live fun s => s.requestFrame route [2, tag, page] tag 2 fun e => e.readStatus page

/-- READ-DOOR, code 3. -/
def execReadDoor (route : Route) (tag slot part : Byte) (s : State) : Host.Outcome State Fault Refusal :=
  s.live fun s => s.requestFrame route [3, tag, slot, part] tag 3 fun e => e.readDoor slot part

/-- READ-RECORD, code 4. -/
def execReadRecord (route : Route) (tag bank table index part : Byte) (s : State) :
    Host.Outcome State Fault Refusal :=
  s.live fun s => s.requestFrame route [4, tag, bank, table, index, part] tag 4 fun e =>
    e.readRecord bank table index part

/-- READ-ALARMS, code 5 (R170). -/
def execReadAlarms (route : Route) (tag chunk : Byte) (s : State) : Host.Outcome State Fault Refusal :=
  s.live fun s => s.requestFrame route [5, tag, chunk] tag 5 fun e => e.readAlarms chunk

/-- LOAD-BEGIN, code 6 (R162). -/
def execLoadBegin (route : Route) (tag : Byte) (s : State) : Host.Outcome State Fault Refusal :=
  s.live fun s => s.requestFrame route [6, tag] tag 6 fun e => e.loadBegin

/-- LOAD-CHUNK, code 7 (R163). -/
def execLoadChunk (route : Route) (tag table index : Byte) (bytes : List Byte) (s : State) :
    Host.Outcome State Fault Refusal :=
  s.live fun s => s.requestFrame route ([7, tag, table, index] ++ bytes) tag 7 fun e =>
    e.loadChunk table index bytes

/-- LOAD-END, code 8 (R163, R133). -/
def execLoadEnd (route : Route) (tag : Byte) (check : BitVec 16) (s : State) :
    Host.Outcome State Fault Refusal :=
  s.live fun s => s.requestFrame route ([8, tag] ++ bytes16 check) tag 8 fun e => e.loadEnd check

/-- ACTIVATE, code 9 (R164). -/
def execActivate (route : Route) (tag : Byte) (s : State) : Host.Outcome State Fault Refusal :=
  s.live fun s => s.requestFrame route [9, tag] tag 9 fun e => e.activateBank .ready

/-- ROLLBACK, code 10 (R164). -/
def execRollback (route : Route) (tag : Byte) (s : State) : Host.Outcome State Fault Refusal :=
  s.live fun s => s.requestFrame route [10, tag] tag 10 fun e => e.activateBank .retired

/-- STORE, code 11 (R172). -/
def execStore (route : Route) (tag : Byte) (s : State) : Host.Outcome State Fault Refusal :=
  s.live fun s => s.requestFrame route [11, tag] tag 11 fun e => e.startStore

/-- ENROLL, code 12 (R141, R168). -/
def execEnroll (route : Route) (tag branch mode : Byte) (s : State) : Host.Outcome State Fault Refusal :=
  s.live fun s => s.requestFrame route [12, tag, branch, mode] tag 12 fun e => e.enroll branch mode

/-- FORGET-FOREIGN, code 13 (R147, R168). -/
def execForgetForeign (route : Route) (tag branch : Byte) (s : State) :
    Host.Outcome State Fault Refusal :=
  s.live fun s => s.requestFrame route [13, tag, branch] tag 13 fun e => e.forgetForeign branch

/-- RESTART, code 14 (R168). -/
def execRestartRequest (route : Route) (tag : Byte) (s : State) : Host.Outcome State Fault Refusal :=
  s.live fun s => s.requestFrame route [14, tag] tag 14 fun e => e.askRestart

/-! ### The end of a store (R172, R173) -/

/-- A store runs and is 1 to 30 tenths old (R172). -/
def Store.canEnd (st : Store) : Bool := st.pinned.isSome && inRange 1 30 st.age

/-- The image read back equals the pinned bank's set and check value (R173). -/
def State.readBackEqual (s : State) (id : BankId) (readBack : NvImage) : Bool :=
  readBack == .stored (s.banks.get id).set (s.banks.get id).check

/-- The store ends: the image is as it was read back, STORE-DONE or STORE-FAILED is set by the comparison,
and the engine is IDLE with no bank pinned (R173). -/
def State.endStore (s : State) (id : BankId) (readBack : NvImage) : State :=
  { s with
    store := ⟨readBack, none, 0⟩
    mgr := s.mgr.setFlag (if s.readBackEqual id readBack then .storeDone else .storeFailed) }

/-- STORE_END (R173): the end of a store that runs. What the image holds at the end, the pinned set or
something else, is the memory's to decide, and the command carries it. -/
def execStoreEnd (readBack : NvImage) (s : State) : Host.Outcome State Fault Refusal :=
  s.live fun s =>
    match s.store.pinned with
    | some id => if s.store.canEnd then s.endStore id readBack else s
    | none => s

end Sys2Proof.Machine
end

