-- ==== Sys2Proof/Machine/Heeling.lean ====
section
/-! DEFINITION. The heel sources (section 4.3): a HEEL frame taken, staleness, and HEEL-STALE. -/

namespace Sys2Proof.Machine

open Sys2Proof

/-- A HEEL frame taken for a source (R76): the value is clamped and stored with its arrival, and the source
is fresh. A source that becomes fresh clears HEEL-STALE (R79). -/
def Ev.takeHeel (e : Ev) (src : HeelSrc) (v : BitVec 16) : Ev :=
  let e1 : Ev := { e with heel := e.heel.put src ⟨some (clampHeel v), e.uptime, true⟩ }
  if (e.heel.get src).fresh then e1 else e1.push (.clear .device .heelStale)

/-- HEEL-STALE is raised when neither source is fresh, from the first judgement on (R79). -/
def Ev.judgeHeel (e : Ev) : Ev :=
  if e.heel.noneFresh && e.heel.judged then e.push (.raise .device .heelStale) else e

/-- A source becomes stale; its value is kept (R77). -/
def Ev.heelStale (e : Ev) (src : HeelSrc) : Ev :=
  Ev.judgeHeel { e with heel := e.heel.put src { e.heel.get src with fresh := false } }

/-- The first judgement of HEEL-STALE (R79). -/
def Ev.firstJudge (e : Ev) : Ev := Ev.judgeHeel { e with heel := { e.heel with judged := true } }

end Sys2Proof.Machine
end

