-- ==== Sys2Proof/Machine/Timers.lean ====
section
/-! DEFINITION. When each timer of the part expires, and what its expiry does to the door, the heel sources or
the snapshot. -/

namespace Sys2Proof.Machine

open Sys2Proof

/-! ### Door timers -/

/-- The DWELL timer of the door expires now (R15, R21). -/
def Door.dwellDue (now : Time) (r : Door) : Bool :=
  match r.phase, r.timer with
  | .dwell, .dwell t => t == now
  | _, _ => false

/-- The outcome of a dwell expiry (R21). -/
def Ev.dwellExpired (e : Ev) (d : Slot) : Ev :=
  let r := e.doors[d]
  let e1 := e.toPhase d .idle
  if r.link = .online ∧ r.state ≠ .closed ∧ r.conds.travelTimeout = none then
    e1.request d .closing .reclose .order
  else e1

/-- The RETRY timer of the door expires now (R15, R68): the direction and basis it keeps. -/
def Door.retryDue (now : Time) (r : Door) : Option (Dir × Basis) :=
  match r.phase, r.timer with
  | .retryWait, .retry t dir _ basis => if t = now then some (dir, basis) else none
  | _, _ => none

/-- The outcome of a retry expiry, by the first line of R68 that holds. -/
def Ev.retryExpired (e : Ev) (d : Slot) (dir : Dir) (basis : Basis) : Ev :=
  let e1 := e.toPhase d .idle
  if e.doors[d].link ≠ .online then e1.zeroRetry d
  else
    match dir, basis, e.orderHeld d with
    | .closing, basis, true => e1.request d .closing .retry basis
    | .closing, .remote, false => e1.request d .closing .retry .remote
    | .opening, .remote, false => e1.request d .opening .retry .remote
    | _, _, _ => e1.zeroRetry d

/-- The warning lead of the door expires now (R57). -/
def Door.leadDue (now : Time) (lead : Nat) (r : Door) : Bool :=
  match r.phase, r.move with
  | .warning, .admitted a =>
    match a.leadStart with
    | some t => elapsed now t == lead
    | none => false
  | _, _ => false

/-- The warning lead of a fitted door expires now. -/
def State.leadDue (s : State) (d : Slot) : Bool :=
  match s.doorRec d with
  | some rec => s.doors[d].leadDue s.uptime rec.warningLead
  | none => false

/-- The outcome of a lead expiry (R57): the slot takes CLOSE, and the door is DRIVING, not yet started. -/
def Ev.leadExpired (e : Ev) (d : Slot) : Ev := (e.place d .close).toPhase d .driving

/-- The issue deadline of an admission whose motion has not started expires now (R59). -/
def Door.issueDue (now : Time) (r : Door) : Option Admission :=
  match r.move with
  | .admitted a => if a.issueDeadline = now then some a else none
  | _ => none

/-- The outcome of an issue deadline (R59). -/
def Ev.issueExpired (e : Ev) (d : Slot) (a : Admission) : Ev :=
  (e.place d (if e.doors[d].phase = .warning then .warnOff else .halt)).endTimeout d a.dir

/-- The deadline of a started motion expires now (R81). -/
def Door.deadlineDue (now : Time) (r : Door) : Option Motion :=
  match r.move with
  | .started m => if elapsed now m.start = m.allowance then some m else none
  | _ => none

/-- A LINK-LOST hold that expires now (R48). -/
def Hold.expires (now : Time) (h : Hold) : Bool :=
  match h.kind with
  | .linkLost t => t == now
  | .halt _ => false

/-- Some LINK-LOST hold of the door expires now. -/
def Door.holdDue (now : Time) (r : Door) : Bool := r.holds.any (Hold.expires now)

/-- The LINK-LOST holds that expire now end (R48). -/
def Ev.holdsExpired (e : Ev) (d : Slot) : Ev :=
  e.modDoor d fun r => { r with holds := r.holds.filter fun h => !h.expires e.uptime }

/-! ### Heel sources -/

/-- A fresh source becomes stale now: more than 50 tenths have passed since its value (R77). -/
def HeelSource.staleDue (now : Time) (h : HeelSource) : Bool := h.fresh && 51 ≤ elapsed now h.arrival

/-- HEEL-STALE is judged for the first time now, at uptime 50 (R79). -/
def State.firstJudgeDue (s : State) : Bool := s.uptime == 50#32 && !s.heel.judged

/-! ### Re-announce timer, indication, snapshot -/

/-- The re-announce timer expires now (R117). -/
def State.reannounceDue (s : State) : Bool := s.alarms.reannounceAt == s.uptime

/-- The outcome of a re-announce expiry; the timer runs on with its period of 300 tenths (R117). -/
def State.reannounced (s : State) : State :=
  let s1 := s.reannounce
  s1.withAlarms { s1.alarms with reannounceAt := s.uptime + 300#32 }

/-- The uptime is at the spacing point of the last freeze (R95). -/
def State.atSpacing (s : State) : Bool := elapsed s.uptime s.ind.lastFreeze == 2

/-- The uptime is at the refresh point of the last freeze (R95). -/
def State.atRefresh (s : State) : Bool := elapsed s.uptime s.ind.lastFreeze == 20

/-- The snapshot is 10 tenths past its latest chunk request (R170). -/
def State.snapshotDue (s : State) : Bool :=
  match s.mgr.snapshot with
  | some p => elapsed s.uptime p.lastRequest == 10
  | none => false

/-- The snapshot is released (R170). -/
def State.releaseSnapshot (s : State) : State := { s with mgr := { s.mgr with snapshot := none } }

end Sys2Proof.Machine
end

