-- ==== Sys2Proof/Machine/Clock.lean ====
section
/-! DEFINITION. The clock: one tenth of a second passes, and the expiries that fall at the new tenth wait as
commands (sections 0.1 and 0.6). -/

namespace Sys2Proof.Machine

open Sys2Proof

/-- A condition gives a command. -/
def given (c : Bool) (i : Instr) : List Instr := if c then [i] else []

/-- The samples of the released lines, every 0.1 s (R43). -/
def State.samplesDue (s : State) : List Instr :=
  branchIds.flatMap fun b => given (!s.branches[b].latch) (.lineSample b s.pins.lineLow[b])

/-- The expiries due for one door. -/
def State.doorDue (s : State) (d : Slot) : List Instr :=
  let r := s.doors[d]
  given (r.dwellDue s.uptime) (.dwellExpiry d)
    ++ given (r.retryDue s.uptime).isSome (.retryExpiry d)
    ++ given (s.leadDue d) (.warningLeadExpiry d)
    ++ given (r.issueDue s.uptime).isSome (.issueDeadlineExpiry d)
    ++ given (r.deadlineDue s.uptime).isSome (.deadlineExpiry d)
    ++ given (r.holdDue s.uptime) (.linkLostHoldExpiry d)

/-- The image that a store leaves when nothing disturbs it: the pinned bank's set and check value (R172). -/
def State.wholeImage (s : State) (id : BankId) : NvImage := .stored (s.banks.get id).set (s.banks.get id).check

/-- A store that is 30 tenths old ends now at the latest (R172). -/
def State.storeDue (s : State) : List Instr :=
  match s.store.pinned with
  | some id => given (s.store.age == 30) (.storeEnd (s.wholeImage id))
  | none => []

/-- All expiries that fall at the present tenth, and the line samples. -/
def State.allDue (s : State) : List Instr :=
  s.samplesDue
    ++ slots.flatMap s.doorDue
    ++ given (s.heel.primary.staleDue s.uptime) (.heelSourceStale .primary)
    ++ given (s.heel.secondary.staleDue s.uptime) (.heelSourceStale .secondary)
    ++ given s.firstJudgeDue .heelStaleFirstJudge
    ++ given s.reannounceDue .reannounceExpiry
    ++ given s.atSpacing .spacingPoint
    ++ given s.atRefresh .refreshPoint
    ++ given s.snapshotDue .snapshotRelease
    ++ s.storeDue

/-- The store engine is one tenth older (R172). -/
def Store.older (st : Store) : Store := if st.pinned.isSome then { st with age := st.age + 1 } else st

/-- Uptime counts one tenth; it wraps at 32 bits (section 0.6). -/
def State.advance (s : State) : State := { s with uptime := s.uptime + 1, store := s.store.older }

/-- One tenth passes on a powered part: uptime counts, and what is due waits in the queue. -/
def State.tick (s : State) : State :=
  if s.powered then { s.advance with pending := s.pending ++ s.advance.allDue } else s

end Sys2Proof.Machine
end

