-- ==== Sys2Proof/Machine/ExecBranch.lean ====
section
/-! DEFINITION. Events of the door branches: the outcome of a poll, the emergency close line, and the rounds of
an enrollment run (Chapter 8). -/

namespace Sys2Proof.Machine

open Sys2Proof

/-! ### Polls (R136 to R140) -/

/-- The poll in flight of a POLLING branch. -/
def Branch.poll? (r : Branch) : Option Poll := if r.isPolling then r.inFlight else none

/-- The outcome of a poll: none is in flight, and the next is a priority poll after a regular one and a
regular poll after a priority one (R137, R138). -/
def Branch.afterPoll (p : Poll) (r : Branch) : Branch :=
  { r with inFlight := none, due := if p.turn = .regular then .priority else .regular }

/-- A valid reply is handed to Door Supervision for the door bound to the polled address (R140). -/
def Ev.pollAnswered (e : Ev) (b : BranchId) (p : Poll) (r : Report) : Ev :=
  let e1 := e.modBranch b (Branch.afterPoll p)
  match e.doorAt b p.address with
  | some d =>
    match e.doorRec d with
    | some rec => e1.takeReport d rec r
    | none => e1
  | none => e1

/-- STATUS_REPLY (R11, R136): a reply that starts in the window of the poll in flight. One that is not valid is
taken as no reply, and its poll ends by POLL_MISS. -/
def execStatusReply (b : BranchId) (bytes : List Byte) (s : State) : Host.Outcome State Fault Refusal :=
  s.live fun s =>
    match s.branches[b].poll? with
    | some p =>
      match parseStatus p.address s.uptime bytes with
      | some r => (s.begin.pollAnswered b p r).settle
      | none => s
    | none => s

/-- A miss is handed to Door Supervision for the door bound to the polled address (R140). -/
def Ev.pollMissed (e : Ev) (b : BranchId) (p : Poll) : Ev :=
  let e1 := e.modBranch b (Branch.afterPoll p)
  match e.doorAt b p.address with
  | some d => e1.takeMiss d
  | none => e1

/-- POLL_MISS (R8): the reply window of the poll in flight closes without a valid reply. -/
def execPollMiss (b : BranchId) (s : State) : Host.Outcome State Fault Refusal :=
  s.live fun s =>
    match s.branches[b].poll? with
    | some p => (s.begin.pollMissed b p).settle
    | none => s

/-! ### Emergency close line (R43, R44) -/

/-- The level on a line as the part finds it. -/
def State.setLine (s : State) (b : BranchId) (low : Bool) : State :=
  { s with pins := { s.pins with lineLow := s.pins.lineLow.set b low } }

/-- LINE_SAMPLE (R43, R44): the line is sampled while its latch is released, and the orders follow its
sense. -/
def execLineSample (b : BranchId) (low : Bool) (s : State) : Host.Outcome State Fault Refusal :=
  s.live fun s =>
    let s1 := s.setLine b low
    ((s1.begin.sample b).sourcesChanged s1).settle

/-! ### Enrollment (R144, R145) -/

/-- The run of a branch at a step. -/
def Branch.runAt (r : Branch) (step : RunStep) : Option Run :=
  match r.run with
  | some run => if run.step = step then some run else none
  | none => none

/-- CALL_ANSWER (R144, R145): a complete answer with a correct check. -/
def execCallAnswer (b : BranchId) (serial : Serial) (s : State) : Host.Outcome State Fault Refusal :=
  s.live fun s =>
    match s.branches[b].runAt .calling with
    | some r => (s.begin.takeAnswer b r serial).settle
    | none => s

/-- ASSIGN_SENT (R144): the next round begins. -/
def execAssignSent (b : BranchId) (s : State) : Host.Outcome State Fault Refusal :=
  s.live fun s =>
    match s.branches[b].runAt .assigning with
    | some r => (s.begin.beginRound b r).settle
    | none => s

/-- CALL_ANSWER_FAULT (R145): an answer that breaks off or whose check is wrong. -/
def execCallAnswerFault (b : BranchId) (s : State) : Host.Outcome State Fault Refusal :=
  s.live fun s =>
    match s.branches[b].runAt .calling with
    | some r => (s.begin.noProgress b r fun e r' => e.beginRound b r').settle
    | none => s

/-- CALL_NO_ANSWER (R145): no answer starts in the answer window, and the run ends complete. -/
def execCallNoAnswer (b : BranchId) (s : State) : Host.Outcome State Fault Refusal :=
  s.live fun s =>
    match s.branches[b].runAt .calling with
    | some _ => (s.begin.endRun b none).settle
    | none => s

end Sys2Proof.Machine
end

