-- ==== Sys2Proof/Machine/ExecPanel.lean ====
section
/-! DEFINITION. The panel commands of Table 2-2, each as the arrival of a COMMAND frame whose payload is code,
operand, kind and tag (Table 9-4). A byte that a command does not use is 0. -/

namespace Sys2Proof.Machine

open Sys2Proof

/-- CLOSE-ZONE, code 1 (R31). -/
def execCloseZone (route : Route) (zone tag : Byte) (s : State) : Host.Outcome State Fault Refusal :=
  s.live fun s => s.commandFrame route [1, zone, 0, tag] tag 1 (some (cmdCloseZone zone))

/-- CLOSE-ALL, code 2 (R31). -/
def execCloseAll (route : Route) (tag : Byte) (s : State) : Host.Outcome State Fault Refusal :=
  s.live fun s => s.commandFrame route [2, 0, 0, tag] tag 2 (some cmdCloseAll)

/-- RELEASE-ZONE, code 3 (R32). -/
def execReleaseZone (route : Route) (zone tag : Byte) (s : State) : Host.Outcome State Fault Refusal :=
  s.live fun s => s.commandFrame route [3, zone, 0, tag] tag 3 (some (cmdReleaseZone zone))

/-- RELEASE-ALL, code 4 (R32). -/
def execReleaseAll (route : Route) (tag : Byte) (s : State) : Host.Outcome State Fault Refusal :=
  s.live fun s => s.commandFrame route [4, 0, 0, tag] tag 4 (some cmdReleaseAll)

/-- DOOR-CLOSE, code 5 (R33). -/
def execDoorClose (route : Route) (slot tag : Byte) (s : State) : Host.Outcome State Fault Refusal :=
  s.live fun s => s.commandFrame route [5, slot, 0, tag] tag 5 (some (cmdDoor slot Ev.doorClose))

/-- DOOR-OPEN, code 6 (R34). -/
def execDoorOpen (route : Route) (slot tag : Byte) (s : State) : Host.Outcome State Fault Refusal :=
  s.live fun s => s.commandFrame route [6, slot, 0, tag] tag 6 (some (cmdDoor slot Ev.doorOpen))

/-- DOOR-STOP, code 7 (R35). -/
def execDoorStop (route : Route) (slot tag : Byte) (s : State) : Host.Outcome State Fault Refusal :=
  s.live fun s => s.commandFrame route [7, slot, 0, tag] tag 7 (some (cmdDoor slot Ev.doorStop))

/-- ACK, code 8 (R36, R110, R112). -/
def execAck (route : Route) (subject kind tag : Byte) (s : State) : Host.Outcome State Fault Refusal :=
  s.live fun s => s.commandFrame route [8, subject, kind, tag] tag 8 (some (cmdAck subject kind))

/-- ACK-ALL, code 9 (R36, R111, R112). -/
def execAckAll (route : Route) (tag : Byte) (s : State) : Host.Outcome State Fault Refusal :=
  s.live fun s => s.commandFrame route [9, 0, 0, tag] tag 9 (some cmdAckAll)

end Sys2Proof.Machine
end

