-- ==== Sys2Proof/Machine/ExecTimer.lean ====
section
/-! DEFINITION. The expiries. Each has its effect at the tenth at which it is due; a timer that is withdrawn, or
that is not yet due, has no expiry. -/

namespace Sys2Proof.Machine

open Sys2Proof

/-- DWELL_EXPIRY (R21). -/
def execDwellExpiry (d : Slot) (s : State) : Host.Outcome State Fault Refusal :=
  s.live fun s => if s.doors[d].dwellDue s.uptime then (s.begin.dwellExpired d).settle else s

/-- RETRY_EXPIRY (R68). -/
def execRetryExpiry (d : Slot) (s : State) : Host.Outcome State Fault Refusal :=
  s.live fun s =>
    match s.doors[d].retryDue s.uptime with
    | some (dir, basis) => (s.begin.retryExpired d dir basis).settle
    | none => s

/-- WARNING_LEAD_EXPIRY (R57). -/
def execWarningLeadExpiry (d : Slot) (s : State) : Host.Outcome State Fault Refusal :=
  s.live fun s => if s.leadDue d then (s.begin.leadExpired d).settle else s

/-- ISSUE_DEADLINE_EXPIRY (R59). -/
def execIssueDeadlineExpiry (d : Slot) (s : State) : Host.Outcome State Fault Refusal :=
  s.live fun s =>
    match s.doors[d].issueDue s.uptime with
    | some a => (s.begin.issueExpired d a).settle
    | none => s

/-- DEADLINE_EXPIRY (R81, R63). -/
def execDeadlineExpiry (d : Slot) (s : State) : Host.Outcome State Fault Refusal :=
  s.live fun s =>
    match s.doors[d].deadlineDue s.uptime with
    | some m => (s.begin.endTimeout d m.dir).settle
    | none => s

/-- LINK_LOST_HOLD_EXPIRY (R48, R66). -/
def execLinkLostHoldExpiry (d : Slot) (s : State) : Host.Outcome State Fault Refusal :=
  s.live fun s => if s.doors[d].holdDue s.uptime then (s.begin.holdsExpired d).settle else s

/-- HEEL_SOURCE_STALE (R77, R79). -/
def execHeelSourceStale (src : HeelSrc) (s : State) : Host.Outcome State Fault Refusal :=
  s.live fun s => if (s.heel.get src).staleDue s.uptime then (s.begin.heelStale src).settle else s

/-- HEEL_STALE_FIRST_JUDGE (R79). -/
def execHeelStaleFirstJudge (s : State) : Host.Outcome State Fault Refusal :=
  s.live fun s => if s.firstJudgeDue then s.begin.firstJudge.settle else s

/-- REANNOUNCE_EXPIRY (R117). -/
def execReannounceExpiry (s : State) : Host.Outcome State Fault Refusal :=
  s.live fun s => if s.reannounceDue then s.reannounced else s

/-- SPACING_POINT (R95): the freeze conditions are judged. -/
def execSpacingPoint (s : State) : Host.Outcome State Fault Refusal :=
  s.live fun s => if s.atSpacing then s.judgeFreeze else s

/-- REFRESH_POINT (R95): the freeze conditions are judged. -/
def execRefreshPoint (s : State) : Host.Outcome State Fault Refusal :=
  s.live fun s => if s.atRefresh then s.judgeFreeze else s

/-- SNAPSHOT_RELEASE (R170). -/
def execSnapshotRelease (s : State) : Host.Outcome State Fault Refusal :=
  s.live fun s => if s.snapshotDue then s.releaseSnapshot else s

end Sys2Proof.Machine
end

