-- ==== Sys2Proof/Machine/ExecTrunk.lean ====
section
/-! DEFINITION. The trunk: frames received (TRUNK_FRAME, HEEL) and the transmission of the part's own frames
(sections 9.3 to 9.7). -/

namespace Sys2Proof.Machine

open Sys2Proof

/-! ### Receiving -/

/-- A COMMAND delivered to the Order Unit: one shorter than 4 bytes is not taken (R159). -/
def State.takeCommand (s : State) (src : Station) (p : List Byte) : State :=
  if p.length < 4 then s
  else (s.begin.orderUnit src (at_ p 3) (at_ p 0) (panelCmd (at_ p 0) (at_ p 1) (at_ p 2))).settle

/-- A HEEL frame delivered to Travel Timing: one shorter than 2 bytes is not taken (R76). -/
def State.takeHeelFrame (s : State) (src : HeelSrc) (p : List Byte) : State :=
  if p.length < 2 then s else (s.begin.takeHeel src (at16 p 0)).settle

/-- A MGMT-REQUEST delivered to the Management Responder: one shorter than 2 bytes is not taken (R167). -/
def State.takeRequest (s : State) (src : Station) (p : List Byte) : State :=
  if p.length < 2 then s
  else (s.begin.manager src (at_ p 1) (at_ p 0) (Ev.requestOf (at_ p 0) (p.drop 2))).settle

/-- A frame received whole is classified and delivered (R150, R156 to R158). -/
def State.takeFrame (s : State) (f : RxFrame) : State :=
  match s.deliver f with
  | .nowhere => s
  | .discarded => s.rxDiscard
  | .orderUnit => s.takeCommand f.route.src f.payload
  | .travelTiming src => s.takeHeelFrame src f.payload
  | .manager => s.takeRequest f.route.src f.payload

/-- The bytes of a frame as they are heard; a frame with a wrong length or check is not received (R150). -/
def State.hear (s : State) (bytes : List Byte) : State :=
  match parseFrame bytes with
  | some f => s.takeFrame f
  | none => s

/-- TRUNK_FRAME (R150): a frame arrives whole on the trunk. -/
def execTrunkFrame (bytes : List Byte) (s : State) : Host.Outcome State Fault Refusal :=
  s.live fun s => s.hear bytes

/-- HEEL (R76): a HEEL frame with a heel in its first two bytes. -/
def execHeel (route : Route) (value : BitVec 16) (s : State) : Host.Outcome State Fault Refusal :=
  s.live fun s =>
    match s.deliver ⟨kindHeel, route, bytes16 value⟩ with
    | .travelTiming src => (s.begin.takeHeel src value).settle
    | _ => s

/-! ### Transmitting -/

/-- The frames of a class, in the order in which they joined it. -/
def Trunk.frames (t : Trunk) : TxClass → List TxFrame
  | .notice => t.notices
  | .answer => t.answers
  | .part => t.parts
  | .reply => t.replies

/-- Replace the frames of a class. -/
def Trunk.setFrames (t : Trunk) (c : TxClass) (fs : List TxFrame) : Trunk :=
  match c with
  | .notice => { t with notices := fs }
  | .answer => { t with answers := fs }
  | .part => { t with parts := fs }
  | .reply => { t with replies := fs }

/-- The class whose head is sent next: the waiting class of highest priority (R152). -/
def Trunk.choose (t : Trunk) : Option TxClass :=
  [TxClass.notice, .answer, .part, .reply].find? fun c => !(t.frames c).isEmpty

/-- A transmission starts while the trunk is free and a frame waits (R152). -/
def Trunk.start (t : Trunk) : Trunk :=
  match t.sending with
  | some _ => t
  | none => { t with sending := t.choose }

/-- TRANSMIT_START (R152). -/
def execTransmitStart (s : State) : Host.Outcome State Fault Refusal :=
  s.live fun s => { s with trunk := s.trunk.start }

/-- The frame on the trunk waits again (R153). -/
def State.stopSending (s : State) : State := { s with trunk := { s.trunk with sending := none } }

/-- ARBITRATION_LOST (R153): the frame waits again in its place, and the winning frame is taken. -/
def execArbitrationLost (winner : List Byte) (s : State) : Host.Outcome State Fault Refusal :=
  s.live fun s => if s.trunk.sending.isSome then s.stopSending.hear winner else s

/-- The error count after one more error; it holds at 16 (R154). -/
def Trunk.errorUp (t : Trunk) : Trunk := { t with sending := none, errors := min 16 (t.errors + 1) }

/-- A transmit error: the count goes up, and TRUNK-FAULT is raised when it reaches 16 (R153, R154). -/
def Ev.transmitError (e : Ev) : Ev :=
  let e1 : Ev := { e with trunk := e.trunk.errorUp }
  if e1.trunk.errors = 16 && e.trunk.errors != 16 then e1.push (.raise .device .trunkFault) else e1

/-- TRANSMIT_ERROR (R153, R154). -/
def execTransmitError (s : State) : Host.Outcome State Fault Refusal :=
  s.live fun s => if s.trunk.sending.isSome then s.begin.transmitError.settle else s

/-- A successful transmission: the frame leaves its class, the error count becomes 0, and TRUNK-FAULT is
cleared if it stood at 16 (R153, R154). -/
def Ev.transmitDone (e : Ev) (c : TxClass) : Ev :=
  let e1 : Ev :=
    { e with trunk :=
        { e.trunk.setFrames c (e.trunk.frames c).tail with sending := none, errors := 0 } }
  if e.trunk.errors = 16 then e1.push (.clear .device .trunkFault) else e1

/-- A frame of the reply class that answers a RESTART request (R168): its first byte is the request code. -/
def TxFrame.answersRestart (f : TxFrame) : Bool := f.payload.head? == some 14

/-- The transmission just done is that of a RESTART request's reply (R168). -/
def Trunk.restartSent (t : Trunk) (c : TxClass) : Bool :=
  c == .reply && (t.replies.head?.map TxFrame.answersRestart).getD false

/-- The Indication Builder is told of a transmitted part (R98). -/
def Ev.partSent (e : Ev) : Ev := { e with ind := { e.ind with outstanding := e.ind.outstanding - 1 } }

/-- A successful transmission of the frame of a class. That of the reply to a RESTART request takes the
restart; that of an INDICATION part is counted, and that of the last one judges a freeze (R95, R98). -/
def State.transmitted (s : State) (c : TxClass) (pins : Pins) : State :=
  if s.trunk.restartSent c then s.restart .restartRequest pins
  else
    match c with
    | .part =>
      let e := (s.begin.transmitDone c).partSent
      if e.ind.outstanding = 0 then e.settleJudging else e.settle
    | _ => (s.begin.transmitDone c).settle

/-- TRANSMIT_SUCCESS (R153). The pins are read only where the transmission takes a restart, which reads the straps
(R151) and samples the released lines at once (R45). -/
def execTransmitSuccess (pins : Pins) (s : State) : Host.Outcome State Fault Refusal :=
  s.live fun s =>
    match s.trunk.sending with
    | some c => s.transmitted c pins
    | none => s

end Sys2Proof.Machine
end

