-- ==== Sys2Proof/Machine/Dispatch.lean ====
section
/-! DEFINITION. The dispatch: each command to its meaning. -/

namespace Sys2Proof.Machine

open Sys2Proof

def exec (i : Instr) (s : State) : Host.Outcome State Fault Refusal :=
  match i with
  | .powerOnReset pins => Sys2Proof.Machine.execPowerOnReset pins s
  | .restartPin pins => Sys2Proof.Machine.execRestartPin pins s
  | .trunkFrame bytes => Sys2Proof.Machine.execTrunkFrame bytes s
  | .closeZone route zone tag => Sys2Proof.Machine.execCloseZone route zone tag s
  | .closeAll route tag => Sys2Proof.Machine.execCloseAll route tag s
  | .releaseZone route zone tag => Sys2Proof.Machine.execReleaseZone route zone tag s
  | .releaseAll route tag => Sys2Proof.Machine.execReleaseAll route tag s
  | .doorClose route slot tag => Sys2Proof.Machine.execDoorClose route slot tag s
  | .doorOpen route slot tag => Sys2Proof.Machine.execDoorOpen route slot tag s
  | .doorStop route slot tag => Sys2Proof.Machine.execDoorStop route slot tag s
  | .ack route subject kind tag => Sys2Proof.Machine.execAck route subject kind tag s
  | .ackAll route tag => Sys2Proof.Machine.execAckAll route tag s
  | .heel route value => Sys2Proof.Machine.execHeel route value s
  | .identify route tag part => Sys2Proof.Machine.execIdentify route tag part s
  | .readStatus route tag page => Sys2Proof.Machine.execReadStatus route tag page s
  | .readDoor route tag slot part => Sys2Proof.Machine.execReadDoor route tag slot part s
  | .readRecord route tag bank table index part => Sys2Proof.Machine.execReadRecord route tag bank table index part s
  | .readAlarms route tag chunk => Sys2Proof.Machine.execReadAlarms route tag chunk s
  | .loadBegin route tag => Sys2Proof.Machine.execLoadBegin route tag s
  | .loadChunk route tag table index bytes => Sys2Proof.Machine.execLoadChunk route tag table index bytes s
  | .loadEnd route tag check => Sys2Proof.Machine.execLoadEnd route tag check s
  | .activate route tag => Sys2Proof.Machine.execActivate route tag s
  | .rollback route tag => Sys2Proof.Machine.execRollback route tag s
  | .store route tag => Sys2Proof.Machine.execStore route tag s
  | .storeEnd readBack => Sys2Proof.Machine.execStoreEnd readBack s
  | .enroll route tag branch mode => Sys2Proof.Machine.execEnroll route tag branch mode s
  | .forgetForeign route tag branch => Sys2Proof.Machine.execForgetForeign route tag branch s
  | .restartRequest route tag => Sys2Proof.Machine.execRestartRequest route tag s
  | .transmitStart => Sys2Proof.Machine.execTransmitStart s
  | .arbitrationLost winner => Sys2Proof.Machine.execArbitrationLost winner s
  | .transmitError => Sys2Proof.Machine.execTransmitError s
  | .transmitSuccess pins => Sys2Proof.Machine.execTransmitSuccess pins s
  | .statusReply branch bytes => Sys2Proof.Machine.execStatusReply branch bytes s
  | .pollMiss branch => Sys2Proof.Machine.execPollMiss branch s
  | .lineSample branch low => Sys2Proof.Machine.execLineSample branch low s
  | .dwellExpiry door => Sys2Proof.Machine.execDwellExpiry door s
  | .retryExpiry door => Sys2Proof.Machine.execRetryExpiry door s
  | .warningLeadExpiry door => Sys2Proof.Machine.execWarningLeadExpiry door s
  | .issueDeadlineExpiry door => Sys2Proof.Machine.execIssueDeadlineExpiry door s
  | .deadlineExpiry door => Sys2Proof.Machine.execDeadlineExpiry door s
  | .linkLostHoldExpiry door => Sys2Proof.Machine.execLinkLostHoldExpiry door s
  | .heelSourceStale source => Sys2Proof.Machine.execHeelSourceStale source s
  | .heelStaleFirstJudge => Sys2Proof.Machine.execHeelStaleFirstJudge s
  | .reannounceExpiry => Sys2Proof.Machine.execReannounceExpiry s
  | .spacingPoint => Sys2Proof.Machine.execSpacingPoint s
  | .refreshPoint => Sys2Proof.Machine.execRefreshPoint s
  | .snapshotRelease => Sys2Proof.Machine.execSnapshotRelease s
  | .callAnswer branch serial => Sys2Proof.Machine.execCallAnswer branch serial s
  | .assignSent branch => Sys2Proof.Machine.execAssignSent branch s
  | .callAnswerFault branch => Sys2Proof.Machine.execCallAnswerFault branch s
  | .callNoAnswer branch => Sys2Proof.Machine.execCallNoAnswer branch s
  | .powerLoss => Sys2Proof.Machine.execPowerLoss s

end Sys2Proof.Machine
end

