-- ==== Sys2Proof/Safety.lean ====
section
/-! DEFINITION. What the rules say of the part at every moment: the invariants that claims use, block by block. -/

namespace Sys2Proof.Machine

open Sys2Proof

/-! ### Alarm list and marks (R104, R113) -/

/-- Two entries are of different pairs. -/
abbrev AlarmEntry.Differs (x y : AlarmEntry) : Prop := ¬(x.subject = y.subject ∧ x.kind = y.kind)

/-- The standings of R104: an inactive entry is unacknowledged and of alarm class. -/
abbrev AlarmEntry.Standing (x : AlarmEntry) : Prop :=
  (x.active = false → x.ackBy = none ∧ x.kind.isNotice = false) ∧ 1 ≤ x.count ∧ x.count ≤ 255

/-- R104: at most 64 entries, each pair at most once, in one of the three standings; at most one mark for a
pair, in ascending order; no pair both listed and marked; marks only while the list holds 64 entries. -/
abbrev Alarms.Wf (a : Alarms) : Prop :=
  a.entries.length ≤ 64 ∧ a.entries.Pairwise AlarmEntry.Differs ∧ (∀ x ∈ a.entries, x.Standing)
    ∧ a.marks.Pairwise (fun x y => x.before y = true)
    ∧ (∀ m ∈ a.marks, a.entry m.subject m.kind = none)
    ∧ (a.marks ≠ [] → a.entries.length = 64)

/-! ### Transmit queue (R151, R154, R155) -/

/-- The class limits of R155, the error count's range (R154), and an own id that is never the broadcast
address (R151). -/
abbrev Trunk.Wf (t : Trunk) : Prop :=
  t.notices.length ≤ 4 ∧ t.answers.length ≤ 8 ∧ t.replies.length ≤ 2 ∧ t.errors ≤ 16 ∧ t.ownId ≠ broadcast

/-- Parts outstanding counts the queued parts, of one generation at most (R96, R98, R155). -/
abbrev State.PartsWf (s : State) : Prop :=
  s.trunk.parts.length = s.ind.outstanding ∧ s.ind.outstanding ≤ 5

/-! ### Banks (R131, R133, R161) -/

/-- A bank that stands beside an ACTIVE one is not ACTIVE; with no bank ACTIVE, B is EMPTY, and A is EMPTY,
LOADING or READY (R161, R162). -/
abbrev Banks.StatesWf (bs : Banks) : Prop :=
  (bs.a.state = .active ∧ bs.b.state ≠ .active) ∨ (bs.b.state = .active ∧ bs.a.state ≠ .active)
    ∨ ((bs.a.state = .empty ∨ bs.a.state = .loading ∨ bs.a.state = .ready) ∧ bs.b.state = .empty)

/-- The set of a bank is in canonical form, and a bank past loading keeps the check value of its set (R119,
R131, R133). -/
abbrev Bank.Wf (b : Bank) : Prop :=
  setWf b.set = true ∧ (b.state ≠ .empty → b.state ≠ .loading → checkValue b.set = b.check)

/-- Both banks. -/
abbrev Banks.Wf (bs : Banks) : Prop := bs.StatesWf ∧ bs.a.Wf ∧ bs.b.Wf

/-! ### Door records -/

/-- A slot that is not fitted holds the values of R1. -/
abbrev State.BareWf (s : State) : Prop := ∀ d : Slot, s.fitted d = false → s.doors[d] = Door.blank

/-- The command slot never holds OPEN under an effective close order (R26). -/
abbrev State.SlotWf (s : State) : Prop :=
  ∀ d : Slot, s.orderHeld d = true → s.doors[d].slot ≠ .openDoor

/-- The phase has the timer that R15 gives it. -/
def Phase.suits : Phase → Timer → Bool
  | .dwell, .dwell _ => true
  | .dwell, _ => false
  | .retryWait, .retry _ _ _ _ => true
  | .retryWait, _ => false
  | _, .none => true
  | _, _ => false

/-- Timer, miss count and retry count of a door record (R8, R15, R64). -/
abbrev Door.CountsWf (r : Door) : Prop :=
  r.phase.suits r.timer = true ∧ r.miss ≤ 3 ∧ r.retry ≤ 3 ∧ (r.phase = .retryWait → r.retry ≤ 2)

/-- The phase has the queue entry and the record of Motion Admission that it stands for: an entry exactly in
QUEUED, an admission to a close, not yet started, in WARNING, an admission or a motion in DRIVING, none
elsewhere (R15, R47, R51, R56). -/
def Door.flowWf (r : Door) : Bool :=
  match r.phase, r.entry, r.move with
  | .queued, some _, .none => true
  | .warning, none, .admitted a => a.dir == .closing
  | .driving, none, .admitted _ => true
  | .driving, none, .started _ => true
  | .queued, _, _ | .warning, _, _ | .driving, _, _ => false
  | _, none, .none => true
  | _, _, _ => false

/-- A door that is queued or admitted is ONLINE, and an ONLINE door is bound and has a last report (R7, R10,
R51). -/
abbrev Door.LinkWf (r : Door) : Prop :=
  ((r.entry.isSome = true ∨ r.stands = true) → r.link = .online)
    ∧ (r.link = .online → r.report.isSome = true) ∧ (r.link = .unbound ↔ r.binding = none)

/-! ### Flow (R46, R47, R50) -/

/-- No group commits more flow than its budget, and a slot that is not fitted commits none (R47, R54). -/
abbrev State.FlowWf (s : State) : Prop :=
  (∀ g : GroupId, s.committed g ≤ s.budget g) ∧ ∀ d : Slot, s.fitted d = false → s.doors[d].committed = 0

/-- No arbiter has left a head that fits (R54): while no bank is PENDING, the head of every queue asks for more
than the free figure. -/
abbrev State.Arbitrated (s : State) : Prop :=
  s.bankPending = false →
    ∀ g : GroupId, ∀ q ∈ s.queueHead g, s.free g < (q.record.draw : Int)

/-- A PENDING bank waits for a group that is not quiescent (R165). -/
abbrev State.PendingWaits (s : State) : Prop := s.bankPending = true → s.allQuiescent = false

/-! ### Lines, heel, indication -/

/-- The line sense is OWN exactly while the latch is set (R43). -/
abbrev State.SenseWf (s : State) : Prop := ∀ b : BranchId, s.branches[b].sense = .own ↔ s.branches[b].latch = true

/-- A heel source: a fresh source has a value, and a value lies within -450 to 450 (R76). -/
abbrev HeelSource.Wf (h : HeelSource) : Prop :=
  (h.fresh = true → h.value.isSome = true) ∧ ∀ v ∈ h.value, -450 ≤ v ∧ v ≤ 450

/-- Both heel sources. -/
abbrev Heel.Wf (h : Heel) : Prop := h.primary.Wf ∧ h.secondary.Wf

/-- The live image is the derivation of R88 to R91 from the state (R93). -/
abbrev State.LiveWf (s : State) : Prop := s.ind.live = s.picture

/-! ### Branches -/

/-- A foreign unit list holds at most 4 entries, no two of the same serial (R147). -/
abbrev Branch.ForeignWf (r : Branch) : Prop :=
  r.foreign.length ≤ 4 ∧ r.foreign.Pairwise fun x y => x.serial ≠ y.serial

/-- A poll is in flight only on a POLLING branch, and a run counts fewer than 3 rounds without progress (R136,
R145). -/
abbrev Branch.StateWf (r : Branch) : Prop :=
  (r.inFlight.isSome = true → r.isPolling = true) ∧ ∀ run ∈ r.run, run.noProgress < 3

/-- The addresses of a branch: no two bound doors have the same one (R146). -/
abbrev State.AddressWf (s : State) : Prop :=
  ∀ b : BranchId, (s.bound b).Pairwise fun p q => p.2 ≠ q.2

/-- A POLLING branch with a bound door has a poll in flight (R137). -/
abbrev State.Polled (s : State) : Prop :=
  ∀ b : BranchId, s.branches[b].isPolling = true → s.bound b ≠ [] → s.branches[b].inFlight.isSome = true

/-- The runs in progress (R144): the addresses of a run record are of different pairs, of different serials,
and none is held by a bound door of the branch. -/
abbrev State.RunsWf (s : State) : Prop :=
  ∀ b : BranchId, ∀ r ∈ s.branches[b].run,
    r.pairs.Pairwise (fun p q => p.1 ≠ q.1 ∧ p.2 ≠ q.2) ∧ ∀ p ∈ r.pairs, ∀ q ∈ s.bound b, p.2 ≠ q.2

/-- An address of a branch is held by the binding of a door, by an entry of the foreign unit list, or by a pair of
the run record (R144). -/
def State.AddressTaken (s : State) (b : BranchId) (r : Run) (a : Nat) : Prop :=
  (∃ p ∈ s.bound b, p.2 = a) ∨ (∃ f ∈ s.branches[b].foreign, f.address = some a) ∨ ∃ p ∈ r.pairs, p.2 = a

/-- The admission record of an entry (R56, R59): the draw of the door record, the allowance for the group, the selected
heel and the pressure of the last report, and the issue deadline. -/
def State.admissionOf (t : State) (v : DoorRec) (en : Entry) (last : Option Report) : Admission where
  dir := en.dir
  origin := en.origin
  basis := en.basis
  draw := v.draw
  admittedAt := t.uptime
  allowance := allowance v (t.groupRec v.group) t.heelMagnitude (last.bind Report.pressure)
  issueDeadline := t.uptime + BitVec.ofNat 32
    (v.warningLead + allowance v (t.groupRec v.group) t.heelMagnitude (last.bind Report.pressure))
  leadStart := none

/-- The record that an admission makes of a door `w` for an entry (R56): the entry is gone, the admission is recorded,
and the first command stands in the slot: WARN-ON in WARNING for a close with a warning lead, CLOSE in DRIVING for one
without, and OPEN in DRIVING for an open. -/
def State.admitted (t : State) (v : DoorRec) (en : Entry) (w : Door) : Door :=
  { w with
    entry := none
    move := .admitted (t.admissionOf v en w.report)
    timer := .none
    slot := if en.dir = .opening then .openDoor else if 0 < v.warningLead then .warnOn else .close
    phase := if en.dir = .closing ∧ 0 < v.warningLead then .warning else .driving }

/-- The door waits in its queue with the entry, or an admission within the same event has taken it (R51, R56). -/
abbrev State.WorksOn (t : State) (d : Slot) (en : Entry) : Prop :=
  (t.doors[d].phase = .queued ∧ t.doors[d].entry = some en ∧ t.doors[d].move = .none ∧ t.doors[d].timer = .none)
    ∨ ∃ v ∈ t.doorRec d, t.doors[d] = t.admitted v en t.doors[d]

/-- The door is queued now for a movement, or was admitted to it within the same event (R51, R56). -/
abbrev State.WorksNow (t : State) (d : Slot) (dir : Dir) (origin : Origin) (basis : Basis) : Prop :=
  t.WorksOn d ⟨dir, origin, basis, t.uptime⟩

/-- The record of a door is `w`, or, where `w` waits in its queue, `w` as an admission within the same event leaves
it (R56). -/
abbrev State.KeptOrAdmitted (t : State) (d : Slot) (w : Door) : Prop :=
  t.doors[d] = w ∨ ∃ en ∈ w.entry, ∃ v ∈ t.doorRec d, t.doors[d] = t.admitted v en w

/-- The record of a door with an entry made or replaced now (R51), but for its retry count. -/
def Door.enqueued (r : Door) (now : Time) (dir : Dir) (origin : Origin) (basis : Basis) : Door :=
  { r with phase := .queued, timer := .none, entry := some ⟨dir, origin, basis, now⟩ }

/-- A door with something in hand, which a priority poll serves: a warning, a move, a command that is not yet
delivered, or movement in its last report (R138). -/
def Door.InHand (r : Door) : Prop :=
  r.phase = .warning ∨ r.phase = .driving ∨ r.slot ≠ .none ∨ ∃ x, r.report = some x ∧ x.motion ≠ .still

/-- The address is that of a door of the branch with something in hand. -/
def State.Urgent (s : State) (b : BranchId) (a : Nat) : Prop :=
  ∃ q ∈ s.bound b, q.2 = a ∧ s.doors[q.1].InHand

/-- The poll that follows the outcome of poll `q` on a branch (R137 to R139), from the state `s` before the outcome to
the state `t` after it. It carries the command in the slot of the door at its address, and the last-poll time of
that address is now. After a regular poll with a door in hand it is a priority poll to such a door, the one polled
longest ago and among equals the lowest address (log entry 44), and the rotation stays; else it is a regular poll
to the lowest bound address above the rotation position, or to the lowest one. -/
def State.PollFollows (s t : State) (b : BranchId) (q : Poll) : Prop :=
  ∃ (p : Poll) (d : Slot), t.branches[b].inFlight = some p ∧ t.branches[b].isPolling = true
    ∧ t.doorAt b p.address = some d ∧ p.cmd = t.doors[d].slot
    ∧ t.branches[b].sent.getLast? = some (.poll p.address p.cmd)
    ∧ t.branches[b].lastPoll = s.branches[b].lastPoll.set (Fin.ofNat 16 (p.address - 1)) s.uptime
    ∧ (q.turn = .regular ∧ (∃ a, t.Urgent b a) →
        p.turn = .priority ∧ t.branches[b].rotation = s.branches[b].rotation ∧ t.Urgent b p.address
          ∧ ∀ a, t.Urgent b a →
            elapsed s.uptime (s.branches[b].lastPollOf a)
                < elapsed s.uptime (s.branches[b].lastPollOf p.address)
              ∨ (elapsed s.uptime (s.branches[b].lastPollOf a)
                    = elapsed s.uptime (s.branches[b].lastPollOf p.address)
                  ∧ p.address ≤ a))
    ∧ (q.turn = .priority ∨ (¬∃ a, t.Urgent b a) →
        p.turn = .regular ∧ t.branches[b].rotation = p.address
          ∧ ((s.branches[b].rotation < p.address
                ∧ ∀ x ∈ t.bound b, s.branches[b].rotation < x.2 → p.address ≤ x.2)
              ∨ ((∀ x ∈ t.bound b, x.2 ≤ s.branches[b].rotation)
                ∧ ∀ x ∈ t.bound b, p.address ≤ x.2)))

/-- The foreign units that the end of a run takes, in order: each pair of the record whose serial is that of no
fitted door of the branch, then the serial for which no address was free (R146, R147). -/
def State.foreignOf (s : State) (b : BranchId) (r : Run) (noAddress : Option Serial) : List Foreign :=
  ((r.pairs.filter fun p => (s.branchDoors b).all fun q => q.2.serial != p.1).map fun p => ⟨p.1, some p.2⟩)
    ++ noAddress.toList.map fun serial => ⟨serial, none⟩

/-- What the end or abort of a run leaves (R146, R147): the branch is POLLING; each fitted door of it whose serial is
in the record is bound to its address, PENDING with miss count 0; the others keep their binding; one left without a
binding has LINK-LOST; and the foreign units of the run are taken into the list one after the other: a listed
serial takes its new address, a new one is added while fewer than 4 are listed. -/
def State.RunClosed (s t : State) (b : BranchId) (r : Run) (noAddress : Option Serial) : Prop :=
  t.branches[b].isPolling = true
    ∧ (∀ p ∈ s.branchDoors b, ∀ a, (p.2.serial, a) ∈ r.pairs →
        t.doors[p.1].binding = some a ∧ t.doors[p.1].link = .pending ∧ t.doors[p.1].miss = 0)
    ∧ (∀ p ∈ s.branchDoors b, (∀ x ∈ r.pairs, x.1 ≠ p.2.serial) →
        t.doors[p.1].binding = s.doors[p.1].binding)
    ∧ (∀ p ∈ s.branchDoors b, t.doors[p.1].binding = none → t.doors[p.1].conds.linkLost = true)
    ∧ t.branches[b].foreign = (s.foreignOf b r noAddress).foldl foreignList s.branches[b].foreign

/-- The entry that a mark becomes when it enters the list (R113). -/
def Mark.entered (now : Time) (m : Mark) : AlarmEntry := ⟨m.subject, m.kind, now, true, none, 1⟩

/-- What an acknowledgement of a pair by a station does to the list and the marks (R110, R113): an active
unacknowledged entry is acknowledged in its place; an inactive one is removed, and the first mark enters at the
tail; an unacknowledged mark is acknowledged; anything else is left. -/
def State.Acked (s t : State) (j : Subject) (k : AlarmKind) (st : Station) : Prop :=
  (∀ x, s.alarms.entry j k = some x →
    (x.active = true → x.ackBy = none →
      t.alarms.entries = (s.alarms.entries.map fun y => if y = x then { x with ackBy := some st } else y)
        ∧ t.alarms.marks = s.alarms.marks)
    ∧ (x.active = true → x.ackBy ≠ none →
      t.alarms.entries = s.alarms.entries ∧ t.alarms.marks = s.alarms.marks)
    ∧ (x.active = false →
      t.alarms.entries =
          (s.alarms.entries.filter fun y => y != x) ++ (s.alarms.marks.take 1).map (Mark.entered s.uptime)
        ∧ t.alarms.marks = s.alarms.marks.drop 1))
  ∧ (s.alarms.entry j k = none →
      t.alarms.entries = s.alarms.entries
        ∧ t.alarms.marks = s.alarms.marks.map fun m =>
            if m.subject = j ∧ m.kind = k ∧ m.ackBy = none then { m with ackBy := some st } else m)

/-- What the re-arm does to a door that is FAILED (R25, R112; log entry 42): its retry count is 0, and it goes to
HELD-LOCAL with the handle at OPEN-SIDE, or is queued for a close of origin ORDER where it must be closed, or is IDLE. -/
def State.Rearmed (s t : State) (d : Slot) : Prop :=
  (s.doors[d].handleOpen = true →
      t.doors[d] = { s.doors[d] with phase := .heldLocal, timer := .none, retry := 0 })
    ∧ (s.doors[d].handleOpen = false → s.orderHeld d = true → s.doors[d].link = .online →
        s.doors[d].atClosed = false → s.doors[d].conds.travelTimeout = none →
        t.KeptOrAdmitted d { s.doors[d].enqueued s.uptime .closing .order .order with retry := 0 })
    ∧ (s.doors[d].handleOpen = false →
        s.orderHeld d = false ∨ s.doors[d].link ≠ .online ∨ s.doors[d].atClosed = true
          ∨ s.doors[d].conds.travelTimeout ≠ none →
        t.doors[d] = { s.doors[d] with phase := .idle, timer := .none, retry := 0 })

/-- No branch of a door is ENROLLING: the door's branch has no run. -/
abbrev State.NoRunFor (s : State) (d : Slot) : Prop :=
  ∀ r ∈ s.doorRec d, s.branches[r.branch].run = none

/-- Nothing is left to be done at the end of an event: the banks are in a state of R161, a PENDING bank waits
(R165), no queue head fits (R54), the live image is derived (R93), and every POLLING branch that has a bound
door polls (R137). -/
abbrev State.Settled (s : State) : Prop :=
  s.banks.StatesWf ∧ s.PendingWaits ∧ s.Arbitrated ∧ s.LiveWf ∧ s.Polled

/-! ### The outer part -/

/-- What the operations on doors, runs, queues, alarms and the image leave as it is. -/
structure Outer where
  powered : Bool
  uptime : Time
  pins : Pins
  zones : Vector Zone 16
  heel : Heel
  store : Store
  freeCount : Nat
  pending : List Instr
  ownId : Station
  answers : List TxFrame
  replies : List TxFrame
  sending : Option TxClass
  errors : Nat
  lastRequest : Option (Byte × Byte)
  snapshot : Option Snapshot
  snapshotNumber : Byte
  reannounceAt : Time
  lines : Vector (Bool × Sense) 4
deriving DecidableEq, Repr

/-- The outer part of a state; `lines` holds latch and sense of each branch. -/
def State.outer (s : State) : Outer where
  powered := s.powered
  uptime := s.uptime
  pins := s.pins
  zones := s.zones
  heel := s.heel
  store := s.store
  freeCount := s.freeCount
  pending := s.pending
  ownId := s.trunk.ownId
  answers := s.trunk.answers
  replies := s.trunk.replies
  sending := s.trunk.sending
  errors := s.trunk.errors
  lastRequest := s.mgr.lastRequest
  snapshot := s.mgr.snapshot
  snapshotNumber := s.mgr.snapshotNumber
  reannounceAt := s.alarms.reannounceAt
  lines := s.branches.map fun r => (r.latch, r.sense)

/-! ### Commands and requests that are taken -/

/-- A COMMAND with this route and payload reaches the Order Unit of a powered part (R150, R156, R158). -/
abbrev State.Commanded (s : State) (route : Route) (payload : List Byte) : Prop :=
  s.powered = true ∧ s.deliver ⟨kindCommand, route, payload⟩ = .orderUnit

/-- A MGMT-REQUEST with this route and payload reaches the Management Responder of a powered part. -/
abbrev State.Managed (s : State) (route : Route) (payload : List Byte) : Prop :=
  s.powered = true ∧ s.deliver ⟨kindRequest, route, payload⟩ = .manager

/-- The ANSWER frame of Table 9-5. -/
def State.answerFrame (s : State) (src : Station) (tag code : Byte) (a : Answer) : TxFrame :=
  ⟨s.trunk.ownId, src, [tag, code, byte a.code, byte a.reason]⟩

/-- The MGMT-REPLY frame of Table 10-2. -/
def State.replyFrame (s : State) (src : Station) (tag code : Byte) (r : Reply) : TxFrame :=
  ⟨s.trunk.ownId, src, [code, tag, byte r.code] ++ r.detail ++ r.data⟩

/-- The answer class with one more ANSWER. -/
def State.withAnswer (s : State) (src : Station) (tag code : Byte) (a : Answer) : List TxFrame :=
  s.trunk.answers ++ [s.answerFrame src tag code a]

/-- The reply class with one more MGMT-REPLY. -/
def State.withReply (s : State) (src : Station) (tag code : Byte) (r : Reply) : List TxFrame :=
  s.trunk.replies ++ [s.replyFrame src tag code r]

/-- The state with an ANSWER queued and nothing else changed. -/
def State.answered (s : State) (src : Station) (tag code : Byte) (a : Answer) : State :=
  { s with trunk := { s.trunk with answers := s.withAnswer src tag code a } }

/-- The last-request flag after a request answered with a code: clear after OK (R167). -/
def Reply.flag (r : Reply) (code : Byte) : Option (Byte × Byte) :=
  if r.code = 1 then none else some (code, byte r.code)

/-- The state with a MGMT-REPLY queued, the last-request flag set by it, and nothing else changed. -/
def State.replied (s : State) (src : Station) (tag code : Byte) (r : Reply) : State :=
  { s with
    mgr := { s.mgr with lastRequest := r.flag code }
    trunk := { s.trunk with replies := s.withReply src tag code r } }

/-- A panel command as its frame: route, payload, tag, code, and what the Order Unit does with it. -/
structure PanelRow where
  route : Route
  payload : List Byte
  tag : Byte
  code : Byte
  cmd : PanelCmd

/-- The nine panel commands of Table 9-4. -/
def panelRow : Instr → Option PanelRow
  | .closeZone route zone tag => some ⟨route, [1, zone, 0, tag], tag, 1, cmdCloseZone zone⟩
  | .closeAll route tag => some ⟨route, [2, 0, 0, tag], tag, 2, cmdCloseAll⟩
  | .releaseZone route zone tag => some ⟨route, [3, zone, 0, tag], tag, 3, cmdReleaseZone zone⟩
  | .releaseAll route tag => some ⟨route, [4, 0, 0, tag], tag, 4, cmdReleaseAll⟩
  | .doorClose route slot tag => some ⟨route, [5, slot, 0, tag], tag, 5, cmdDoor slot Ev.doorClose⟩
  | .doorOpen route slot tag => some ⟨route, [6, slot, 0, tag], tag, 6, cmdDoor slot Ev.doorOpen⟩
  | .doorStop route slot tag => some ⟨route, [7, slot, 0, tag], tag, 7, cmdDoor slot Ev.doorStop⟩
  | .ack route subject kind tag => some ⟨route, [8, subject, kind, tag], tag, 8, cmdAck subject kind⟩
  | .ackAll route tag => some ⟨route, [9, 0, 0, tag], tag, 9, cmdAckAll⟩
  | _ => none

/-- A management request as its frame: route, payload, tag, code, and what serves it. -/
structure RequestRow where
  route : Route
  payload : List Byte
  tag : Byte
  code : Byte
  serve : Ev → Ev × Reply

/-- The fourteen management requests of Table 10-3. -/
def requestRow : Instr → Option RequestRow
  | .identify route tag part => some ⟨route, [1, tag, part], tag, 1, fun e => e.identify part⟩
  | .readStatus route tag page => some ⟨route, [2, tag, page], tag, 2, fun e => e.readStatus page⟩
  | .readDoor route tag slot part =>
    some ⟨route, [3, tag, slot, part], tag, 3, fun e => e.readDoor slot part⟩
  | .readRecord route tag bank table index part =>
    some ⟨route, [4, tag, bank, table, index, part], tag, 4, fun e => e.readRecord bank table index part⟩
  | .readAlarms route tag chunk => some ⟨route, [5, tag, chunk], tag, 5, fun e => e.readAlarms chunk⟩
  | .loadBegin route tag => some ⟨route, [6, tag], tag, 6, fun e => e.loadBegin⟩
  | .loadChunk route tag table index bytes =>
    some ⟨route, [7, tag, table, index] ++ bytes, tag, 7, fun e => e.loadChunk table index bytes⟩
  | .loadEnd route tag check => some ⟨route, [8, tag] ++ bytes16 check, tag, 8, fun e => e.loadEnd check⟩
  | .activate route tag => some ⟨route, [9, tag], tag, 9, fun e => e.activateBank .ready⟩
  | .rollback route tag => some ⟨route, [10, tag], tag, 10, fun e => e.activateBank .retired⟩
  | .store route tag => some ⟨route, [11, tag], tag, 11, fun e => e.startStore⟩
  | .enroll route tag branch mode => some ⟨route, [12, tag, branch, mode], tag, 12, fun e => e.enroll branch mode⟩
  | .forgetForeign route tag branch => some ⟨route, [13, tag, branch], tag, 13, fun e => e.forgetForeign branch⟩
  | .restartRequest route tag => some ⟨route, [14, tag], tag, 14, fun e => e.askRestart⟩
  | _ => none

/-- The record of a door after a DOOR-STOP, by its phase (R35, R67). -/
def Door.stopped (r : Door) : Door :=
  match r.phase, r.move with
  | .queued, _ => { r with entry := none, phase := .idle, timer := .none }
  | .warning, _ => { r with slot := .warnOff, move := .none, phase := .idle, timer := .none }
  | .driving, .admitted a =>
    { r with slot := .halt, holds := r.holds ++ [⟨a.draw, .halt none⟩], move := .none, phase := .idle,
             timer := .none }
  | .driving, .started m =>
    { r with slot := .halt, holds := r.holds ++ [⟨m.draw, .halt (some (m.start, m.allowance))⟩],
             move := .none, phase := .idle, timer := .none }
  | .retryWait, _ => { r with phase := .idle, timer := .none, retry := 0 }
  | _, _ => r

/-- The answer to a DOOR-STOP without an order (R35). -/
def Door.stopAnswer (r : Door) : Answer :=
  match r.phase with
  | .warning | .driving => .accepted
  | _ => .done

/-! ### What a change of orders does to a door (R38 to R40) -/

/-- The record of a door brought into line with an order that begins (R38): an open that is queued, driven or waits
for its retry is withdrawn, and a command slot holding OPEN takes HALT. -/
def Door.withdrawn (r : Door) : Door :=
  let w := match r.phase, r.goal with
    | .queued, some .opening => { r with entry := none, phase := .idle, timer := .none }
    | .driving, some .opening => r.stopped
    | .retryWait, some .opening => { r with phase := .idle, timer := .none, retry := 0 }
    | _, _ => r
  if w.slot = .openDoor then { w with slot := .halt } else w

/-- The record of a door at the release of its order (R40): its order-driven work is withdrawn, the retry count is 0,
and TRAVEL-TIMEOUT, CLOSE-FAILED and LOCAL-OPEN are gone. -/
def Door.released (r : Door) : Door :=
  let w := match r.phase, r.entry, r.move with
    | .queued, some en, _ =>
      if en.dir = Dir.closing ∧ en.origin ≠ Origin.remote then { r with entry := none, phase := .idle, timer := .none }
      else r
    | .warning, _, .admitted a =>
      if a.origin ≠ Origin.remote then { r with slot := .warnOff, move := .none, phase := .idle, timer := .none }
      else r
    | .heldLocal, _, _ | .dwell, _, _ | .retryWait, _, _ | .failed, _, _ =>
      { r with phase := .idle, timer := .none }
    | _, _, _ => r
  { w with retry := 0, conds := { w.conds with travelTimeout := none, closeFailed := none, localOpen := false } }

/-- The order set of a door, from the state before the event to the state after it (R38, R39): a door found at work
on a close keeps it; one that is IDLE, or is brought to IDLE, stays so without a link, at its closed position or
with TRAVEL-TIMEOUT, is HELD-LOCAL with LOCAL-OPEN where its handle is at OPEN-SIDE, and otherwise is queued now for
a close of origin ORDER. -/
def State.OrderBegins (s t : State) (d : Slot) : Prop :=
  let w := s.doors[d].withdrawn
  if w.phase ≠ .idle then t.KeptOrAdmitted d w
  else if w.link ≠ .online ∨ w.atClosed = true ∨ w.conds.travelTimeout ≠ none then t.doors[d] = w
  else if w.handleOpen = true then
    t.doors[d] = { w with phase := .heldLocal, timer := .none, conds := { w.conds with localOpen := true } }
  else
    t.KeptOrAdmitted d { w.enqueued s.uptime .closing .order .order with retry := 0 }

/-- The doors follow a change of zone modes and line senses (R37): the set is the same, and a door whose order begins
or ends takes its order set (R38, R39) or its order release (R40). A bank that is PENDING before stands beside no
order (R41, R164), and a door whose branch runs an enrollment is left to the rule of the abort. -/
def State.OrdersFollow (s t : State) : Prop :=
  (s.bankPending = false → ∀ d : Slot, t.doorRec d = s.doorRec d)
    ∧ ∀ d : Slot, s.doors[d].flowWf = true → s.NoRunFor d →
      (s.banks.StatesWf → s.bankPending = false ∨ (s.anyZoneClosed = false ∧ s.anyLineHeld = false) →
        s.orderHeld d = false → t.orderHeld d = true → s.OrderBegins t d)
      ∧ (s.bankPending = false → s.orderHeld d = true → t.orderHeld d = false →
        t.KeptOrAdmitted d s.doors[d].released)

/-! ### What a report does to a door -/

/-- The report shows the door at its closed position: CLOSED, or MOVING-CLOSE with the closed limit set (R16). -/
abbrev Report.atClosed (r : Report) : Prop :=
  r.doorState = .closed ∨ (r.doorState = .movingClose ∧ r.closedLimit = true)

/-- The report is a drift report of the door (R17). -/
def State.DriftReport (s : State) (d : Slot) (r : Report) : Prop :=
  s.orderHeld d = true ∧ s.doors[d].phase = .idle ∧ r.handle = .idle ∧ r.doorState ≠ .closed
    ∧ ∃ p ∈ s.doors[d].report, p.atClosed ∨ p.handle ≠ .idle

/-- The report delivers the command in the slot of the door (R27). -/
abbrev Door.Delivers (x : Door) (r : Report) : Prop := x.slot ≠ .none ∧ r.echo = x.slot

/-- The handle of the report takes the door to HELD-LOCAL: OPEN-SIDE under an order (R18). -/
abbrev State.HandleHolds (s : State) (d : Slot) (r : Report) : Prop := s.orderHeld d = true ∧ r.handle = .openSide

/-- The report is checked for lag (R83): the start grace of 2.0 s is over. -/
abbrev Motion.Checked (m : Motion) (now : Time) : Prop := 20 ≤ min (elapsed now m.start) m.allowance

/-- A report with position `q` is lagging by more than the tolerance (R84, R85): the expected position has moved from
q0 towards the end position in proportion to the time since the start. -/
abbrev Motion.Lags (m : Motion) (now : Time) (q tolerance : Nat) : Prop :=
  (m.dir = .closing →
      q + tolerance < m.q0 + (1000 - m.q0) * min (elapsed now m.start) m.allowance / m.allowance)
    ∧ (m.dir = .opening →
      m.q0 - m.q0 * min (elapsed now m.start) m.allowance / m.allowance + tolerance < q)

/-- A motion of the door ends STALL or OBSTRUCTED (R64): its flow is released, HALT is placed, the kind is entered with
the motion's direction, and the door waits 5.0 s for a retry while its retry count is below 3; at 3 a close is FAILED
under an order and IDLE without one, with CLOSE-FAILED entered, and an open is IDLE. -/
def State.MotionStopped (s t : State) (d : Slot) (m : Motion) (k : AlarmKind) : Prop :=
  t.doors[d].move = .none ∧ t.doors[d].slot = .halt ∧ t.doors[d].retry = s.doors[d].retry
    ∧ t.doors[d].conds.dirOf k = some m.dir
    ∧ (s.doors[d].retry < 3 →
        t.doors[d].phase = .retryWait ∧ t.doors[d].timer = .retry (s.uptime + 50) m.dir m.origin m.basis)
    ∧ (3 ≤ s.doors[d].retry → m.dir = .closing →
        t.doors[d].conds.closeFailed = some .closing ∧ t.doors[d].timer = .none
          ∧ (s.orderHeld d = true → t.doors[d].phase = .failed)
          ∧ (s.orderHeld d = false → t.doors[d].phase = .idle))
    ∧ (3 ≤ s.doors[d].retry → m.dir = .opening → s.orderHeld d = false →
        t.doors[d].phase = .idle ∧ t.doors[d].timer = .none
          ∧ (s.doors[d].conds.closeFailed = none → t.doors[d].conds.closeFailed = none))

/-! ### Requests as the manual lays them out -/

/-- The number of operand bytes of a request after its code and tag (Table 10-3); of a LOAD-CHUNK its table id and
index (log entry 54). -/
def operandBytes (code : Nat) : Nat :=
  if code = 4 then 4 else if code = 3 ∨ code = 7 ∨ code = 8 ∨ code = 12 then 2
  else if code = 1 ∨ code = 2 ∨ code = 5 ∨ code = 13 then 1 else 0

/-! ### What a reset leaves (R105, R106, R149, R175) -/

/-- The binding of a door once the run of its branch, if there is one, is bound (R146, R149). -/
def State.boundAfter (s : State) (d : Slot) : Option Nat :=
  match s.doorRec d with
  | some v =>
    match s.branches[v.branch].run.bind fun r => r.pairs.find? fun p => p.1 == v.serial with
    | some p => some p.2
    | none => s.doors[d].binding
  | none => s.doors[d].binding

/-- The foreign unit list of a branch once its run, if there is one, is bound (R147, R149). -/
def State.foreignAfter (s : State) (b : BranchId) : List Foreign :=
  match s.branches[b].run with
  | some r => (s.foreignOf b r none).foldl foreignList s.branches[b].foreign
  | none => s.branches[b].foreign

/-- The conditions known at a restart, in ascending order of subject and then of kind (R106): LINK-LOST of each
fitted door left UNBOUND, LINE-EXTERNAL of each branch whose released line reads low, FOREIGN-UNIT of each branch
whose list is not empty, and NO-TABLE with no bank ACTIVE. -/
def State.knownAtRestart (s : State) (pins : Pins) : List (Subject × AlarmKind) :=
  ((s.fittedDoors.filter fun p => (s.boundAfter p.1).isNone).map fun p => (.door p.1, .linkLost))
    ++ (branchIds.flatMap fun b =>
      (if !s.branches[b].latch && pins.lineLow[b] then [(.branch b, .lineExternal)] else [])
        ++ if s.foreignAfter b = [] then [] else [(.branch b, .foreignUnit)])
    ++ if s.activeSet = none then [(.device, .noTable)] else []

/-- The conditions known at a power-on reset (R175): LINE-EXTERNAL of each branch whose line reads low, and NO-TABLE
with no bank ACTIVE. -/
def State.knownAtPowerOn (t : State) (pins : Pins) : List (Subject × AlarmKind) :=
  (branchIds.flatMap fun b => if pins.lineLow[b] then [(.branch b, .lineExternal)] else [])
    ++ if t.activeSet = none then [(.device, .noTable)] else []

/-- The alarm list that a reset leaves (R105, R106): the pairs that it raises in their order, active and
unacknowledged, raised at 0 with raise count 1; beyond 64 they stand as marks; the re-announce timer starts afresh. -/
def listedAnew (l : List (Subject × AlarmKind)) : Alarms :=
  ⟨(l.take 64).map fun p => ⟨p.1, p.2, 0, true, none, 1⟩, (l.drop 64).map fun p => ⟨p.1, p.2, none⟩, 300⟩

/-- The notice class after a reset holds a RAISED notice of each pair that it raises, in their order; of more than four
it holds those of the first three and of the last (R105, R155, R160). -/
def Trunk.NoticesOf (t : Trunk) (l : List (Subject × AlarmKind)) : Prop :=
  (∀ f ∈ t.notices, f.src = t.ownId ∧ f.tgt = broadcast)
    ∧ t.notices.map (fun f => f.payload.take 3)
        = (l.take 3 ++ (l.drop 3).getLast?.toList).map fun p => [1, byte p.1.code, byte p.2.code]

end Sys2Proof.Machine

/-- The commands that start the part afresh or end it: what they do to one kind of state is in rules of their own. -/
def Sys2Proof.Instr.resets : Sys2Proof.Instr → Bool
  | .powerOnReset _ | .restartPin _ | .powerLoss | .transmitSuccess _ => true
  | _ => false
end

