-- ==== Sys2Proof/Certificates/Slice0/Obligations.lean ====
section
/-! DEFINITION. The statements for the provers. `Commanded` and `Managed` say that a frame reaches its unit;
`Settled` that the last event left nothing to be done; `outer` is what the operations on doors leave alone. -/

open Sys2Proof Sys2Proof.Machine

/-! ### The queue of commands, the clock and the words of the table -/

/-- The command at the front of the queue is run with the queue's rest. -/
def Obligations.StepRunsTheFrontCommand : Prop :=
  ∀ (c : Instr) (rest : List Instr) (s : State),
    step { s with pending := c :: rest } = exec c { s with pending := rest }

/-- On an empty queue one tenth passes on a powered part: uptime and the age of a running store count, what
is due waits in the queue, and nothing else changes (log entry 1). -/
def Obligations.StepOnEmptyQueueIsATick : Prop :=
  ∀ s : State, s.pending = [] → ∃ t, step s = .next t
    ∧ (s.powered = false → t = s)
    ∧ (s.powered = true →
        t = { s with
              uptime := s.uptime + 1
              store := if s.store.pinned.isSome then { s.store with age := s.store.age + 1 } else s.store
              pending := t.pending }
          ∧ t.pending = { t with pending := [] }.allDue)

/-- Every command answers a next state and leaves the queue as it finds it; on a part without power every command
but POWER_ON_RESET changes nothing (log entry 4). -/
def Obligations.CommandsRunAndKeepTheQueue : Prop :=
  ∀ (c : Instr) (s : State),
    (∃ t, exec c s = .next t ∧ t.pending = s.pending)
    ∧ (s.powered = false → (∀ pins, c ≠ .powerOnReset pins) → exec c s = .next s)

/-! ### Invariants, each kept by every step -/

/-- The alarm list and its marks stay as R104 says. -/
def Obligations.EveryStepKeepsTheAlarmList : Prop :=
  ∀ s t : State, s.alarms.Wf → step s = .next t → t.alarms.Wf

/-- The classes of the transmit queue stay within their limits, and the queued parts are those outstanding. -/
def Obligations.EveryStepKeepsTheQueueLimits : Prop :=
  ∀ s t : State, s.trunk.Wf ∧ s.PartsWf → step s = .next t → t.trunk.Wf ∧ t.PartsWf

/-- The banks stay in the states of R161, their sets in canonical form, their check values those of their sets. -/
def Obligations.EveryStepKeepsTheBanks : Prop :=
  ∀ s t : State, s.banks.Wf → step s = .next t → t.banks.Wf

/-- A slot that is not fitted keeps the values of R1; a command slot never holds OPEN under an effective close
order; timers stand exactly in DWELL and RETRY-WAIT, and the counts of a door stay in range. -/
def Obligations.EveryStepKeepsDoorRecords : Prop :=
  ∀ s t : State, step s = .next t →
    (s.BareWf → t.BareWf) ∧ (s.SlotWf → t.SlotWf)
      ∧ ((∀ d : Slot, s.doors[d].CountsWf) → ∀ d : Slot, t.doors[d].CountsWf)

/-- A door has a queue entry exactly in QUEUED, an admission or motion exactly in WARNING and DRIVING, and is
ONLINE, bound and reported while it has one. -/
def Obligations.EveryStepKeepsPhasesAndLinks : Prop :=
  ∀ s t : State, (∀ d : Slot, s.doors[d].flowWf = true ∧ s.doors[d].LinkWf) → step s = .next t →
    ∀ d : Slot, t.doors[d].flowWf = true ∧ t.doors[d].LinkWf

/-- For every hydraulic group, committed flow never exceeds the group's budget. -/
def Obligations.EveryStepKeepsFlowWithinBudget : Prop :=
  ∀ s t : State, s.FlowWf → step s = .next t → t.FlowWf

/-- Every command leaves the part settled: no arbiter has left a head that fits, no PENDING bank waits at
quiescence, the live image is the derivation of the state, and every branch that must poll polls. That the poll is
sent within the event that makes it due is the model's choice (log entry 9). -/
def Obligations.EveryCommandLeavesThePartSettled : Prop :=
  ∀ (c : Instr) (s t : State), s.Settled → exec c s = .next t → t.Settled

/-- The line sense is OWN exactly while the latch is set; a fresh heel source has a value within range; the
foreign unit lists, polls and runs of the branches keep their bounds; and within one branch no two bound doors
have the same address. -/
def Obligations.EveryStepKeepsLinesHeelAndBranches : Prop :=
  ∀ s t : State, step s = .next t →
    (s.SenseWf → t.SenseWf) ∧ (s.heel.Wf → t.heel.Wf)
      ∧ ((∀ b : BranchId, s.branches[b].ForeignWf ∧ s.branches[b].StateWf) →
          ∀ b : BranchId, t.branches[b].ForeignWf ∧ t.branches[b].StateWf)
      ∧ (s.AddressWf ∧ s.RunsWf → t.AddressWf ∧ t.RunsWf)

/-- The invariants hold right after reset, which is the state of a power-on reset with an image that was never
written, no strap tied and every line high (the model's choice of surroundings, log entry 5). -/
def Obligations.InvariantsHoldAtReset : Prop :=
  State.reset.alarms.Wf ∧ State.reset.trunk.Wf ∧ State.reset.PartsWf ∧ State.reset.banks.Wf
    ∧ State.reset.BareWf ∧ State.reset.SlotWf ∧ (∀ d : Slot, State.reset.doors[d].CountsWf)
    ∧ (∀ d : Slot, State.reset.doors[d].flowWf = true ∧ State.reset.doors[d].LinkWf)
    ∧ State.reset.FlowWf ∧ State.reset.Settled ∧ State.reset.SenseWf ∧ State.reset.heel.Wf
    ∧ (∀ b : BranchId, State.reset.branches[b].ForeignWf ∧ State.reset.branches[b].StateWf)
    ∧ State.reset.AddressWf ∧ State.reset.RunsWf
    ∧ exec (.powerOnReset untiedPins) (State.off .bad untiedPins 0 []) = .next State.reset

/-! ### Rules of the whole part -/

/-- A zone leaves DOORS-CLOSED mode only by a RELEASE-ZONE or RELEASE-ALL, as a row or as a frame, from a panel
holding RELEASE for that zone, or by power-on reset (R29). A zone that enters it returns a PENDING bank to READY, with
ACTIVATION-CANCELLED set (R41). -/
def Obligations.OnlyReleasesEndZoneModes : Prop :=
  ∀ (c : Instr) (s t : State) (z : ZoneId), exec c s = .next t → t.powered = true →
    (s.zones[z].closed = true → t.zones[z].closed = false →
      (∃ pins, c = .powerOnReset pins)
        ∨ ∃ src p, s.panel src = some p ∧ p.holds .release = true ∧ p.hasZone z = true
          ∧ ((∃ zone tag route, c = .releaseZone route zone tag ∧ route.src = src)
            ∨ (∃ tag route, c = .releaseAll route tag ∧ route.src = src)
            ∨ ∃ bytes f, (c = .trunkFrame bytes ∨ c = .arbitrationLost bytes) ∧ parseFrame bytes = some f
                ∧ f.kind = kindCommand ∧ f.route.src = src ∧ (at_ f.payload 0 = 3 ∨ at_ f.payload 0 = 4)))
    ∧ (s.zones[z].closed = false → t.zones[z].closed = true → s.banks.StatesWf →
      t.bankPending = false
        ∧ ∀ id, (s.banks.get id).state = .pending →
          (t.banks.get id).state = .ready ∧ t.mgr.events.getLsbD 8 = true)

/-- A line latch that is set stays set until a RELEASE-ALL from a panel holding RELEASE and LINE, as its row or as a
COMMAND frame of code 4, or a power-on reset or loss of power. -/
def Obligations.OnlyReleaseAllReleasesLatches : Prop :=
  ∀ (c : Instr) (s t : State) (b : BranchId), exec c s = .next t →
    s.branches[b].latch = true → t.branches[b].latch = false →
    (∃ src p, s.panel src = some p ∧ p.holds .release = true ∧ p.holds .line = true
        ∧ ((∃ tag route, c = .releaseAll route tag ∧ route.src = src)
          ∨ ∃ bytes f, (c = .trunkFrame bytes ∨ c = .arbitrationLost bytes) ∧ parseFrame bytes = some f
              ∧ f.kind = kindCommand ∧ f.route.src = src ∧ at_ f.payload 0 = 4))
      ∨ (∃ pins, c = .powerOnReset pins) ∨ c = .powerLoss

/-- A new generation is frozen only when no part is outstanding and 0.2 s have passed since the last freeze; it
has the next number modulo 256, the live image, and its five parts. -/
def Obligations.GenerationsAreFrozenApart : Prop :=
  ∀ (c : Instr) (s t : State), c.resets = false → exec c s = .next t →
    t.ind.generation ≠ s.ind.generation →
    s.ind.outstanding = 0 ∧ 2 ≤ elapsed s.uptime s.ind.lastFreeze
      ∧ t.ind.generation = s.ind.generation + 1 ∧ t.ind.frozen = some t.ind.live
      ∧ t.ind.lastFreeze = s.uptime ∧ t.ind.outstanding = 5
      ∧ t.trunk.parts = s.trunk.parts ++ partsOf s.trunk.ownId t.ind.generation t.ind.live

/-- At a change of orders, a door whose order does not change, that waits in no queue and whose branch runs no
enrollment keeps its record, while no bank is PENDING. -/
def Obligations.OrderChangesTouchNoOtherDoor : Prop :=
  ∀ (c : Instr) (s t : State) (d : Slot),
    ((∃ r a b, c = .closeZone r a b) ∨ (∃ r a, c = .closeAll r a) ∨ (∃ r a b, c = .releaseZone r a b)
      ∨ (∃ r a, c = .releaseAll r a) ∨ ∃ b l, c = .lineSample b l) →
    exec c s = .next t → s.bankPending = false → s.orderHeld d = t.orderHeld d →
    s.doors[d].entry = none → s.NoRunFor d →
    t.doors[d] = s.doors[d]

/-! ### Frames on the trunk -/

/-- Reading a frame from its own bytes gives its kind, route and payload. -/
def Obligations.FramesReadBack : Prop :=
  ∀ (priority kind : Nat) (route : Route) (payload : List Byte),
    priority < 4 → kind < 16 → payload.length ≤ 18 →
    parseFrame (trunkBytes priority kind route.src route.tgt payload) = some ⟨kind, route, payload⟩

/-- A TRUNK_FRAME that spells a panel command, a HEEL or a management request answers the next state of its own
row. -/
def Obligations.FramesDoWhatTheirRowsDo : Prop :=
  ∀ (priority : Nat) (s : State), priority < 4 →
    (∀ i row, panelRow i = some row →
      ∃ t, exec (.trunkFrame (trunkBytes priority 0 row.route.src row.route.tgt row.payload)) s = .next t
        ∧ exec i s = .next t)
    ∧ (∀ i row, requestRow i = some row → row.payload.length ≤ 18 →
      ∃ t, exec (.trunkFrame (trunkBytes priority 5 row.route.src row.route.tgt row.payload)) s = .next t
        ∧ exec i s = .next t)
    ∧ ∀ route value,
      ∃ t, exec (.trunkFrame (trunkBytes priority 4 route.src route.tgt (bytes16 value))) s = .next t
        ∧ exec (.heel route value) s = .next t

/-- A frame whose bytes are not those of a frame, that is addressed to another station, or that is given IGNORE,
changes nothing; one that finds its class full sets RX-DISCARD and does nothing else. Such are a COMMAND given
COMMAND, to the own id or to all, that finds 8 answers, and a MGMT-REQUEST to the own id given MANAGEMENT that finds
2 replies, whatever the length of the payload (the model's choice for one too short to be taken, log entry 33);
with no bank ACTIVE every such frame is given its action, and with one the service station is given MANAGEMENT,
whatever the entries say. -/
def Obligations.FramesNotTaken : Prop :=
  ∀ (bytes : List Byte) (s : State), s.powered = true →
    (parseFrame bytes = none → exec (.trunkFrame bytes) s = .next s)
    ∧ ∀ f, parseFrame bytes = some f →
      (f.route.tgt ≠ s.trunk.ownId → f.route.tgt ≠ broadcast → exec (.trunkFrame bytes) s = .next s)
      ∧ (s.classify f = .ignore → exec (.trunkFrame bytes) s = .next s)
      ∧ ((f.route.tgt = s.trunk.ownId ∨ f.route.tgt = broadcast) → f.payload.length ≤ 18 →
          (s.classify f = .command ∧ f.kind = kindCommand ∧ 8 ≤ s.trunk.answers.length)
            ∨ (s.classify f = .management ∧ f.kind = kindRequest ∧ f.route.tgt = s.trunk.ownId
                ∧ 2 ≤ s.trunk.replies.length) →
          exec (.trunkFrame bytes) s
            = .next { s with mgr := { s.mgr with events := s.mgr.events ||| 0x0200#16 } })
      ∧ (s.activeSet = none →
          (f.kind = kindCommand → s.classify f = .command)
          ∧ (f.kind = kindRequest → f.route.tgt = s.trunk.ownId → s.classify f = .management))
      ∧ (s.activeSet ≠ none → f.kind = kindRequest → f.route.tgt = s.trunk.ownId →
          (∃ r, s.deviceRec = some r ∧ r.station = f.route.src.setWidth 8) → s.classify f = .management)
      ∧ ∀ before v after, s.activeSet ≠ none → f.kind ≠ kindRequest → s.acceptance = before ++ v :: after →
          (∀ x ∈ before, x.admits s.trunk.ownId f = false) → v.admits s.trunk.ownId f = true →
          s.classify f = Action.ofCode v.action

/-! ### Panel commands -/

/-- A refused panel command changes no state: its ANSWER is queued and nothing else happens. With no ACTIVE bank
the answer is NO-TABLE, without a panel record UNKNOWN-PANEL, for a code outside 1 to 9 BAD-CODE, without the right
NO-RIGHT, and then what the operand's own checks say. A COMMAND shorter than 4 bytes is not taken: it has no answer and changes nothing. -/
def Obligations.RefusedCommandsOnlyAnswer : Prop :=
  ∀ s : State, s.Settled →
    (∀ (i : Instr) (row : PanelRow), panelRow i = some row → s.Commanded row.route row.payload →
      (s.activeSet = none → exec i s = .next (s.answered row.route.src row.tag row.code .noTable))
      ∧ (s.activeSet ≠ none → s.panel row.route.src = none →
          exec i s = .next (s.answered row.route.src row.tag row.code .unknownPanel))
      ∧ ∀ p, s.panel row.route.src = some p →
        (p.holds row.cmd.right = false →
          exec i s = .next (s.answered row.route.src row.tag row.code .noRight))
        ∧ ∀ why, p.holds row.cmd.right = true → row.cmd.operand s p = some why →
          exec i s = .next (s.answered row.route.src row.tag row.code why))
    ∧ (∀ (bytes : List Byte) (f : RxFrame) (p : PanelRec), s.powered = true → parseFrame bytes = some f →
      s.deliver f = .orderUnit → 4 ≤ f.payload.length → s.panel f.route.src = some p →
      (at_ f.payload 0 = 0 ∨ 9 < (at_ f.payload 0).toNat) →
      exec (.trunkFrame bytes) s =
        .next (s.answered f.route.src (at_ f.payload 3) (at_ f.payload 0) .badCode))
    ∧ ∀ (bytes : List Byte) (f : RxFrame), parseFrame bytes = some f → s.deliver f = .orderUnit →
      f.payload.length < 4 → exec (.trunkFrame bytes) s = .next s

/-- The checks on operands, in order: a zone above 15, a slot above 63, or an ACK whose kind does not belong to its
subject is BAD-OPERAND; a zone without a record NO-ZONE, a slot that is not fitted NOT-FITTED; one outside the panel's
sets OUT-OF-SCOPE; the commands that name all zones or all alarms have no operand to check. NOT-FITTED for an ACK of a
door kind is the model's choice (log entry 17). -/
def Obligations.OperandsAreCheckedInOrder : Prop :=
  ∀ (i : Instr) (row : PanelRow) (s : State) (p : PanelRec), panelRow i = some row →
    (∀ route tag zone, i = .closeZone route zone tag ∨ i = .releaseZone route zone tag →
      (16 ≤ zone.toNat → row.cmd.operand s p = some .badOperand)
      ∧ ∀ z : ZoneId, z.val = zone.toNat →
        row.cmd.operand s p =
          if s.hasZone z = false then some .noZone else if p.hasZone z = false then some .outOfScope else none)
    ∧ (∀ route tag slot,
        i = .doorClose route slot tag ∨ i = .doorOpen route slot tag ∨ i = .doorStop route slot tag →
      (64 ≤ slot.toNat → row.cmd.operand s p = some .badOperand)
      ∧ ∀ d : Slot, d.val = slot.toNat →
        row.cmd.operand s p =
          if s.fitted d = false then some .notFitted else if p.hasDoor d = false then some .outOfScope else none)
    ∧ (∀ route tag subject kind, i = .ack route subject kind tag →
      ((64 ≤ subject.toNat ∨ kind.toNat = 0 ∨ 8 < kind.toNat)
          → (subject.toNat < 64 ∨ 67 < subject.toNat ∨ kind.toNat < 9 ∨ 10 < kind.toNat)
          → (subject.toNat ≠ 68 ∨ kind.toNat < 11 ∨ 13 < kind.toNat) →
        row.cmd.operand s p = some .badOperand)
      ∧ (∀ d : Slot, d.val = subject.toNat → 1 ≤ kind.toNat → kind.toNat ≤ 8 →
        row.cmd.operand s p =
          if s.fitted d = false then some .notFitted else if p.hasDoor d = false then some .outOfScope else none)
      ∧ (64 ≤ subject.toNat → subject.toNat ≤ 67 → kind.toNat = 9 ∨ kind.toNat = 10 →
        row.cmd.operand s p = none)
      ∧ (subject.toNat = 68 → 11 ≤ kind.toNat → kind.toNat ≤ 13 → row.cmd.operand s p = none))
    ∧ ∀ route tag, i = .closeAll route tag ∨ i = .releaseAll route tag ∨ i = .ackAll route tag →
      row.cmd.operand s p = none

/-- CLOSE-ZONE: a zone in LOCAL-CONTROL goes into DOORS-CLOSED mode with its set-by and set-at and answers
ACCEPTED, and every door of it then holds an order; a zone already in the mode keeps its record and answers DONE.
CLOSE-ALL: every zone of the panel's zone set that has a record is in DOORS-CLOSED mode, and from a panel holding
LINE every latch is set and every sense is OWN; ACCEPTED when one of them changed, else DONE. No other zone, line,
heel source, store or reply changes. A LINE-EXTERNAL of a line that leaves EXTERNAL is cleared. A door whose order
begins has an open withdrawn, and where it is IDLE or comes to be so it stays, is HELD-LOCAL with LOCAL-OPEN, or is
queued now for a close of origin ORDER, or admitted to it within the event; one that closes goes on. -/
def Obligations.ClosesCloseZonesAndLines : Prop :=
  ∀ (s : State) (route : Route) (tag : Byte) (p : PanelRec),
    s.panel route.src = some p → p.holds .mode = true → s.banks.StatesWf →
    (∀ (zone : Byte) (z : ZoneId), s.Commanded route [1, zone, 0, tag] → zoneOf zone = some z →
      s.hasZone z = true → p.hasZone z = true →
      ∃ t, exec (.closeZone route zone tag) s = .next t
        ∧ s.OrdersFollow t
        ∧ (s.zones[z].closed = true →
            t.outer = { s.outer with answers := s.withAnswer route.src tag 1 .done })
        ∧ (s.zones[z].closed = false →
            t.outer =
              { s.outer with
                zones := s.zones.set z ⟨true, some route.src, s.uptime⟩
                answers := s.withAnswer route.src tag 1 .accepted }
            ∧ ∀ (d : Slot) (r : DoorRec), s.doorRec d = some r → r.zone = z → t.orderHeld d = true))
    ∧ (s.Commanded route [2, 0, 0, tag] →
      ∃ t, exec (.closeAll route tag) s = .next t
        ∧ s.OrdersFollow t
        ∧ t.outer =
            { s.outer with
              zones := Vector.ofFn fun z : ZoneId =>
                if p.hasZone z && s.hasZone z && !s.zones[z].closed then ⟨true, some route.src, s.uptime⟩
                else s.zones[z]
              lines := if p.holds .line then Vector.replicate 4 (true, .own) else s.outer.lines
              answers := s.withAnswer route.src tag 2
                (if (∃ z : ZoneId, p.hasZone z = true ∧ s.hasZone z = true ∧ s.zones[z].closed = false)
                    ∨ (p.holds .line = true ∧ ∃ b : BranchId, s.branches[b].latch = false)
                  then .accepted else .done) }
        ∧ ∀ b : BranchId, p.holds .line = true → s.branches[b].sense = .external → s.alarms.Wf →
            s.bankPending = false →
            t.alarms.entry (.branch b) .lineExternal = none ∧ t.alarms.mark (.branch b) .lineExternal = none)

/-- RELEASE-ZONE: the zone is in LOCAL-CONTROL, with set-by and set-at of this command if it was not before; no
line changes. RELEASE-ALL: every zone of the panel's zone set that has a record is in LOCAL-CONTROL, and from a
panel holding LINE every set latch is released and its line sampled. Both answer DONE. The sample takes the level last
found (log entry 8), and a latch that was released before is not sampled (log entry 25): both are the model's choice. A
line that becomes EXTERNAL raises LINE-EXTERNAL, which is listed while the list has room. A door whose order ends has
its order-driven work withdrawn, its retry count 0, and TRAVEL-TIMEOUT, CLOSE-FAILED and LOCAL-OPEN removed. -/
def Obligations.ReleasesReleaseZonesAndLines : Prop :=
  ∀ (s : State) (route : Route) (tag : Byte) (p : PanelRec),
    s.panel route.src = some p → p.holds .release = true →
    (∀ (zone : Byte) (z : ZoneId), s.Commanded route [3, zone, 0, tag] → zoneOf zone = some z →
      s.hasZone z = true → p.hasZone z = true →
      ∃ t, exec (.releaseZone route zone tag) s = .next t
        ∧ s.OrdersFollow t
        ∧ t.outer =
            { s.outer with
              zones := s.zones.set z
                (if s.zones[z].closed then ⟨false, some route.src, s.uptime⟩ else s.zones[z])
              answers := s.withAnswer route.src tag 3 .done })
    ∧ (s.Commanded route [4, 0, 0, tag] →
      ∃ t, exec (.releaseAll route tag) s = .next t
        ∧ s.OrdersFollow t
        ∧ t.outer =
            { s.outer with
              zones := Vector.ofFn fun z : ZoneId =>
                if p.hasZone z && s.hasZone z && s.zones[z].closed then ⟨false, some route.src, s.uptime⟩
                else s.zones[z]
              lines := Vector.ofFn fun b : BranchId =>
                if p.holds .line && s.branches[b].latch then
                  (false, if s.pins.lineLow[b] then .external else .clear)
                else (s.branches[b].latch, s.branches[b].sense)
              answers := s.withAnswer route.src tag 4 .done }
        ∧ ∀ b : BranchId, p.holds .line = true → s.branches[b].latch = true → s.branches[b].sense ≠ .external →
            s.pins.lineLow[b] = true → s.alarms.entry (.branch b) .lineExternal = none →
            s.alarms.mark (.branch b) .lineExternal = none → s.alarms.entries.length ≤ 60 →
            s.bankPending = false →
            t.alarms.entry (.branch b) .lineExternal = some ⟨.branch b, .lineExternal, s.uptime, true, none, 1⟩)

/-- DOOR-CLOSE, by its table. CLOSED: DONE. Not ONLINE: NO-LINK. Held local: LOCAL-HOLD, which for a door without an
order is the model's choice in states that no run reaches (log entry 34). On its way to a close: DONE. In these four
nothing but the ANSWER changes. Otherwise a close of origin REMOTE is queued now with retry count 0, or admitted within
the event with the draw, allowance, issue deadline and first command of its admission, and a move that drove the door
open ends CANCELLED: its draw passes into a HALT hold, and the slot holds HALT while the close waits. ACCEPTED. -/
def Obligations.DoorCloseFollowsItsTable : Prop :=
  ∀ (s : State) (route : Route) (slot tag : Byte) (d : Slot) (p : PanelRec),
    s.Commanded route [5, slot, 0, tag] → slotOf slot = some d → s.panel route.src = some p →
    p.holds .door = true → p.hasDoor d = true → s.fitted d = true → s.doors[d].flowWf = true →
    (s.Settled →
      (s.doors[d].state = .closed →
        exec (.doorClose route slot tag) s = .next (s.answered route.src tag 5 .done))
      ∧ (s.doors[d].state ≠ .closed → s.doors[d].link ≠ .online →
        exec (.doorClose route slot tag) s = .next (s.answered route.src tag 5 .noLink))
      ∧ (s.doors[d].state ≠ .closed → s.doors[d].link = .online → s.doors[d].phase.local_ = true →
        exec (.doorClose route slot tag) s = .next (s.answered route.src tag 5 .localHold))
      ∧ (s.doors[d].state ≠ .closed → s.doors[d].link = .online → s.doors[d].goal = some .closing →
        exec (.doorClose route slot tag) s = .next (s.answered route.src tag 5 .done)))
    ∧ (s.doors[d].state ≠ .closed → s.doors[d].link = .online → s.doors[d].phase.local_ = false →
      s.doors[d].goal ≠ some .closing → s.NoRunFor d →
      ∃ t, exec (.doorClose route slot tag) s = .next t
        ∧ t.outer = { s.outer with answers := s.withAnswer route.src tag 5 .accepted }
        ∧ t.KeptOrAdmitted d { s.doors[d].stopped.enqueued s.uptime .closing .remote .remote with retry := 0 })

/-- DOOR-OPEN, by its table. Under an order: ORDER-HELD. On its way to a close: CLOSE-PENDING. OPEN: DONE. Not
ONLINE: NO-LINK. On its way to an open: DONE. In these five nothing but the ANSWER changes. In IDLE an open of
origin REMOTE is queued now with retry count 0, or admitted within the event with the draw, allowance, issue deadline
and first command of its admission. ACCEPTED. -/
def Obligations.DoorOpenFollowsItsTable : Prop :=
  ∀ (s : State) (route : Route) (slot tag : Byte) (d : Slot) (p : PanelRec),
    s.Commanded route [6, slot, 0, tag] → slotOf slot = some d → s.panel route.src = some p →
    p.holds .door = true → p.hasDoor d = true → s.fitted d = true → s.doors[d].flowWf = true →
    (s.Settled →
      (s.orderHeld d = true →
        exec (.doorOpen route slot tag) s = .next (s.answered route.src tag 6 .orderHeld))
      ∧ (s.orderHeld d = false → s.doors[d].goal = some .closing →
        exec (.doorOpen route slot tag) s = .next (s.answered route.src tag 6 .closePending))
      ∧ (s.orderHeld d = false → s.doors[d].goal ≠ some .closing → s.doors[d].state = .opened →
        exec (.doorOpen route slot tag) s = .next (s.answered route.src tag 6 .done))
      ∧ (s.orderHeld d = false → s.doors[d].goal ≠ some .closing → s.doors[d].state ≠ .opened →
        s.doors[d].link ≠ .online →
        exec (.doorOpen route slot tag) s = .next (s.answered route.src tag 6 .noLink))
      ∧ (s.orderHeld d = false → s.doors[d].goal = some .opening → s.doors[d].state ≠ .opened →
        s.doors[d].link = .online →
        exec (.doorOpen route slot tag) s = .next (s.answered route.src tag 6 .done)))
    ∧ (s.orderHeld d = false → s.doors[d].state ≠ .opened → s.doors[d].link = .online →
      s.doors[d].phase = .idle → s.NoRunFor d →
      ∃ t, exec (.doorOpen route slot tag) s = .next t
        ∧ t.outer = { s.outer with answers := s.withAnswer route.src tag 6 .accepted }
        ∧ t.KeptOrAdmitted d { s.doors[d].enqueued s.uptime .opening .remote .remote with retry := 0 })

/-- DOOR-STOP without an order: the queue entry, the admission, the motion or the retry wait ends as R35 says, a
HALTED end keeps its draw in a HALT hold, and no other door that waits in no queue changes. Under an order it is
refused with nothing but its ANSWER. -/
def Obligations.DoorStopFollowsItsTable : Prop :=
  ∀ (s : State) (route : Route) (slot tag : Byte) (d : Slot) (p : PanelRec),
    s.Commanded route [7, slot, 0, tag] → slotOf slot = some d → s.panel route.src = some p →
    p.holds .door = true → p.hasDoor d = true → s.fitted d = true →
    (s.orderHeld d = true → s.Settled →
      exec (.doorStop route slot tag) s = .next (s.answered route.src tag 7 .orderHeld))
    ∧ (s.orderHeld d = false → s.doors[d].flowWf = true → s.bankPending = false →
      ∃ t, exec (.doorStop route slot tag) s = .next t
        ∧ t.outer = { s.outer with answers := s.withAnswer route.src tag 7 s.doors[d].stopAnswer }
        ∧ t.doors[d] = s.doors[d].stopped
        ∧ ∀ x : Slot, x ≠ d → s.doors[x].entry = none → t.doors[x] = s.doors[x])

/-- ACK of a pair other than CLOSE-FAILED of a FAILED door: an active unacknowledged entry is acknowledged by the
station in its place; an inactive one is removed, and the first mark enters at the tail, unacknowledged; a mark is
acknowledged; anything else is left; DONE in every case, and no door changes. -/
def Obligations.AckMarksTheEntry : Prop :=
  ∀ (s : State) (route : Route) (subject kind tag : Byte) (j : Subject) (k : AlarmKind) (p : PanelRec),
    s.Commanded route [8, subject, kind, tag] → ackPair subject kind = some (j, k) →
    s.panel route.src = some p → p.holds .ack = true → ackOperand subject kind s p = none →
    (∀ d : Slot, j = .door d → k = .closeFailed → s.doors[d].phase ≠ .failed) → s.alarms.Wf → s.Settled →
    ∃ t, exec (.ack route subject kind tag) s = .next t
      ∧ t.outer = { s.outer with answers := s.withAnswer route.src tag 8 .done }
      ∧ t.doors = s.doors ∧ s.Acked t j k route.src

/-- ACK of CLOSE-FAILED re-arms a FAILED door: its retry count is 0, and it goes to HELD-LOCAL with the handle at
OPEN-SIDE, whatever its link (the model's choice, log entry 42), or is queued for a close of origin ORDER where it
must be closed, or admitted to it within the event, and is IDLE otherwise. The pair is acknowledged as by any ACK. -/
def Obligations.AckRearmsAFailedDoor : Prop :=
  ∀ (s : State) (route : Route) (slot tag : Byte) (d : Slot) (p : PanelRec),
    s.Commanded route [8, slot, 4, tag] → slotOf slot = some d → s.panel route.src = some p →
    p.holds .ack = true → s.fitted d = true → p.hasDoor d = true →
    s.doors[d].phase = .failed → s.doors[d].flowWf = true → s.NoRunFor d → s.bankPending = false →
    ∃ t, exec (.ack route slot 4 tag) s = .next t
      ∧ t.outer = { s.outer with answers := s.withAnswer route.src tag 8 .done }
      ∧ s.Rearmed t d
      ∧ (s.alarms.Wf → s.Acked t (.door d) .closeFailed route.src)

/-- ACK-ALL: every entry whose subject is a door of the panel's door set, a branch or the device is acknowledged if it
is active, and removed if it is not, and every mark on those subjects is acknowledged; then the room is filled from
the marks, which join unacknowledged; and every FAILED door of the door set is re-armed. DONE. No other door that
waits in no queue changes, and none at all when none is re-armed. That a re-armed door without a link goes to HELD-LOCAL
by its kept last report is the model's choice (log entry 42). -/
def Obligations.AckAllAcknowledgesTheList : Prop :=
  ∀ (s : State) (route : Route) (tag : Byte) (p : PanelRec),
    s.Commanded route [9, 0, 0, tag] → s.panel route.src = some p → p.holds .ack = true →
    s.alarms.Wf → s.Settled → (∀ d : Slot, s.doors[d].phase = .failed → s.NoRunFor d) →
    ∃ t, exec (.ackAll route tag) s = .next t
      ∧ t.outer = { s.outer with answers := s.withAnswer route.src tag 9 .done }
      ∧ (∃ kept : List AlarmEntry,
          kept = ((s.alarms.entries.filter fun x => !p.covers x.subject || x.active).map fun x =>
            if p.covers x.subject && x.ackBy.isNone then { x with ackBy := some route.src } else x)
          ∧ t.alarms.entries =
              kept ++ (s.alarms.marks.take (64 - kept.length)).map (Mark.entered s.uptime)
          ∧ t.alarms.marks =
              (s.alarms.marks.map fun m =>
                if p.covers m.subject && m.ackBy.isNone then { m with ackBy := some route.src } else m).drop
                (64 - kept.length))
      ∧ (∀ d : Slot, p.hasDoor d = true → s.doors[d].phase = .failed → s.doors[d].flowWf = true →
          s.Rearmed t d)
      ∧ (∀ d : Slot, s.doors[d].phase ≠ .failed ∨ p.hasDoor d = false → s.doors[d].entry = none →
          t.doors[d] = s.doors[d])
      ∧ ((∀ d : Slot, s.doors[d].phase ≠ .failed ∨ p.hasDoor d = false) → t.doors = s.doors)

/-! ### Heel sources -/

/-- HEEL: the value, clamped to the range, and its arrival time are written into the source, which is fresh;
nothing else of the outer part changes. A HEEL-STALE that stands unacknowledged becomes inactive. A HEEL frame with
a payload shorter than two bytes is not taken. -/
def Obligations.HeelWritesItsSource : Prop :=
  ∀ s : State, s.powered = true →
    (∀ (route : Route) (value : BitVec 16) (src : HeelSrc),
      s.deliver ⟨kindHeel, route, bytes16 value⟩ = .travelTiming src →
      ∃ t, exec (.heel route value) s = .next t
        ∧ t.outer =
            { s.outer with
              heel := s.heel.put src ⟨some (max (-450) (min 450 value.toInt)), s.uptime, true⟩ }
        ∧ ∀ x, (s.heel.get src).fresh = false → s.alarms.entry .device .heelStale = some x →
            x.active = true → x.ackBy = none → s.bankPending = false →
            t.alarms.entry .device .heelStale = some { x with active := false })
    ∧ ∀ (bytes : List Byte) (f : RxFrame) (src : HeelSrc), parseFrame bytes = some f →
      s.deliver f = .travelTiming src → f.payload.length < 2 → exec (.trunkFrame bytes) s = .next s

/-- HEEL_SOURCE_STALE and HEEL_STALE_FIRST_JUDGE: the source keeps its value and is stale; the first judgement is
made at uptime 50. At either HEEL-STALE is listed when neither source is fresh then, while the list has room; no entry
changes at a staleness before the first judgement, or with the other source fresh. -/
def Obligations.HeelSourcesGoStale : Prop :=
  ∀ s : State, s.powered = true →
    (∀ src, (s.heel.get src).fresh = true → 51 ≤ elapsed s.uptime (s.heel.get src).arrival →
      ∃ t, exec (.heelSourceStale src) s = .next t
        ∧ t.outer = { s.outer with heel := s.heel.put src { s.heel.get src with fresh := false } }
        ∧ ∀ other, other ≠ src → s.bankPending = false →
            ((s.heel.get other).fresh = false → s.heel.judged = true →
              s.alarms.entry .device .heelStale = none → s.alarms.mark .device .heelStale = none →
              s.alarms.entries.length < 64 →
              t.alarms.entries =
                s.alarms.entries ++ [⟨.device, .heelStale, s.uptime, true, none, 1⟩])
            ∧ ((s.heel.get other).fresh = true ∨ s.heel.judged = false →
              t.alarms.entries = s.alarms.entries))
    ∧ (s.uptime = 50 → s.heel.judged = false →
      ∃ t, exec .heelStaleFirstJudge s = .next t
        ∧ t.outer = { s.outer with heel := { s.heel with judged := true } }
        ∧ (s.heel.noneFresh = true → s.alarms.entry .device .heelStale = none →
            s.alarms.mark .device .heelStale = none → s.alarms.entries.length < 64 →
            s.bankPending = false →
            t.alarms.entries =
              s.alarms.entries ++ [⟨.device, .heelStale, s.uptime, true, none, 1⟩]))

/-! ### Management requests -/

/-- A request answered BUSY, REFUSED-STATE or REFUSED-RANGE changes no state: its reply is queued, the last-request flag
takes the request, and nothing else happens. READ-STATUS is REFUSED-RANGE for a page that is in no line of its table,
READ-DOOR for a slot above 63 or a part above 2, FORGET-FOREIGN for a branch above 3; READ-RECORD is REFUSED-RANGE for a
bank, table, index or part out of range, and REFUSED-STATE for a bank that is EMPTY or LOADING, the range being checked
first (the model's choice, log entry 50); STORE is BUSY while a store runs, and REFUSED-STATE with no bank ACTIVE; ENROLL
is REFUSED-RANGE for a branch above 3 or a mode above 1, REFUSED-STATE on a DISABLED branch, and BUSY on an ENROLLING one
or while a door bound on the branch is queued, admitted or under an order. A code outside 1 to 14, and a payload too
short for the operands of its code, are INVALID; of a LOAD-CHUNK only table id and index count here (the model's choice,
log entry 54). A payload shorter than 2 bytes is not taken and changes nothing. -/
def Obligations.RefusedRequestsChangeNothing : Prop :=
  ∀ s : State, s.Settled →
    (∀ (i : Instr) (row : RequestRow), requestRow i = some row → s.Managed row.route row.payload →
      ((row.serve s.begin).2.code = 2 ∨ (row.serve s.begin).2.code = 3 ∨ (row.serve s.begin).2.code = 4) →
      exec i s = .next (s.replied row.route.src row.tag row.code (row.serve s.begin).2))
    ∧ (∀ (route : Route) (tag page : Byte), s.Managed route [2, tag, page] →
        (5 ≤ page.toNat ∧ page.toNat ≤ 7) ∨ 48 ≤ page.toNat →
        exec (.readStatus route tag page) s = .next (s.replied route.src tag 2 .refusedRange))
    ∧ (∀ (route : Route) (tag slot part : Byte), s.Managed route [3, tag, slot, part] →
        64 ≤ slot.toNat ∨ 3 ≤ part.toNat →
        exec (.readDoor route tag slot part) s = .next (s.replied route.src tag 3 .refusedRange))
    ∧ (∀ (route : Route) (tag bank table index part : Byte),
        s.Managed route [4, tag, bank, table, index, part] →
        (2 ≤ bank.toNat ∨ tableSize table.toNat ≤ index.toNat ∨ 2 ≤ part.toNat →
          exec (.readRecord route tag bank table index part) s =
            .next (s.replied route.src tag 4 .refusedRange))
        ∧ ∀ id, bankOf bank = some id → index.toNat < tableSize table.toNat → part.toNat ≤ 1 →
          (s.banks.get id).state = .empty ∨ (s.banks.get id).state = .loading →
          exec (.readRecord route tag bank table index part) s =
            .next (s.replied route.src tag 4 .refusedState))
    ∧ (∀ (route : Route) (tag : Byte), s.Managed route [11, tag] →
        (s.store.pinned ≠ none → exec (.store route tag) s = .next (s.replied route.src tag 11 .busy))
        ∧ (s.store.pinned = none → s.banks.find .active = none →
          exec (.store route tag) s = .next (s.replied route.src tag 11 .refusedState)))
    ∧ (∀ (route : Route) (tag branch mode : Byte), s.Managed route [12, tag, branch, mode] →
        (4 ≤ branch.toNat ∨ 2 ≤ mode.toNat →
          exec (.enroll route tag branch mode) s = .next (s.replied route.src tag 12 .refusedRange))
        ∧ ∀ b : BranchId, b.val = branch.toNat → mode.toNat ≤ 1 →
          (s.branches[b].state = .disabled →
            exec (.enroll route tag branch mode) s = .next (s.replied route.src tag 12 .refusedState))
          ∧ ((∃ r, s.branches[b].state = .enrolling r)
              ∨ (s.branches[b].state = .polling ∧ ∃ q ∈ s.bound b,
                  s.doors[q.1].entry ≠ none ∨ s.doors[q.1].move ≠ .none ∨ s.orderHeld q.1 = true) →
            exec (.enroll route tag branch mode) s = .next (s.replied route.src tag 12 .busy)))
    ∧ (∀ (route : Route) (tag branch : Byte), s.Managed route [13, tag, branch] → 4 ≤ branch.toNat →
        exec (.forgetForeign route tag branch) s = .next (s.replied route.src tag 13 .refusedRange))
    ∧ ∀ (bytes : List Byte) (f : RxFrame), s.powered = true → parseFrame bytes = some f → s.deliver f = .manager →
        (f.payload.length < 2 → exec (.trunkFrame bytes) s = .next s)
        ∧ (2 ≤ f.payload.length →
            at_ f.payload 0 = 0 ∨ 14 < (at_ f.payload 0).toNat
              ∨ f.payload.length < 2 + operandBytes (at_ f.payload 0).toNat →
            exec (.trunkFrame bytes) s =
              .next (s.replied f.route.src (at_ f.payload 1) (at_ f.payload 0) .invalid))

/-- IDENTIFY, READ-DOOR and READ-RECORD do not alter what they read, and RESTART is answered OK with nothing done
yet: the reply is queued, and nothing else happens but to the last-request flag. -/
def Obligations.ReadsAlterNothing : Prop :=
  ∀ (s : State) (route : Route) (tag : Byte), s.Settled →
    (∀ part, s.Managed route [1, tag, part] → exec (.identify route tag part) s =
      .next (s.replied route.src tag 1
        (if part = 0 then .ok s.identity else if part = 1 then .ok s.tableTag else .refusedRange)))
    ∧ (∀ slot part d, s.Managed route [3, tag, slot, part] → slotOf slot = some d → part.toNat ≤ 2 →
      exec (.readDoor route tag slot part) s =
        .next (s.replied route.src tag 3 (.ok (s.doorPart d part.toNat))))
    ∧ (s.Managed route [14, tag] → exec (.restartRequest route tag) s =
      .next (s.replied route.src tag 14 (.ok [])))
    ∧ ∀ bank table index part id, s.Managed route [4, tag, bank, table, index, part] →
      bankOf bank = some id → index.toNat < tableSize table.toNat → part.toNat ≤ 1 →
      (s.banks.get id).state ≠ .empty → (s.banks.get id).state ≠ .loading →
      exec (.readRecord route tag bank table index part) s =
        .next (s.replied route.src tag 4
          (.ok (recordData (lookup (s.banks.get id).set table.toNat index.toNat) part.toNat)))

/-- READ-STATUS returns a page; page 0 copies the event flags into its reply and clears them, and the other pages
change nothing, but for the model's counter of free values at a page 3 whose selected heel no rule gives (log entry
21). That page 0 carries the last-request flag as it was before this request is the model's choice (log entry 18). -/
def Obligations.ReadStatusClearsTheEventFlags : Prop :=
  ∀ (s : State) (route : Route) (tag page : Byte) (data : List Byte), s.Settled →
    s.Managed route [2, tag, page] → s.statusPage page.toNat = some data →
    (page = 0 → exec (.readStatus route tag page) s =
      .next ({ s with mgr := { s.mgr with events := 0 } }.replied route.src tag 2 (.ok data)))
    ∧ (page ≠ 0 → ∃ n, (page ≠ 3 ∨ s.selectedHeel ≠ none → n = s.freeCount)
      ∧ exec (.readStatus route tag page) s =
        .next ({ s with freeCount := n }.replied route.src tag 2 (.ok data)))

/-- READ-ALARMS: chunk 0 copies the list into a snapshot of the next number; a later chunk within the snapshot is
answered from it, and the last one releases it; one above its entry count or above 64 is REFUSED-RANGE, and one
with no snapshot held REFUSED-STATE. SNAPSHOT_RELEASE releases it 10 tenths after its latest chunk request. Nothing
else changes. Three clauses are the model's choice: the list-full bit of a chunk is that of the copy (log entry 19), a
SNAPSHOT_RELEASE that is not due changes nothing (log entry 3), and a refused chunk request does not restart the count
of the release (log entry 52). -/
def Obligations.ReadAlarmsServesASnapshot : Prop :=
  ∀ (s : State) (route : Route) (tag chunk : Byte),
    (s.Settled → s.Managed route [5, tag, chunk] →
      (chunk = 0 → exec (.readAlarms route tag chunk) s =
        .next
          ({ s with
              mgr := { s.mgr with
                snapshotNumber := s.mgr.snapshotNumber + 1
                snapshot := if s.alarms.entries = [] then none
                  else some ⟨s.alarms.entries, s.alarms.unacked, s.alarms.marks.length, s.uptime⟩ } }.replied
            route.src tag 5
            (.ok (Snapshot.head (s.mgr.snapshotNumber + 1)
              ⟨s.alarms.entries, s.alarms.unacked, s.alarms.marks.length, s.uptime⟩))))
      ∧ (64 < chunk.toNat →
        exec (.readAlarms route tag chunk) s = .next (s.replied route.src tag 5 .refusedRange))
      ∧ (chunk ≠ 0 → chunk.toNat ≤ 64 → s.mgr.snapshot = none →
        exec (.readAlarms route tag chunk) s = .next (s.replied route.src tag 5 .refusedState))
      ∧ ∀ p, chunk ≠ 0 → chunk.toNat ≤ 64 → s.mgr.snapshot = some p →
        (p.entries.length < chunk.toNat →
          exec (.readAlarms route tag chunk) s = .next (s.replied route.src tag 5 .refusedRange))
        ∧ ∀ x, p.entries[chunk.toNat - 1]? = some x →
          exec (.readAlarms route tag chunk) s =
            .next
              ({ s with
                  mgr := { s.mgr with
                    snapshot := if p.entries.length = chunk.toNat then none
                      else some { p with lastRequest := s.uptime } } }.replied
                route.src tag 5 (.ok (Snapshot.chunk s.mgr.snapshotNumber p x))))
    ∧ ∀ p, s.powered = true → s.mgr.snapshot = some p →
      exec .snapshotRelease s =
        .next (if elapsed s.uptime p.lastRequest = 10 then { s with mgr := { s.mgr with snapshot := none } }
          else s)

/-- LOAD-BEGIN: the load target, if it is neither PENDING nor pinned by a store, becomes LOADING with every
record absent; a target that is PENDING or pinned is answered BUSY. The other bank and all else are left. -/
def Obligations.LoadBeginEmptiesTheTarget : Prop :=
  ∀ (s : State) (route : Route) (tag : Byte) (id : BankId), s.Settled → s.Managed route [6, tag] →
    id = (if s.banks.a.state = .active then .b else .a) →
    ((s.banks.get id).state ≠ .pending → s.store.pinned ≠ some id →
      exec (.loadBegin route tag) s =
        .next ({ s with banks := s.banks.put id ⟨.loading, [], 0⟩ }.replied route.src tag 6 (.ok [])))
    ∧ ((s.banks.get id).state = .pending ∨ s.store.pinned = some id →
      exec (.loadBegin route tag) s = .next (s.replied route.src tag 6 .busy))

/-- LOAD-CHUNK: refused with no bank LOADING, and for a table, index or length out of range; else the record of the
LOADING bank is present with the new bytes, and every other record of it is as before. That the state is checked before
the ranges, and that too few record bytes are out of range and not INVALID, is the model's choice (log entries 51 and
54). LOAD-END: refused with no
bank LOADING; a set whose check value agrees and that validates makes its bank READY, which keeps the value; a set
that fails makes it EMPTY, and the reply carries the failure. All else is left. -/
def Obligations.ChunksAndEndsLoadTheBank : Prop :=
  ∀ (s : State) (route : Route) (tag : Byte), s.Settled →
    (∀ (table index : Byte) (bytes : List Byte), s.Managed route ([7, tag, table, index] ++ bytes) →
      (s.banks.find .loading = none →
        exec (.loadChunk route tag table index bytes) s = .next (s.replied route.src tag 7 .refusedState))
      ∧ ∀ id, s.banks.find .loading = some id →
        (tableSize table.toNat ≤ index.toNat ∨ bytes.length ≠ recordLength table.toNat →
          exec (.loadChunk route tag table index bytes) s =
            .next (s.replied route.src tag 7 .refusedRange))
        ∧ (index.toNat < tableSize table.toNat → bytes.length = recordLength table.toNat →
          setWf (s.banks.get id).set = true →
          ∃ set,
            exec (.loadChunk route tag table index bytes) s =
              .next ({ s with banks := s.banks.put id { s.banks.get id with set := set } }.replied
                route.src tag 7 (.ok []))
            ∧ setWf set = true ∧ lookup set table.toNat index.toNat = some bytes
            ∧ ∀ t i, (t ≠ table.toNat ∨ i ≠ index.toNat) →
              lookup set t i = lookup (s.banks.get id).set t i))
    ∧ ∀ check : BitVec 16, s.Managed route ([8, tag] ++ bytes16 check) →
      (s.banks.find .loading = none →
        exec (.loadEnd route tag check) s = .next (s.replied route.src tag 8 .refusedState))
      ∧ ∀ id, s.banks.find .loading = some id →
        (checkValue (s.banks.get id).set = check → validate s.trunk.ownId (s.banks.get id).set = none →
          exec (.loadEnd route tag check) s =
            .next ({ s with banks := s.banks.put id ⟨.ready, (s.banks.get id).set, check⟩ }.replied
              route.src tag 8 (.ok [])))
        ∧ (∀ f, checkValue (s.banks.get id).set = check →
            validate s.trunk.ownId (s.banks.get id).set = some f →
          exec (.loadEnd route tag check) s =
            .next ({ s with banks := s.banks.put id ⟨.empty, [], 0⟩ }.replied route.src tag 8 (.failed f)))
        ∧ (checkValue (s.banks.get id).set ≠ check →
          exec (.loadEnd route tag check) s =
            .next ({ s with banks := s.banks.put id ⟨.empty, [], 0⟩ }.replied route.src tag 8
              (.failed ⟨0, 0, .check⟩)))

/-- ACTIVATE and ROLLBACK, by their checks in order: refused while no bank is READY or RETIRED, while a zone is in
DOORS-CLOSED mode, and while a line sense is not CLEAR, with nothing changed but the reply. Else OK: with no bank
ACTIVE or all groups quiescent the bank is ACTIVE at once and the one that was ACTIVE RETIRED; otherwise the bank
becomes PENDING, and nothing else changes. -/
def Obligations.ActivationsFollowTheirChecks : Prop :=
  ∀ (s : State) (route : Route) (tag : Byte) (i : Instr) (code : Byte) (from_ : BankState),
    (i = .activate route tag ∧ code = 9 ∧ from_ = .ready)
      ∨ (i = .rollback route tag ∧ code = 10 ∧ from_ = .retired) →
    s.Settled → s.Managed route [code, tag] →
    (s.banks.find from_ = none → exec i s = .next (s.replied route.src tag code .refusedState))
    ∧ ∀ id, s.banks.find from_ = some id →
      (s.anyZoneClosed = true ∨ s.anyLineHeld = true →
        exec i s = .next (s.replied route.src tag code .refusedState))
      ∧ (s.anyZoneClosed = false → s.anyLineHeld = false →
        (s.activeSet ≠ none → s.allQuiescent = false →
          exec i s =
            .next ({ s with banks := s.banks.setState id .pending }.replied route.src tag code (.ok [])))
        ∧ (s.activeSet = none ∨ s.allQuiescent = true →
          ∃ t, exec i s = .next t ∧ t.trunk.replies = s.withReply route.src tag code (.ok [])
            ∧ (t.banks.get id).state = .active
            ∧ ∀ old, s.banks.find .active = some old → (t.banks.get old).state = .retired))

/-- ACTIVATE and ROLLBACK at quiescence, or with no bank ACTIVE, swap at once: the incoming bank is ACTIVE and the
one that was ACTIVE is RETIRED; a slot that the new set fits with the same branch and serial keeps its record but
for phase IDLE, retry count 0 and no timer, any other fitted slot is UNBOUND with LINK-LOST, a slot not fitted is
blank; and each branch is POLLING or DISABLED by the new set. -/
def Obligations.ActivationSwapsAtQuiescence : Prop :=
  ∀ (s : State) (route : Route) (tag : Byte) (id : BankId) (i : Instr) (code : Byte) (from_ : BankState),
    (i = .activate route tag ∧ code = 9 ∧ from_ = .ready)
      ∨ (i = .rollback route tag ∧ code = 10 ∧ from_ = .retired) →
    s.Managed route [code, tag] → s.banks.StatesWf → s.banks.find from_ = some id →
    s.anyZoneClosed = false → s.anyLineHeld = false → (s.activeSet = none ∨ s.allQuiescent = true) →
    (∀ b : BranchId, s.branches[b].run = none) →
    ∃ t, exec i s = .next t
      ∧ t.outer = { s.outer with lastRequest := none, replies := s.withReply route.src tag code (.ok []) }
      ∧ t.banks.get id = { s.banks.get id with state := .active }
      ∧ (∀ old, s.banks.find .active = some old →
          t.banks.get old = { s.banks.get old with state := .retired })
      ∧ (∀ d : Slot, t.fitted d = false → t.doors[d] = Door.blank)
      ∧ (∀ (d : Slot) (n : DoorRec), t.doorRec d = some n →
          (∃ o, s.doorRec d = some o ∧ o.branch = n.branch ∧ o.serial = n.serial) →
          t.doors[d] =
            { s.doors[d] with phase := .idle, retry := 0, timer := .none, entry := none, move := .none,
                              holds := [] })
      ∧ (∀ (d : Slot) (n : DoorRec), t.doorRec d = some n →
          ¬(∃ o, s.doorRec d = some o ∧ o.branch = n.branch ∧ o.serial = n.serial) →
          t.doors[d].link = .unbound ∧ t.doors[d].binding = none ∧ t.doors[d].report = none
            ∧ t.doors[d].slot = .none ∧ t.doors[d].phase = .idle ∧ t.doors[d].conds.linkLost = true)
      ∧ ∀ b : BranchId, t.branches[b].state = if t.enabled b then .polling else .disabled

/-- STORE: with the engine IDLE and a bank ACTIVE, the engine copies that bank from now. STORE_END, 1 to 30 tenths
after the start: the engine is IDLE with no bank pinned, the image is as it reads back, and STORE-DONE is set when
it equals the pinned bank's set and check value, STORE-FAILED when it differs. Nothing else changes. That the command
carries what reads back, and may come from 1 to 30 tenths after the start, is the model's choice (log entry 29). A loss
of power leaves the image torn while a store runs, and as it stands otherwise. -/
def Obligations.StoresPinABankAndCompare : Prop :=
  ∀ (s : State) (id : BankId),
    (s.powered = true → ∃ t, exec .powerLoss s = .next t ∧ t.powered = false
      ∧ (s.store.pinned = none → t.store.image = s.store.image)
      ∧ (s.store.pinned ≠ none → t.store.image = .bad))
    ∧ (∀ (route : Route) (tag : Byte), s.Settled → s.Managed route [11, tag] →
      s.store.pinned = none → s.banks.find .active = some id →
      exec (.store route tag) s =
        .next ({ s with store := ⟨s.store.image, some id, 0⟩ }.replied route.src tag 11 (.ok [])))
    ∧ ∀ readBack : NvImage, s.powered = true → s.store.pinned = some id →
      1 ≤ s.store.age → s.store.age ≤ 30 →
      exec (.storeEnd readBack) s =
        .next { s with
          store := ⟨readBack, none, 0⟩
          mgr := { s.mgr with events := s.mgr.events
            ||| (if readBack = .stored (s.banks.get id).set (s.banks.get id).check then 0x0010#16
                 else 0x0020#16) } }

/-- ENROLL on a POLLING branch that is not busy. FRESH: every door bound on the branch is UNBOUND with slot NONE
and no report, the foreign units lose their addresses, and UNASSIGN and the first CALL are sent. ADD: only the
first CALL is sent, and no door changes. -/
def Obligations.EnrollStartsARun : Prop :=
  ∀ (s : State) (route : Route) (tag branch : Byte) (b : BranchId) (r : BranchRec), s.Settled →
    s.bankPending = false → branchOf branch = some b → s.branchRec b = some r →
    s.branches[b].state = .polling → s.enrollBusy b = false →
    (s.Managed route [12, tag, branch, 0] →
      ∃ t, exec (.enroll route tag branch 0) s = .next t
        ∧ t.outer = { s.outer with lastRequest := none, replies := s.withReply route.src tag 12 (.ok []) }
        ∧ t.branches[b].state = .enrolling ⟨.fresh, 0, [], .calling⟩ ∧ t.branches[b].inFlight = none
        ∧ t.branches[b].sent = [.unassign, .call r.classMin r.classMax]
        ∧ t.branches[b].foreign = s.branches[b].foreign.map (fun f => { f with address := none })
        ∧ t.bound b = []
        ∧ (∀ p ∈ s.bound b, t.doors[p.1].link = .unbound ∧ t.doors[p.1].report = none
            ∧ t.doors[p.1].slot = .none ∧ t.doors[p.1].conds = s.doors[p.1].conds)
        ∧ ∀ d : Slot, s.doors[d].entry = none → (∀ p ∈ s.bound b, p.1 ≠ d) → t.doors[d] = s.doors[d])
    ∧ (s.Managed route [12, tag, branch, 1] →
      exec (.enroll route tag branch 1) s =
        .next
          ({ s with
              branches := s.branches.set b
                { s.branches[b] with
                  state := .enrolling ⟨.add, 0, [], .calling⟩
                  inFlight := none
                  sent := [.call r.classMin r.classMax] } }.replied route.src tag 12 (.ok [])))

/-- FORGET-FOREIGN: the foreign unit list of the branch is empty, no door changes, and an active unacknowledged
FOREIGN-UNIT becomes inactive. -/
def Obligations.ForgetForeignEmptiesTheList : Prop :=
  ∀ (s : State) (route : Route) (tag branch : Byte) (b : BranchId), s.Settled → s.bankPending = false →
    s.Managed route [13, tag, branch] → branchOf branch = some b →
    ∃ t, exec (.forgetForeign route tag branch) s = .next t
      ∧ t.outer = { s.outer with lastRequest := none, replies := s.withReply route.src tag 13 (.ok []) }
      ∧ t.branches[b].foreign = [] ∧ t.doors = s.doors
      ∧ (∀ x : BranchId, x ≠ b → t.branches[x].foreign = s.branches[x].foreign)
      ∧ ∀ x, s.alarms.entry (.branch b) .foreignUnit = some x → x.active = true → x.ackBy = none →
          t.alarms.entry (.branch b) .foreignUnit = some { x with active := false }

/-! ### Power, restart -/

/-- A restart, from the pin or at the transmission of a RESTART request's reply: what Table 11-2 keeps is kept, and
what it clears or changes has its new value. A run in progress is bound without a flag; released lines are sampled at
once; the alarm list, its marks and its acknowledgements go, and the conditions known at the restart are raised anew in
their order; of the transmit queue nothing stays but the notices of those and generation 0; last-poll times are kept,
but for that of a first poll. Four things are the model's choice: the reply to a RESTART request is told by its first
byte, 0EH (log entry 30), the command carries the levels that the restart finds on the pins (log entry 8), a first poll
is sent within the event (log entry 9), and the requests of an abandoned run leave nothing in the new list, so that each
pair has raise count 1 and one notice offered (log entry 38). -/
def Obligations.RestartKeepsAndClears : Prop :=
  ∀ (s : State) (i : Instr) (pins : Pins) (flag : BitVec 16), s.powered = true →
    (∀ (b : BranchId) (r : Run), s.branches[b].run = some r →
      r.pairs.Pairwise (fun p q => p.1 ≠ q.1)
        ∧ (s.branchDoors b).Pairwise (fun p q => p.2.serial ≠ q.2.serial)) →
    (i = .restartPin pins ∧ flag = 0x0002#16)
      ∨ (∃ f rest, i = .transmitSuccess pins ∧ flag = 0x0004#16 ∧ s.trunk.sending = some .reply
          ∧ s.trunk.replies = f :: rest ∧ f.payload.head? = some 14) →
    ∃ t, exec i s = .next t
      ∧ t.powered = true ∧ t.uptime = 0 ∧ t.pins = pins
      ∧ t.banks = ⟨s.banks.a.restarted, s.banks.b.restarted⟩
      ∧ (∀ z : ZoneId, t.zones[z] = { s.zones[z] with setAt := 0 })
      ∧ (∀ b : BranchId, t.branches[b].latch = s.branches[b].latch
          ∧ t.branches[b].sense =
              (if s.branches[b].latch then .own else if pins.lineLow[b] then .external else .clear)
          ∧ t.branches[b].foreign = s.foreignAfter b
          ∧ t.branches[b].state = (if s.enabled b then .polling else .disabled)
          ∧ (t.branches[b].inFlight = none → t.branches[b].lastPoll = s.branches[b].lastPoll)
          ∧ ∀ p, t.branches[b].inFlight = some p →
              t.branches[b].lastPoll = s.branches[b].lastPoll.set (Fin.ofNat 16 (p.address - 1)) 0)
      ∧ (∀ d : Slot, t.doors[d].binding = s.boundAfter d
          ∧ t.doors[d].link = (if (s.boundAfter d).isSome then .pending else .unbound)
          ∧ t.doors[d].miss = 0 ∧ t.doors[d].report = none ∧ t.doors[d].phase = .idle
          ∧ t.doors[d].slot = .none ∧ t.doors[d].retry = 0 ∧ t.doors[d].timer = .none
          ∧ t.doors[d].entry = none ∧ t.doors[d].move = .none ∧ t.doors[d].holds = []
          ∧ t.doors[d].conds =
              { Conds.empty with linkLost := s.fitted d && (s.boundAfter d).isNone })
      ∧ t.heel = Heel.blank ∧ t.store = s.store
      ∧ t.alarms = listedAnew (s.knownAtRestart pins) ∧ t.trunk.NoticesOf (s.knownAtRestart pins)
      ∧ t.trunk.ownId = ownIdOf pins.straps ∧ t.trunk.answers = [] ∧ t.trunk.replies = []
      ∧ t.trunk.sending = none ∧ t.trunk.errors = 0
      ∧ t.mgr = { s.mgr with events := s.mgr.events ||| flag, snapshot := none, snapshotNumber := 0 }
      ∧ t.ind = ⟨t.picture, some t.picture, 0, 0, 5⟩
      ∧ t.trunk.parts = partsOf (ownIdOf pins.straps) 0 t.picture

/-- POWER_ON_RESET: from a good image bank A is ACTIVE with its set and check value and each enabled branch starts a
FRESH run; from a bad one both banks are EMPTY, NV-CHECK-FAILED is set and NO-TABLE is raised. Every other block takes
its power-on values: the alarm list holds LINE-EXTERNAL of each branch whose line reads low and NO-TABLE where it is
raised, and nothing else; the notices of these wait, and generation 0 is frozen and queued. Two things are the model's
choice: on a part that is powered the command follows a loss of power, which tears the image while a store runs (log
entry 4), and an image whose records are not those of a set is bad (log entry 28). -/
def Obligations.PowerOnResetLoadsTheImage : Prop :=
  ∀ (s : State) (pins : Pins),
    ∃ t, exec (.powerOnReset pins) s = .next t
      ∧ t.powered = true ∧ t.uptime = 0 ∧ t.pins = pins
      ∧ (∀ d : Slot, t.doors[d] = Door.blank) ∧ (∀ z : ZoneId, t.zones[z] = ⟨false, none, 0⟩)
      ∧ (∀ b : BranchId, t.branches[b].latch = false ∧ t.branches[b].foreign = []
          ∧ t.branches[b].sense = (if pins.lineLow[b] then .external else .clear)
          ∧ t.branches[b].inFlight = none ∧ t.branches[b].lastPoll = Vector.replicate 16 0
          ∧ t.branches[b].state =
              if t.enabled b then .enrolling ⟨.fresh, 0, [], .calling⟩ else .disabled)
      ∧ t.heel = Heel.blank
      ∧ t.alarms = listedAnew (t.knownAtPowerOn pins) ∧ t.trunk.NoticesOf (t.knownAtPowerOn pins)
      ∧ t.trunk.ownId = ownIdOf pins.straps ∧ t.trunk.answers = [] ∧ t.trunk.replies = []
      ∧ t.trunk.sending = none ∧ t.trunk.errors = 0
      ∧ t.mgr.lastRequest = none ∧ t.mgr.snapshot = none ∧ t.mgr.snapshotNumber = 0
      ∧ t.ind = ⟨t.picture, some t.picture, 0, 0, 5⟩
      ∧ t.trunk.parts = partsOf (ownIdOf pins.straps) 0 t.picture
      ∧ t.store.pinned = none
      ∧ (s.store.pinned = none → t.store.image = s.store.image)
      ∧ (s.store.pinned ≠ none → t.store.image = .bad)
      ∧ (∀ set check, t.store.image = .stored set check → setWf set = true → checkValue set = check →
          validate (ownIdOf pins.straps) set = none →
          t.banks = ⟨⟨.active, set, check⟩, ⟨.empty, [], 0⟩⟩ ∧ t.mgr.events = 0x0001#16)
      ∧ (t.store.image = .bad
            ∨ (∃ set check, t.store.image = .stored set check
                ∧ (setWf set = false ∨ checkValue set ≠ check ∨ validate (ownIdOf pins.straps) set ≠ none)) →
          t.banks = ⟨⟨.empty, [], 0⟩, ⟨.empty, [], 0⟩⟩ ∧ t.mgr.events = 0x0009#16
            ∧ t.alarms.entry .device .noTable = some ⟨.device, .noTable, 0, true, none, 1⟩)

/-! ### Transmission on the trunk -/

/-- TRANSMIT_START on a free trunk chooses notices first, then answers, then INDICATION parts, then replies; with
no frame waiting, or with a frame on the trunk, nothing changes, which is the model's choice for a start that no rule
makes due (log entries 3 and 35). ARBITRATION_LOST: the frame waits again in its
place with the error count unchanged, and the winning frame is then taken as a received frame. TRANSMIT_ERROR: the
frame waits again and the error count goes up, holding at 16; at the error that takes it to 16 TRUNK-FAULT is
listed, while the list has room. -/
def Obligations.TransmissionsStartLoseAndFail : Prop :=
  ∀ s : State, s.powered = true →
    (s.trunk.sending ≠ none → exec .transmitStart s = .next s)
    ∧ (s.trunk.sending = none → exec .transmitStart s =
        .next { s with trunk := { s.trunk with
          sending :=
            if s.trunk.notices ≠ [] then some .notice else if s.trunk.answers ≠ [] then some .answer
            else if s.trunk.parts ≠ [] then some .part else if s.trunk.replies ≠ [] then some .reply
            else none } })
    ∧ (∀ winner : List Byte, s.trunk.sending ≠ none →
        ∃ w t, w = { s with trunk := { s.trunk with sending := none } }
          ∧ exec (.arbitrationLost winner) s = .next t ∧ exec (.trunkFrame winner) w = .next t
          ∧ (parseFrame winner = none → t = w))
    ∧ (s.trunk.sending ≠ none → s.trunk.errors ≤ 16 →
        ∃ t, exec .transmitError s = .next t
          ∧ t.outer = { s.outer with sending := none, errors := min 16 (s.trunk.errors + 1) }
          ∧ (s.trunk.errors = 15 → s.bankPending = false → s.alarms.entry .device .trunkFault = none →
              s.alarms.mark .device .trunkFault = none → s.alarms.entries.length < 64 →
              t.alarms.entries =
                s.alarms.entries ++ [⟨.device, .trunkFault, s.uptime, true, none, 1⟩]))

/-- TRANSMIT_SUCCESS: the frame leaves its class and the error count is 0; an INDICATION part lowers the parts
outstanding by one while others are left; at the last one the next generation is frozen, with its five parts, when
20 tenths have passed since the last freeze, or 2 and the live image differs from the frozen one, and none is frozen
otherwise; and TRUNK-FAULT that stands unacknowledged becomes inactive when the count was 16. The reply to a RESTART
request is another rule's. -/
def Obligations.TransmittedFramesLeaveTheirClass : Prop :=
  ∀ (s : State) (pins : Pins) (c : TxClass) (f : TxFrame) (rest : List TxFrame),
    s.powered = true → s.trunk.sending = some c → s.trunk.frames c = f :: rest →
    ¬(c = .reply ∧ f.payload.head? = some 14) →
    ∃ t, exec (.transmitSuccess pins) s = .next t
      ∧ t.outer =
          { s.outer with
            sending := none
            errors := 0
            answers := if c = .answer then rest else s.trunk.answers
            replies := if c = .reply then rest else s.trunk.replies }
      ∧ (c = .part → 2 ≤ s.ind.outstanding →
          t.ind.outstanding = s.ind.outstanding - 1 ∧ t.ind.generation = s.ind.generation
            ∧ t.trunk.parts = rest)
      ∧ (c = .part → s.ind.outstanding = 1 → rest = [] → s.ind.frozen ≠ none →
          (20 ≤ elapsed s.uptime s.ind.lastFreeze
              ∨ (2 ≤ elapsed s.uptime s.ind.lastFreeze ∧ s.ind.frozen ≠ some t.ind.live) →
            t.ind = ⟨t.ind.live, some t.ind.live, s.ind.generation + 1, s.uptime, 5⟩
              ∧ t.trunk.parts = partsOf s.trunk.ownId (s.ind.generation + 1) t.ind.live)
          ∧ (elapsed s.uptime s.ind.lastFreeze < 20 →
              elapsed s.uptime s.ind.lastFreeze < 2 ∨ s.ind.frozen = some t.ind.live →
            t.ind = { s.ind with live := t.ind.live, outstanding := 0 } ∧ t.trunk.parts = []))
      ∧ (c = .notice → s.trunk.errors ≠ 16 → s.bankPending = false → t.trunk.notices = rest)
      ∧ ∀ x, s.trunk.errors = 16 → s.bankPending = false →
          s.alarms.entry .device .trunkFault = some x → x.active = true → x.ackBy = none →
          t.alarms.entry .device .trunkFault = some { x with active := false }

/-! ### Polls and the emergency close line -/

/-- STATUS_REPLY: a valid reply to the poll in flight is the last report of the door bound to the polled address,
whose link is ONLINE with miss count 0 and without LINK-LOST; DISAGREE is present exactly when the report derives it, and
LOW-PRESSURE exactly when the pressure is below half of the group's P_nom, but stays as it is at the failed-sensor mark.
An IDLE door makes the need-close check when its link has become ONLINE and at a drift report: a close of origin ORDER is
queued now, or admitted within the event; an ONLINE door without one stays IDLE. The poll is over, and the next one
follows: a priority poll after a regular one where a door has something in hand, else the next of the rotation, with the
command that the slot then holds. That it goes out within the event, and which door wins a tie, are the model's choice
(log entries 9 and 44). No other door that waits in no queue changes while no bank is PENDING. -/
def Obligations.ValidRepliesAreTaken : Prop :=
  ∀ (s : State) (b : BranchId) (bytes : List Byte) (q : Poll) (r : Report) (d : Slot) (v : DoorRec),
    s.powered = true → s.branches[b].isPolling = true → s.branches[b].inFlight = some q →
    parseStatus q.address s.uptime bytes = some r → s.doorAt b q.address = some d → s.doorRec d = some v →
    s.bankPending = false →
    ∃ t, exec (.statusReply b bytes) s = .next t
      ∧ t.outer = s.outer
      ∧ t.doors[d].report = some r ∧ t.doors[d].link = .online ∧ t.doors[d].miss = 0
      ∧ t.doors[d].binding = s.doors[d].binding
      ∧ (s.doors[d].link ≠ .online → t.doors[d].conds.linkLost = false)
      ∧ (t.doors[d].conds.disagree = true ↔ r.doorState = .disagree)
      ∧ (∀ p, r.pressure = some p →
          (t.doors[d].conds.lowPressure = true ↔ p < (s.groupRec v.group).pNom / 2))
      ∧ (r.pressure = none → t.doors[d].conds.lowPressure = s.doors[d].conds.lowPressure)
      ∧ (s.doors[d].phase = .idle → s.doors[d].flowWf = true →
          (s.orderHeld d = true → s.doors[d].conds.travelTimeout = none → ¬r.atClosed → r.handle ≠ .openSide →
            s.doors[d].link ≠ .online ∨ s.DriftReport d r → t.WorksNow d .closing .order .order)
          ∧ (s.doors[d].link = .online → ¬s.HandleHolds d r → ¬s.DriftReport d r →
            t.doors[d].phase = .idle ∧ t.doors[d].entry = none ∧ t.doors[d].move = .none))
      ∧ s.PollFollows t b q
      ∧ ∀ x : Slot, x ≠ d → s.doors[x].entry = none → t.doors[x] = s.doors[x]

/-- A delivery, the echo of the command in the slot, empties the slot and ends the HALT holds of the door; nothing else
ends or makes a hold at a reply. WARN-ON delivered in WARNING starts the warning lead, if it does not run yet. CLOSE or
OPEN delivered in DRIVING, not yet started, starts the motion: its record begins at the reply's arrival and position
with lag count 0, when the report shows no end. Without a delivery an admission, its slot and its phase stay, when the
report does not show its end position and the handle does not hold the door. A started motion ends REACHED at a report
with the limit of its end position set, no DISAGREE, the handle IDLE and no motion away from it: its flow is released,
the retry count is 0, the phase is IDLE, and the motion-end kinds of its direction are gone. -/
def Obligations.MotionsStartAndEndReached : Prop :=
  ∀ (s : State) (b : BranchId) (bytes : List Byte) (q : Poll) (r : Report) (d : Slot),
    s.powered = true → s.branches[b].isPolling = true → s.branches[b].inFlight = some q →
    parseStatus q.address s.uptime bytes = some r → s.doorAt b q.address = some d →
    s.bankPending = false → s.doors[d].flowWf = true → s.doors[d].LinkWf →
    ∃ t, exec (.statusReply b bytes) s = .next t
      ∧ (s.doors[d].Delivers r → t.doors[d].holds = s.doors[d].holds.filter fun h => !h.isHalt)
      ∧ (¬s.doors[d].Delivers r → t.doors[d].holds = s.doors[d].holds)
      ∧ (∀ a, s.doors[d].phase = .warning → s.doors[d].move = .admitted a → s.doors[d].slot = .warnOn →
          r.echo = .warnOn → r.doorState ≠ .closed → ¬s.HandleHolds d r →
          t.doors[d].slot = .none ∧ t.doors[d].phase = .warning
            ∧ t.doors[d].move = .admitted { a with leadStart := some (a.leadStart.getD s.uptime) })
      ∧ (∀ a, s.doors[d].phase = .driving → s.doors[d].move = .admitted a → s.doors[d].slot = a.dir.command →
          r.echo = a.dir.command → r.handle = .idle → r.limit a.dir = false → r.obstruction = false →
          t.doors[d].slot = .none ∧ t.doors[d].phase = .driving
            ∧ t.doors[d].move =
                .started ⟨a.dir, a.origin, a.basis, a.draw, s.uptime, r.position, a.allowance, 0⟩)
      ∧ (∀ a, s.doors[d].move = .admitted a → ¬s.doors[d].Delivers r → r.doorState ≠ a.dir.endState →
          ¬s.HandleHolds d r →
          t.doors[d].move = .admitted a ∧ t.doors[d].phase = s.doors[d].phase
            ∧ t.doors[d].slot = s.doors[d].slot)
      ∧ (s.doors[d].move = .none → s.doors[d].entry = none → s.orderHeld d = false →
          t.doors[d].slot = (if s.doors[d].slot = r.echo then .none else s.doors[d].slot)
            ∧ t.doors[d].move = .none)
      ∧ ∀ m, s.doors[d].move = .started m → r.limit m.dir = true → r.doorState ≠ .disagree → r.handle = .idle →
          (m.dir = .closing → r.motion ≠ .opening) → (m.dir = .opening → s.orderHeld d = false) →
          t.doors[d].move = .none ∧ t.doors[d].retry = 0 ∧ t.doors[d].phase = .idle
            ∧ ∀ k, t.doors[d].conds.dirOf k ≠ some m.dir

/-- A close that meets an obstruction short of its limit ends OBSTRUCTED. Otherwise a motion short of its limit is
checked for lag once 2.0 s have passed since its start: a lagging report adds one to the lag count, and the one that
takes it to 2 ends the motion STALL; any other report of the motion lets it run on, with lag count 0 at a checked report
that is not lagging and the count as it was in the start grace. At either end the flow is released, HALT is placed, the
kind is entered, and the door waits 5.0 s for a retry while its retry count is below 3; at 3 a close is FAILED under an
order and IDLE without one, with CLOSE-FAILED entered, and an open is IDLE. -/
def Obligations.ObstructedClosesRetryOrFail : Prop :=
  ∀ (s : State) (b : BranchId) (bytes : List Byte) (q : Poll) (r : Report) (d : Slot) (v : DoorRec) (m : Motion),
    s.powered = true → s.branches[b].isPolling = true → s.branches[b].inFlight = some q →
    parseStatus q.address s.uptime bytes = some r → s.doorAt b q.address = some d → s.doorRec d = some v →
    s.bankPending = false → s.doors[d].flowWf = true → s.doors[d].LinkWf → s.doors[d].move = .started m →
    (r.limit m.dir = false ∨ r.doorState = .disagree) → r.handleAgainst m.dir = false → ¬s.HandleHolds d r →
    ∃ t, exec (.statusReply b bytes) s = .next t
      ∧ (m.dir = .closing → r.obstruction = true → s.MotionStopped t d m .obstructed)
      ∧ (m.dir = .opening ∨ r.obstruction = false →
          (m.Checked s.uptime → m.Lags s.uptime r.position (s.groupRec v.group).lagTolerance → 1 ≤ m.lag →
            (m.dir = .opening → s.orderHeld d = false) → s.MotionStopped t d m .stall)
          ∧ ∀ lag,
            (¬m.Checked s.uptime ∧ lag = m.lag)
              ∨ (m.Checked s.uptime ∧ ¬m.Lags s.uptime r.position (s.groupRec v.group).lagTolerance ∧ lag = 0)
              ∨ (m.Checked s.uptime ∧ m.Lags s.uptime r.position (s.groupRec v.group).lagTolerance ∧ m.lag = 0
                  ∧ lag = 1) →
            t.doors[d].move = .started { m with lag := lag } ∧ t.doors[d].phase = .driving
              ∧ t.doors[d].retry = s.doors[d].retry
              ∧ t.doors[d].slot = if s.doors[d].slot = r.echo then .none else s.doors[d].slot)

/-- The local handle. At OPEN-SIDE under an order, short of the closed limit, it sends the door to HELD-LOCAL from every
phase except FAILED, without a queue entry and without a move, with WARN-OFF in the slot from WARNING and HALT from
DRIVING a close; LOCAL-OPEN is entered. In HELD-LOCAL the handle at CLOSE-SIDE leaves the door there, and the handle IDLE
releases it: IDLE when the door is CLOSED; with a reclose dwell of 0 a close of origin RECLOSE at once where the door
must be closed, and IDLE where it need not or may not; else DWELL for the reclose dwell. DWELL runs on until a report
shows the door CLOSED, also with the handle at CLOSE-SIDE (the model's choice, log entry 55). Without an order a handle
against a started motion ends it PREEMPTED-LOCAL: IDLE with HALT in the slot; and it leaves an entry or an admission
standing. -/
def Obligations.OpenedHandlesHoldTheDoor : Prop :=
  ∀ (s : State) (b : BranchId) (bytes : List Byte) (q : Poll) (r : Report) (d : Slot) (v : DoorRec),
    s.powered = true → s.branches[b].isPolling = true → s.branches[b].inFlight = some q →
    parseStatus q.address s.uptime bytes = some r → s.doorAt b q.address = some d → s.doorRec d = some v →
    s.bankPending = false → s.doors[d].flowWf = true → s.doors[d].LinkWf →
    ∃ t, exec (.statusReply b bytes) s = .next t
      ∧ (s.HandleHolds d r → (∀ m, s.doors[d].move = .started m → m.dir = .closing) → r.closedLimit = false →
          s.doors[d].phase ≠ .failed →
          t.doors[d].phase = .heldLocal ∧ t.doors[d].entry = none ∧ t.doors[d].move = .none
            ∧ (s.doors[d].phase ≠ .heldLocal → t.doors[d].timer = .none) ∧ t.doors[d].conds.localOpen = true
            ∧ (s.doors[d].phase = .warning → t.doors[d].slot = .warnOff)
            ∧ (s.doors[d].phase = .driving → s.doors[d].move.dir = some .closing → t.doors[d].slot = .halt))
      ∧ (s.doors[d].phase = .heldLocal → r.handle = .closeSide →
          t.doors[d].phase = .heldLocal ∧ t.doors[d].entry = none ∧ t.doors[d].move = .none)
      ∧ (s.doors[d].phase = .heldLocal → r.handle = .idle →
          (r.doorState = .closed → t.doors[d].phase = .idle ∧ t.doors[d].timer = .none)
          ∧ (r.doorState ≠ .closed → v.recloseDwell = 0 →
              (s.orderHeld d = true → s.doors[d].conds.travelTimeout = none → ¬r.atClosed →
                t.WorksNow d .closing .reclose .order)
              ∧ (s.orderHeld d = false ∨ s.doors[d].conds.travelTimeout = some .closing ∨ r.atClosed →
                t.doors[d].phase = .idle ∧ t.doors[d].timer = .none ∧ t.doors[d].entry = none))
          ∧ (r.doorState ≠ .closed → 0 < v.recloseDwell →
              t.doors[d].phase = .dwell
                ∧ t.doors[d].timer = .dwell (s.uptime + BitVec.ofNat 32 v.recloseDwell)))
      ∧ (s.doors[d].phase = .dwell → ¬s.HandleHolds d r →
          (r.doorState = .closed → t.doors[d].phase = .idle ∧ t.doors[d].timer = .none)
          ∧ (r.doorState ≠ .closed → t.doors[d].phase = .dwell ∧ t.doors[d].timer = s.doors[d].timer))
      ∧ (s.orderHeld d = false →
          (∀ m, s.doors[d].move = .started m → r.handleAgainst m.dir = true →
              r.limit m.dir = false ∨ r.doorState = .disagree →
              t.doors[d].phase = .idle ∧ t.doors[d].move = .none ∧ t.doors[d].slot = .halt
                ∧ t.doors[d].retry = s.doors[d].retry ∧ t.doors[d].timer = .none)
          ∧ (∀ en, s.doors[d].entry = some en → s.doors[d].timer = .none → t.WorksOn d en)
          ∧ ∀ a, s.doors[d].move = .admitted a → ¬s.doors[d].Delivers r → r.doorState ≠ a.dir.endState →
              t.doors[d].move = .admitted a ∧ t.doors[d].phase = s.doors[d].phase)

/-- POLL_MISS: the miss count of the door bound to the polled address goes up, holding at 3; at the third miss in
PENDING or ONLINE the link is LOST with LINK-LOST entered, and a started motion becomes a LINK-LOST hold of its
draw that expires at its start plus its allowance. A door that was QUEUED, in WARNING or DRIVING is then IDLE, with
WARN-OFF in the slot from WARNING, HALT from DRIVING not yet started, and the slot as it was else; any other phase stays
with its timer. The poll is over, and the next one follows as after a reply (log entries 9 and 44). -/
def Obligations.MissedPollsLoseTheLink : Prop :=
  ∀ (s : State) (b : BranchId) (q : Poll) (d : Slot),
    s.powered = true → s.branches[b].isPolling = true → s.branches[b].inFlight = some q →
    s.doorAt b q.address = some d → s.bankPending = false → s.doors[d].miss ≤ 3 →
    s.doors[d].flowWf = true → s.doors[d].LinkWf →
    ∃ t, exec (.pollMiss b) s = .next t
      ∧ t.outer = s.outer ∧ t.doors[d].miss = min 3 (s.doors[d].miss + 1)
      ∧ (s.doors[d].miss < 2 → t.doors[d].link = s.doors[d].link)
      ∧ s.PollFollows t b q
      ∧ (2 ≤ s.doors[d].miss → s.doors[d].link = .pending ∨ s.doors[d].link = .online →
          t.doors[d].link = .lost ∧ t.doors[d].conds.linkLost = true ∧ t.doors[d].entry = none
            ∧ t.doors[d].move = .none
            ∧ t.doors[d].phase =
                (if s.doors[d].phase = .queued ∨ s.doors[d].phase = .warning ∨ s.doors[d].phase = .driving
                  then .idle else s.doors[d].phase)
            ∧ t.doors[d].timer = s.doors[d].timer
            ∧ t.doors[d].slot =
                (match s.doors[d].phase, s.doors[d].move with
                  | .warning, _ => .warnOff
                  | .driving, .admitted _ => .halt
                  | _, _ => s.doors[d].slot)
            ∧ ∀ m, s.doors[d].move = .started m → s.doors[d].link = .online → s.doors[d].holds = [] →
                elapsed s.uptime m.start < m.allowance →
                t.doors[d].holds = [⟨m.draw, .linkLost (m.start + BitVec.ofNat 32 m.allowance)⟩])
      ∧ ∀ x : Slot, x ≠ d → s.doors[x].entry = none → t.doors[x] = s.doors[x]

/-- LINE_SAMPLE: while the latch is released the sense is EXTERNAL when the line reads low and CLEAR when it reads
high; while it is set the sense stays. Nothing else of the outer part changes but the level found. LINE-EXTERNAL is
raised when the sense becomes EXTERNAL, and joins the list, or the marks where the list is full of unacknowledged
entries; it is cleared when the sense leaves EXTERNAL, and its entry or mark is gone; a sense that stays leaves the alarms as they are. The doors of the
branch whose order begins or ends with its sense take their order set or order release. -/
def Obligations.LinesAreSampled : Prop :=
  ∀ (s : State) (b : BranchId) (low : Bool), s.powered = true →
    ∃ t, exec (.lineSample b low) s = .next t
      ∧ s.OrdersFollow t
      ∧ t.outer =
          { s.outer with
            pins := { s.pins with lineLow := s.pins.lineLow.set b low }
            lines := s.outer.lines.set b
              (s.branches[b].latch,
                if s.branches[b].latch then s.branches[b].sense else if low then .external else .clear) }
      ∧ (s.bankPending = false → s.alarms.Wf →
          (s.branches[b].latch = false → low = true → s.branches[b].sense ≠ .external →
            s.alarms.entry (.branch b) .lineExternal = none → s.alarms.mark (.branch b) .lineExternal = none →
            (s.alarms.entries.length < 64 ∨ (∃ x ∈ s.alarms.entries, x.ackBy ≠ none) →
              t.alarms.entry (.branch b) .lineExternal =
                some ⟨.branch b, .lineExternal, s.uptime, true, none, 1⟩)
            ∧ (s.alarms.entries.length = 64 → (∀ x ∈ s.alarms.entries, x.ackBy = none) →
              t.alarms.mark (.branch b) .lineExternal = some ⟨.branch b, .lineExternal, none⟩))
          ∧ (s.branches[b].latch = false → low = false → s.branches[b].sense = .external →
            t.alarms.entry (.branch b) .lineExternal = none
              ∧ t.alarms.mark (.branch b) .lineExternal = none)
          ∧ (s.branches[b].latch = true ∨ s.branches[b].sense = (if low then .external else .clear) →
            t.alarms = s.alarms))

/-! ### Enrollment -/

/-- CALL_ANSWER with a new serial: the lowest free address is assigned, the pair is recorded, and rounds without
progress is 0. With a serial of the record the ASSIGN is sent again, also when every address 1 to 16 is held, which is
the model's choice (log entry 45). ASSIGN_SENT begins the next round with a CALL
of the branch's class window; CALL_ANSWER_FAULT repeats the round while rounds without progress stays below 3.
Nothing but the branch changes. -/
def Obligations.RoundsAssignAddresses : Prop :=
  ∀ (s : State) (b : BranchId) (r : Run) (v : BranchRec), s.powered = true → s.Settled →
    s.branches[b].state = .enrolling r → s.branchRec b = some v →
    (∀ serial a, r.step = .calling → (∀ p ∈ r.pairs, p.1 ≠ serial) → s.freeAddress b r = some a →
      exec (.callAnswer b serial) s =
        .next { s with branches := s.branches.set b ({ s.branches[b] with
          state := .enrolling ⟨r.mode, 0, r.pairs ++ [(serial, a)], .assigning⟩
          sent := [.assign serial a] } : Branch) }
      ∧ 1 ≤ a ∧ a ≤ 16 ∧ ¬s.AddressTaken b r a ∧ ∀ x, 1 ≤ x → x < a → s.AddressTaken b r x)
    ∧ (∀ serial a, r.step = .calling → (serial, a) ∈ r.pairs →
        r.pairs.Pairwise (fun p q => p.1 ≠ q.1) → r.noProgress < 2 →
      exec (.callAnswer b serial) s =
        .next { s with branches := s.branches.set b ({ s.branches[b] with
          state := .enrolling ⟨r.mode, r.noProgress + 1, r.pairs, .assigning⟩
          sent := [.assign serial a] } : Branch) })
    ∧ (r.step = .assigning → exec (.assignSent b) s =
        .next { s with branches := s.branches.set b ({ s.branches[b] with
          state := .enrolling ⟨r.mode, r.noProgress, r.pairs, .calling⟩
          sent := [.call v.classMin v.classMax] } : Branch) })
    ∧ (r.step = .calling → r.noProgress < 2 → exec (.callAnswerFault b) s =
        .next { s with branches := s.branches.set b ({ s.branches[b] with
          state := .enrolling ⟨r.mode, r.noProgress + 1, r.pairs, .calling⟩
          sent := [.call v.classMin v.classMax] } : Branch) })

/-- A run ends at a CALL_NO_ANSWER, at the third round without progress, and at a new serial with every address 1 to 16
held, which is taken as foreign without an address; a serial of the record still has its ASSIGN sent again. ENROLL-DONE
is set, the run is bound, FOREIGN-UNIT is listed for its foreign serials while the list has room, and the first poll goes
to the lowest bound address. An ADD run is aborted when an order begins for a door bound on its branch, or when a
DOOR-CLOSE or DOOR-OPEN queues one: ENROLL-ABORTED is set, the run is bound, and a door that the run does not bind
anew is then queued. Three things are the model's choice: a serial of the record comes before the held addresses (log
entry 45), the poll is sent within the event (log entry 9), and the foreign serial without an address comes before the
doors left unbound, which decides what takes the last room of the list (log entry 53). -/
def Obligations.RunsEndInBindings : Prop :=
  ∀ (s : State) (b : BranchId) (r : Run), s.powered = true → s.bankPending = false →
    s.branches[b].state = .enrolling r → r.pairs.Pairwise (fun p q => p.1 ≠ q.1) →
    (s.branchDoors b).Pairwise (fun p q => p.2.serial ≠ q.2.serial) →
    (∀ (i : Instr) (noAddress : Option Serial), r.step = .calling →
      (i = .callNoAnswer b ∧ noAddress = none)
        ∨ (i = .callAnswerFault b ∧ 2 ≤ r.noProgress ∧ noAddress = none)
        ∨ (∃ serial a, i = .callAnswer b serial ∧ (serial, a) ∈ r.pairs ∧ 2 ≤ r.noProgress ∧ noAddress = none)
        ∨ (∃ serial, i = .callAnswer b serial ∧ (∀ p ∈ r.pairs, p.1 ≠ serial)
            ∧ (∀ a, 1 ≤ a → a ≤ 16 → s.AddressTaken b r a) ∧ noAddress = some serial) →
      ∃ t, exec i s = .next t
        ∧ t.outer = s.outer ∧ t.mgr.events = s.mgr.events ||| 0x0040#16
        ∧ s.RunClosed t b r noAddress
        ∧ (∀ serial a, i = .callAnswer b serial → (serial, a) ∈ r.pairs →
            t.branches[b].sent.head? = some (.assign serial a))
        ∧ (t.bound b ≠ [] → (∀ x ∈ t.bound b, 1 ≤ x.2) → ∃ p, t.branches[b].inFlight = some p ∧ p.turn = .regular
            ∧ t.branches[b].rotation = p.address ∧ (∃ x ∈ t.bound b, x.2 = p.address)
            ∧ ∀ x ∈ t.bound b, p.address ≤ x.2)
        ∧ (s.foreignOf b r noAddress ≠ [] → s.alarms.entry (.branch b) .foreignUnit = none →
            s.alarms.mark (.branch b) .foreignUnit = none → s.alarms.entries.length < 64 →
            t.alarms.entry (.branch b) .foreignUnit =
              some ⟨.branch b, .foreignUnit, s.uptime, true, none,
                min 255 (s.foreignOf b r noAddress).length⟩))
    ∧ (∀ (c : Instr) (t : State) (d : Slot) (v : DoorRec),
        (∃ x y z, c = .closeZone x y z) ∨ (∃ x y, c = .closeAll x y) ∨ (∃ x y, c = .lineSample x y) →
        exec c s = .next t → s.doorRec d = some v → v.branch = b → s.doors[d].binding ≠ none →
        s.orderHeld d = false → t.orderHeld d = true →
        t.mgr.events = s.mgr.events ||| 0x0080#16 ∧ s.RunClosed t b r none)
    ∧ ∀ (route : Route) (slot tag : Byte) (d : Slot) (v : DoorRec) (p : PanelRec) (i : Instr) (code : Byte)
        (dir : Dir),
      (i = .doorClose route slot tag ∧ code = 5 ∧ dir = .closing ∧ s.doors[d].state ≠ .closed)
        ∨ (i = .doorOpen route slot tag ∧ code = 6 ∧ dir = .opening ∧ s.doors[d].state ≠ .opened
            ∧ s.orderHeld d = false) →
      s.Commanded route [code, slot, 0, tag] → slotOf slot = some d → s.panel route.src = some p →
      p.holds .door = true → p.hasDoor d = true → s.doorRec d = some v → v.branch = b →
      s.doors[d].binding ≠ none → s.doors[d].link = .online → s.doors[d].phase = .idle →
      s.doors[d].flowWf = true →
      ∃ t, exec i s = .next t
        ∧ t.outer = { s.outer with answers := s.withAnswer route.src tag code .accepted }
        ∧ t.mgr.events = s.mgr.events ||| 0x0080#16 ∧ s.RunClosed t b r none
        ∧ ((∀ x ∈ r.pairs, x.1 ≠ v.serial) → t.WorksNow d dir .remote .remote ∧ t.doors[d].retry = 0)

/-! ### Expiries -/

/-- DWELL_EXPIRY: an ONLINE door that is not CLOSED and has no TRAVEL-TIMEOUT is queued for a close of origin
RECLOSE, or admitted to it within the event with the draw, allowance, issue deadline and first command of its
admission; any other becomes IDLE with its timer cleared. -/
def Obligations.DwellsEndInAReclose : Prop :=
  ∀ (s : State) (d : Slot), s.powered = true → s.doors[d].flowWf = true → s.NoRunFor d →
    s.fitted d = true → s.doors[d].phase = .dwell → s.doors[d].timer = .dwell s.uptime →
    ∃ t, exec (.dwellExpiry d) s = .next t ∧ t.outer = s.outer
      ∧ (s.doors[d].link = .online → s.doors[d].state ≠ .closed →
          s.doors[d].conds.travelTimeout = none →
          t.KeptOrAdmitted d { s.doors[d].enqueued s.uptime .closing .reclose .order with retry := 0 })
      ∧ (s.doors[d].link ≠ .online ∨ s.doors[d].state = .closed
            ∨ s.doors[d].conds.travelTimeout ≠ none →
          s.bankPending = false →
          t.doors[d] = { s.doors[d] with phase := .idle, timer := .none })

/-- RETRY_EXPIRY: a close under an order, and a close or open of basis REMOTE without one, is queued again with
origin RETRY and one more in the retry count, or admitted within the event with the draw, allowance, issue deadline and
first command of its admission; with the link not ONLINE, and in every other case, the door is IDLE with retry
count 0. -/
def Obligations.RetriesAreQueuedAgain : Prop :=
  ∀ (s : State) (d : Slot) (dir : Dir) (o : Origin) (basis : Basis), s.powered = true →
    s.doors[d].flowWf = true → s.NoRunFor d → s.fitted d = true → s.doors[d].phase = .retryWait →
    s.doors[d].timer = .retry s.uptime dir o basis →
    ∃ t, exec (.retryExpiry d) s = .next t ∧ t.outer = s.outer
      ∧ (s.doors[d].link = .online →
          (dir = .closing ∧ s.orderHeld d = true) ∨ (basis = .remote ∧ s.orderHeld d = false) →
          t.KeptOrAdmitted d
            { s.doors[d].enqueued s.uptime dir .retry basis with retry := s.doors[d].retry + 1 })
      ∧ (s.doors[d].link ≠ .online
            ∨ (dir = .opening ∧ s.orderHeld d = true) ∨ (basis = .order ∧ s.orderHeld d = false) →
          s.bankPending = false →
          t.doors[d] = { s.doors[d] with phase := .idle, timer := .none, retry := 0 })

/-- WARNING_LEAD_EXPIRY: the slot takes CLOSE and the door is DRIVING, not yet started. ISSUE_DEADLINE_EXPIRY: the
admission ends, the slot takes WARN-OFF from WARNING and HALT from DRIVING, and TRAVEL-TIMEOUT is entered with the
admission's direction. DEADLINE_EXPIRY: the motion ends without a command, and TRAVEL-TIMEOUT is entered with its
direction. LINK_LOST_HOLD_EXPIRY: the holds whose expiry time is now end, and the door's other holds stay. In each
the door is then as stated, and no other door that waits in no queue changes. -/
def Obligations.LeadsAndDeadlinesExpire : Prop :=
  ∀ (s : State) (d : Slot), s.powered = true → s.doors[d].flowWf = true → s.bankPending = false →
    (∀ a since r, s.doors[d].phase = .warning → s.doors[d].move = .admitted a → a.leadStart = some since →
      s.doorRec d = some r → elapsed s.uptime since = r.warningLead →
      ∃ t, exec (.warningLeadExpiry d) s = .next t ∧ t.outer = s.outer
        ∧ t.doors[d] = { s.doors[d] with slot := .close, phase := .driving, timer := .none }
        ∧ ∀ x : Slot, x ≠ d → s.doors[x].entry = none → t.doors[x] = s.doors[x])
    ∧ (∀ a, s.doors[d].move = .admitted a → a.issueDeadline = s.uptime →
      ∃ t, exec (.issueDeadlineExpiry d) s = .next t ∧ t.outer = s.outer
        ∧ t.doors[d] =
            { s.doors[d] with
              slot := if s.doors[d].phase = .warning then .warnOff else .halt
              move := .none, phase := .idle, timer := .none
              conds := { s.doors[d].conds with travelTimeout := some a.dir } }
        ∧ ∀ x : Slot, x ≠ d → s.doors[x].entry = none → t.doors[x] = s.doors[x])
    ∧ (∀ m, s.doors[d].move = .started m → elapsed s.uptime m.start = m.allowance →
      ∃ t, exec (.deadlineExpiry d) s = .next t ∧ t.outer = s.outer
        ∧ t.doors[d] =
            { s.doors[d] with
              move := .none, phase := .idle, timer := .none
              conds := { s.doors[d].conds with travelTimeout := some m.dir } }
        ∧ ∀ x : Slot, x ≠ d → s.doors[x].entry = none → t.doors[x] = s.doors[x])
    ∧ (∀ draw, s.doors[d].entry = none → (⟨draw, .linkLost s.uptime⟩ : Hold) ∈ s.doors[d].holds →
      ∃ t, exec (.linkLostHoldExpiry d) s = .next t ∧ t.outer = s.outer
        ∧ t.doors[d] =
            { s.doors[d] with holds := s.doors[d].holds.filter fun h => h.kind != .linkLost s.uptime }
        ∧ ∀ x : Slot, x ≠ d → s.doors[x].entry = none → t.doors[x] = s.doors[x])

/-- The re-announce timer runs free: no command moves its next expiry but a reset and its own REANNOUNCE_EXPIRY,
at which it runs on by 300 tenths. At an expiry a REPEAT is offered to the notice class for the first
unacknowledged entry in list order, else for the first unacknowledged mark, else none; nothing else changes. -/
def Obligations.ReannouncementsRepeat : Prop :=
  ∀ s : State,
    (∀ (c : Instr) (t : State), c.resets = false → c ≠ .reannounceExpiry → exec c s = .next t →
      t.alarms.reannounceAt = s.alarms.reannounceAt)
    ∧ (s.powered = true → s.alarms.reannounceAt = s.uptime →
      ∃ t, exec .reannounceExpiry s = .next t
        ∧ t = { s with
                alarms := { s.alarms with reannounceAt := s.uptime + 300 }
                trunk := t.trunk }
        ∧ ((∀ x ∈ s.alarms.entries, x.ackBy ≠ none) → (∀ m ∈ s.alarms.marks, m.ackBy ≠ none) →
            t.trunk = s.trunk)
        ∧ (∀ (before after : List AlarmEntry) (x : AlarmEntry), s.alarms.entries = before ++ x :: after →
            (∀ y ∈ before, y.ackBy ≠ none) → x.ackBy = none →
            t.trunk = s.trunk.offerNotice
              ⟨s.trunk.ownId, broadcast,
                [6, byte x.subject.code, byte x.kind.code,
                  standingByte false x.active false (!s.alarms.marks.isEmpty),
                  byte s.alarms.entries.length, hold255 s.alarms.unacked, byte x.count, 31]
                ++ bytes32 x.raisedAt⟩)
        ∧ ∀ (before after : List Mark) (m : Mark), (∀ x ∈ s.alarms.entries, x.ackBy ≠ none) →
            s.alarms.marks = before ++ m :: after → (∀ y ∈ before, y.ackBy ≠ none) → m.ackBy = none →
            t.trunk = s.trunk.offerNotice
              ⟨s.trunk.ownId, broadcast,
                [6, byte m.subject.code, byte m.kind.code, standingByte true true false true,
                  byte s.alarms.entries.length, hold255 s.alarms.unacked, 0, 31]
                ++ bytes32 s.uptime⟩)

/-- SPACING_POINT and REFRESH_POINT: at the spacing point a freeze is taken when the live image differs from the
frozen one, and at the refresh point in any case, both only with no part outstanding. -/
def Obligations.PointsFreezeWhenDue : Prop :=
  ∀ s : State, s.powered = true →
    (s.ind.frozen ≠ none → elapsed s.uptime s.ind.lastFreeze = 2 → exec .spacingPoint s =
      .next (if s.ind.outstanding = 0 ∧ s.ind.frozen ≠ some s.ind.live then
        { s with
          ind := ⟨s.ind.live, some s.ind.live, s.ind.generation + 1, s.uptime, 5⟩
          trunk := { s.trunk with
            parts := s.trunk.parts ++ partsOf s.trunk.ownId (s.ind.generation + 1) s.ind.live } }
        else s))
    ∧ (s.ind.frozen ≠ none → elapsed s.uptime s.ind.lastFreeze = 20 → exec .refreshPoint s =
      .next (if s.ind.outstanding = 0 then
        { s with
          ind := ⟨s.ind.live, some s.ind.live, s.ind.generation + 1, s.uptime, 5⟩
          trunk := { s.trunk with
            parts := s.trunk.parts ++ partsOf s.trunk.ownId (s.ind.generation + 1) s.ind.live } }
        else s))

/-! ### Functions of the rules -/

/-- T_allow lies between the door's T_nom and its group's T_cap, both inclusive, whatever the heel and the
pressure, when T_cap is at least T_nom and P_nom is in its range. -/
def Obligations.AllowanceLiesWithinItsBounds : Prop :=
  ∀ (r : DoorRec) (g : GroupRec) (h : Nat) (pressure : Option Nat),
    r.tNom ≤ g.tCap → 50 ≤ g.pNom → r.tNom ≤ allowance r g h pressure ∧ allowance r g h pressure ≤ g.tCap
end

