-- ==== Sys2Proof/Laws/State.lean ====
section
/-! SUPPORT. One lemma for each field and each update of the state: what the update leaves as it was, and what it
gives to the field that it writes. All hold by unfolding the update once. -/

namespace Sys2Proof.Machine

open Sys2Proof

/-! ### modDoor -/

@[simp] theorem Ev.modDoor_powered (e : Ev) (d : Slot) (f : Door → Door) :
    (e.modDoor d f).powered = e.powered := rfl
@[simp] theorem Ev.modDoor_uptime (e : Ev) (d : Slot) (f : Door → Door) :
    (e.modDoor d f).uptime = e.uptime := rfl
@[simp] theorem Ev.modDoor_pins (e : Ev) (d : Slot) (f : Door → Door) :
    (e.modDoor d f).pins = e.pins := rfl
@[simp] theorem Ev.modDoor_zones (e : Ev) (d : Slot) (f : Door → Door) :
    (e.modDoor d f).zones = e.zones := rfl
@[simp] theorem Ev.modDoor_heel (e : Ev) (d : Slot) (f : Door → Door) :
    (e.modDoor d f).heel = e.heel := rfl
@[simp] theorem Ev.modDoor_ind (e : Ev) (d : Slot) (f : Door → Door) :
    (e.modDoor d f).ind = e.ind := rfl
@[simp] theorem Ev.modDoor_alarms (e : Ev) (d : Slot) (f : Door → Door) :
    (e.modDoor d f).alarms = e.alarms := rfl
@[simp] theorem Ev.modDoor_branches (e : Ev) (d : Slot) (f : Door → Door) :
    (e.modDoor d f).branches = e.branches := rfl
@[simp] theorem Ev.modDoor_trunk (e : Ev) (d : Slot) (f : Door → Door) :
    (e.modDoor d f).trunk = e.trunk := rfl
@[simp] theorem Ev.modDoor_banks (e : Ev) (d : Slot) (f : Door → Door) :
    (e.modDoor d f).banks = e.banks := rfl
@[simp] theorem Ev.modDoor_mgr (e : Ev) (d : Slot) (f : Door → Door) :
    (e.modDoor d f).mgr = e.mgr := rfl
@[simp] theorem Ev.modDoor_store (e : Ev) (d : Slot) (f : Door → Door) :
    (e.modDoor d f).store = e.store := rfl
@[simp] theorem Ev.modDoor_freeCount (e : Ev) (d : Slot) (f : Door → Door) :
    (e.modDoor d f).freeCount = e.freeCount := rfl
@[simp] theorem Ev.modDoor_pending (e : Ev) (d : Slot) (f : Door → Door) :
    (e.modDoor d f).pending = e.pending := rfl
@[simp] theorem Ev.modDoor_reqs (e : Ev) (d : Slot) (f : Door → Door) :
    (e.modDoor d f).reqs = e.reqs := rfl

/-! ### modDoors -/

@[simp] theorem Ev.modDoors_powered (e : Ev) (f : Slot → Door → Door) :
    (e.modDoors f).powered = e.powered := by simp only [Ev.modDoors]
@[simp] theorem Ev.modDoors_uptime (e : Ev) (f : Slot → Door → Door) :
    (e.modDoors f).uptime = e.uptime := by simp only [Ev.modDoors]
@[simp] theorem Ev.modDoors_pins (e : Ev) (f : Slot → Door → Door) :
    (e.modDoors f).pins = e.pins := by simp only [Ev.modDoors]
@[simp] theorem Ev.modDoors_zones (e : Ev) (f : Slot → Door → Door) :
    (e.modDoors f).zones = e.zones := by simp only [Ev.modDoors]
@[simp] theorem Ev.modDoors_heel (e : Ev) (f : Slot → Door → Door) :
    (e.modDoors f).heel = e.heel := by simp only [Ev.modDoors]
@[simp] theorem Ev.modDoors_ind (e : Ev) (f : Slot → Door → Door) :
    (e.modDoors f).ind = e.ind := by simp only [Ev.modDoors]
@[simp] theorem Ev.modDoors_alarms (e : Ev) (f : Slot → Door → Door) :
    (e.modDoors f).alarms = e.alarms := by simp only [Ev.modDoors]
@[simp] theorem Ev.modDoors_branches (e : Ev) (f : Slot → Door → Door) :
    (e.modDoors f).branches = e.branches := by simp only [Ev.modDoors]
@[simp] theorem Ev.modDoors_trunk (e : Ev) (f : Slot → Door → Door) :
    (e.modDoors f).trunk = e.trunk := by simp only [Ev.modDoors]
@[simp] theorem Ev.modDoors_banks (e : Ev) (f : Slot → Door → Door) :
    (e.modDoors f).banks = e.banks := by simp only [Ev.modDoors]
@[simp] theorem Ev.modDoors_mgr (e : Ev) (f : Slot → Door → Door) :
    (e.modDoors f).mgr = e.mgr := by simp only [Ev.modDoors]
@[simp] theorem Ev.modDoors_store (e : Ev) (f : Slot → Door → Door) :
    (e.modDoors f).store = e.store := by simp only [Ev.modDoors]
@[simp] theorem Ev.modDoors_freeCount (e : Ev) (f : Slot → Door → Door) :
    (e.modDoors f).freeCount = e.freeCount := by simp only [Ev.modDoors]
@[simp] theorem Ev.modDoors_pending (e : Ev) (f : Slot → Door → Door) :
    (e.modDoors f).pending = e.pending := by simp only [Ev.modDoors]
@[simp] theorem Ev.modDoors_reqs (e : Ev) (f : Slot → Door → Door) :
    (e.modDoors f).reqs = e.reqs := by simp only [Ev.modDoors]

/-! ### modBranch -/

@[simp] theorem Ev.modBranch_powered (e : Ev) (b : BranchId) (f : Branch → Branch) :
    (e.modBranch b f).powered = e.powered := rfl
@[simp] theorem Ev.modBranch_uptime (e : Ev) (b : BranchId) (f : Branch → Branch) :
    (e.modBranch b f).uptime = e.uptime := rfl
@[simp] theorem Ev.modBranch_pins (e : Ev) (b : BranchId) (f : Branch → Branch) :
    (e.modBranch b f).pins = e.pins := rfl
@[simp] theorem Ev.modBranch_doors (e : Ev) (b : BranchId) (f : Branch → Branch) :
    (e.modBranch b f).doors = e.doors := rfl
@[simp] theorem Ev.modBranch_zones (e : Ev) (b : BranchId) (f : Branch → Branch) :
    (e.modBranch b f).zones = e.zones := rfl
@[simp] theorem Ev.modBranch_heel (e : Ev) (b : BranchId) (f : Branch → Branch) :
    (e.modBranch b f).heel = e.heel := rfl
@[simp] theorem Ev.modBranch_ind (e : Ev) (b : BranchId) (f : Branch → Branch) :
    (e.modBranch b f).ind = e.ind := rfl
@[simp] theorem Ev.modBranch_alarms (e : Ev) (b : BranchId) (f : Branch → Branch) :
    (e.modBranch b f).alarms = e.alarms := rfl
@[simp] theorem Ev.modBranch_trunk (e : Ev) (b : BranchId) (f : Branch → Branch) :
    (e.modBranch b f).trunk = e.trunk := rfl
@[simp] theorem Ev.modBranch_banks (e : Ev) (b : BranchId) (f : Branch → Branch) :
    (e.modBranch b f).banks = e.banks := rfl
@[simp] theorem Ev.modBranch_mgr (e : Ev) (b : BranchId) (f : Branch → Branch) :
    (e.modBranch b f).mgr = e.mgr := rfl
@[simp] theorem Ev.modBranch_store (e : Ev) (b : BranchId) (f : Branch → Branch) :
    (e.modBranch b f).store = e.store := rfl
@[simp] theorem Ev.modBranch_freeCount (e : Ev) (b : BranchId) (f : Branch → Branch) :
    (e.modBranch b f).freeCount = e.freeCount := rfl
@[simp] theorem Ev.modBranch_pending (e : Ev) (b : BranchId) (f : Branch → Branch) :
    (e.modBranch b f).pending = e.pending := rfl
@[simp] theorem Ev.modBranch_reqs (e : Ev) (b : BranchId) (f : Branch → Branch) :
    (e.modBranch b f).reqs = e.reqs := rfl

/-! ### modZone -/

@[simp] theorem Ev.modZone_powered (e : Ev) (z : ZoneId) (f : Zone → Zone) :
    (e.modZone z f).powered = e.powered := rfl
@[simp] theorem Ev.modZone_uptime (e : Ev) (z : ZoneId) (f : Zone → Zone) :
    (e.modZone z f).uptime = e.uptime := rfl
@[simp] theorem Ev.modZone_pins (e : Ev) (z : ZoneId) (f : Zone → Zone) :
    (e.modZone z f).pins = e.pins := rfl
@[simp] theorem Ev.modZone_doors (e : Ev) (z : ZoneId) (f : Zone → Zone) :
    (e.modZone z f).doors = e.doors := rfl
@[simp] theorem Ev.modZone_heel (e : Ev) (z : ZoneId) (f : Zone → Zone) :
    (e.modZone z f).heel = e.heel := rfl
@[simp] theorem Ev.modZone_ind (e : Ev) (z : ZoneId) (f : Zone → Zone) :
    (e.modZone z f).ind = e.ind := rfl
@[simp] theorem Ev.modZone_alarms (e : Ev) (z : ZoneId) (f : Zone → Zone) :
    (e.modZone z f).alarms = e.alarms := rfl
@[simp] theorem Ev.modZone_branches (e : Ev) (z : ZoneId) (f : Zone → Zone) :
    (e.modZone z f).branches = e.branches := rfl
@[simp] theorem Ev.modZone_trunk (e : Ev) (z : ZoneId) (f : Zone → Zone) :
    (e.modZone z f).trunk = e.trunk := rfl
@[simp] theorem Ev.modZone_banks (e : Ev) (z : ZoneId) (f : Zone → Zone) :
    (e.modZone z f).banks = e.banks := rfl
@[simp] theorem Ev.modZone_mgr (e : Ev) (z : ZoneId) (f : Zone → Zone) :
    (e.modZone z f).mgr = e.mgr := rfl
@[simp] theorem Ev.modZone_store (e : Ev) (z : ZoneId) (f : Zone → Zone) :
    (e.modZone z f).store = e.store := rfl
@[simp] theorem Ev.modZone_freeCount (e : Ev) (z : ZoneId) (f : Zone → Zone) :
    (e.modZone z f).freeCount = e.freeCount := rfl
@[simp] theorem Ev.modZone_pending (e : Ev) (z : ZoneId) (f : Zone → Zone) :
    (e.modZone z f).pending = e.pending := rfl
@[simp] theorem Ev.modZone_reqs (e : Ev) (z : ZoneId) (f : Zone → Zone) :
    (e.modZone z f).reqs = e.reqs := rfl

/-! ### push -/

@[simp] theorem Ev.push_powered (e : Ev) (r : AlarmReq) :
    (e.push r).powered = e.powered := rfl
@[simp] theorem Ev.push_uptime (e : Ev) (r : AlarmReq) :
    (e.push r).uptime = e.uptime := rfl
@[simp] theorem Ev.push_pins (e : Ev) (r : AlarmReq) :
    (e.push r).pins = e.pins := rfl
@[simp] theorem Ev.push_doors (e : Ev) (r : AlarmReq) :
    (e.push r).doors = e.doors := rfl
@[simp] theorem Ev.push_zones (e : Ev) (r : AlarmReq) :
    (e.push r).zones = e.zones := rfl
@[simp] theorem Ev.push_heel (e : Ev) (r : AlarmReq) :
    (e.push r).heel = e.heel := rfl
@[simp] theorem Ev.push_ind (e : Ev) (r : AlarmReq) :
    (e.push r).ind = e.ind := rfl
@[simp] theorem Ev.push_alarms (e : Ev) (r : AlarmReq) :
    (e.push r).alarms = e.alarms := rfl
@[simp] theorem Ev.push_branches (e : Ev) (r : AlarmReq) :
    (e.push r).branches = e.branches := rfl
@[simp] theorem Ev.push_trunk (e : Ev) (r : AlarmReq) :
    (e.push r).trunk = e.trunk := rfl
@[simp] theorem Ev.push_banks (e : Ev) (r : AlarmReq) :
    (e.push r).banks = e.banks := rfl
@[simp] theorem Ev.push_mgr (e : Ev) (r : AlarmReq) :
    (e.push r).mgr = e.mgr := rfl
@[simp] theorem Ev.push_store (e : Ev) (r : AlarmReq) :
    (e.push r).store = e.store := rfl
@[simp] theorem Ev.push_freeCount (e : Ev) (r : AlarmReq) :
    (e.push r).freeCount = e.freeCount := rfl
@[simp] theorem Ev.push_pending (e : Ev) (r : AlarmReq) :
    (e.push r).pending = e.pending := rfl

/-! ### setFlag -/

@[simp] theorem Ev.setFlag_powered (e : Ev) (f : EventFlag) :
    (e.setFlag f).powered = e.powered := rfl
@[simp] theorem Ev.setFlag_uptime (e : Ev) (f : EventFlag) :
    (e.setFlag f).uptime = e.uptime := rfl
@[simp] theorem Ev.setFlag_pins (e : Ev) (f : EventFlag) :
    (e.setFlag f).pins = e.pins := rfl
@[simp] theorem Ev.setFlag_doors (e : Ev) (f : EventFlag) :
    (e.setFlag f).doors = e.doors := rfl
@[simp] theorem Ev.setFlag_zones (e : Ev) (f : EventFlag) :
    (e.setFlag f).zones = e.zones := rfl
@[simp] theorem Ev.setFlag_heel (e : Ev) (f : EventFlag) :
    (e.setFlag f).heel = e.heel := rfl
@[simp] theorem Ev.setFlag_ind (e : Ev) (f : EventFlag) :
    (e.setFlag f).ind = e.ind := rfl
@[simp] theorem Ev.setFlag_alarms (e : Ev) (f : EventFlag) :
    (e.setFlag f).alarms = e.alarms := rfl
@[simp] theorem Ev.setFlag_branches (e : Ev) (f : EventFlag) :
    (e.setFlag f).branches = e.branches := rfl
@[simp] theorem Ev.setFlag_trunk (e : Ev) (f : EventFlag) :
    (e.setFlag f).trunk = e.trunk := rfl
@[simp] theorem Ev.setFlag_banks (e : Ev) (f : EventFlag) :
    (e.setFlag f).banks = e.banks := rfl
@[simp] theorem Ev.setFlag_store (e : Ev) (f : EventFlag) :
    (e.setFlag f).store = e.store := rfl
@[simp] theorem Ev.setFlag_freeCount (e : Ev) (f : EventFlag) :
    (e.setFlag f).freeCount = e.freeCount := rfl
@[simp] theorem Ev.setFlag_pending (e : Ev) (f : EventFlag) :
    (e.setFlag f).pending = e.pending := rfl
@[simp] theorem Ev.setFlag_reqs (e : Ev) (f : EventFlag) :
    (e.setFlag f).reqs = e.reqs := rfl

/-! ### clearEvents -/

@[simp] theorem Ev.clearEvents_powered (e : Ev) :
    (e.clearEvents).powered = e.powered := rfl
@[simp] theorem Ev.clearEvents_uptime (e : Ev) :
    (e.clearEvents).uptime = e.uptime := rfl
@[simp] theorem Ev.clearEvents_pins (e : Ev) :
    (e.clearEvents).pins = e.pins := rfl
@[simp] theorem Ev.clearEvents_doors (e : Ev) :
    (e.clearEvents).doors = e.doors := rfl
@[simp] theorem Ev.clearEvents_zones (e : Ev) :
    (e.clearEvents).zones = e.zones := rfl
@[simp] theorem Ev.clearEvents_heel (e : Ev) :
    (e.clearEvents).heel = e.heel := rfl
@[simp] theorem Ev.clearEvents_ind (e : Ev) :
    (e.clearEvents).ind = e.ind := rfl
@[simp] theorem Ev.clearEvents_alarms (e : Ev) :
    (e.clearEvents).alarms = e.alarms := rfl
@[simp] theorem Ev.clearEvents_branches (e : Ev) :
    (e.clearEvents).branches = e.branches := rfl
@[simp] theorem Ev.clearEvents_trunk (e : Ev) :
    (e.clearEvents).trunk = e.trunk := rfl
@[simp] theorem Ev.clearEvents_banks (e : Ev) :
    (e.clearEvents).banks = e.banks := rfl
@[simp] theorem Ev.clearEvents_store (e : Ev) :
    (e.clearEvents).store = e.store := rfl
@[simp] theorem Ev.clearEvents_freeCount (e : Ev) :
    (e.clearEvents).freeCount = e.freeCount := rfl
@[simp] theorem Ev.clearEvents_pending (e : Ev) :
    (e.clearEvents).pending = e.pending := rfl
@[simp] theorem Ev.clearEvents_reqs (e : Ev) :
    (e.clearEvents).reqs = e.reqs := rfl

/-! ### useFree -/

@[simp] theorem Ev.useFree_powered (e : Ev) :
    (e.useFree).powered = e.powered := rfl
@[simp] theorem Ev.useFree_uptime (e : Ev) :
    (e.useFree).uptime = e.uptime := rfl
@[simp] theorem Ev.useFree_pins (e : Ev) :
    (e.useFree).pins = e.pins := rfl
@[simp] theorem Ev.useFree_doors (e : Ev) :
    (e.useFree).doors = e.doors := rfl
@[simp] theorem Ev.useFree_zones (e : Ev) :
    (e.useFree).zones = e.zones := rfl
@[simp] theorem Ev.useFree_heel (e : Ev) :
    (e.useFree).heel = e.heel := rfl
@[simp] theorem Ev.useFree_ind (e : Ev) :
    (e.useFree).ind = e.ind := rfl
@[simp] theorem Ev.useFree_alarms (e : Ev) :
    (e.useFree).alarms = e.alarms := rfl
@[simp] theorem Ev.useFree_branches (e : Ev) :
    (e.useFree).branches = e.branches := rfl
@[simp] theorem Ev.useFree_trunk (e : Ev) :
    (e.useFree).trunk = e.trunk := rfl
@[simp] theorem Ev.useFree_banks (e : Ev) :
    (e.useFree).banks = e.banks := rfl
@[simp] theorem Ev.useFree_mgr (e : Ev) :
    (e.useFree).mgr = e.mgr := rfl
@[simp] theorem Ev.useFree_store (e : Ev) :
    (e.useFree).store = e.store := rfl
@[simp] theorem Ev.useFree_pending (e : Ev) :
    (e.useFree).pending = e.pending := rfl
@[simp] theorem Ev.useFree_reqs (e : Ev) :
    (e.useFree).reqs = e.reqs := rfl

/-! ### answer -/

@[simp] theorem Ev.answer_powered (e : Ev) (src : Station) (tag code : Byte) (a : Answer) :
    (e.answer src tag code a).powered = e.powered := rfl
@[simp] theorem Ev.answer_uptime (e : Ev) (src : Station) (tag code : Byte) (a : Answer) :
    (e.answer src tag code a).uptime = e.uptime := rfl
@[simp] theorem Ev.answer_pins (e : Ev) (src : Station) (tag code : Byte) (a : Answer) :
    (e.answer src tag code a).pins = e.pins := rfl
@[simp] theorem Ev.answer_doors (e : Ev) (src : Station) (tag code : Byte) (a : Answer) :
    (e.answer src tag code a).doors = e.doors := rfl
@[simp] theorem Ev.answer_zones (e : Ev) (src : Station) (tag code : Byte) (a : Answer) :
    (e.answer src tag code a).zones = e.zones := rfl
@[simp] theorem Ev.answer_heel (e : Ev) (src : Station) (tag code : Byte) (a : Answer) :
    (e.answer src tag code a).heel = e.heel := rfl
@[simp] theorem Ev.answer_ind (e : Ev) (src : Station) (tag code : Byte) (a : Answer) :
    (e.answer src tag code a).ind = e.ind := rfl
@[simp] theorem Ev.answer_alarms (e : Ev) (src : Station) (tag code : Byte) (a : Answer) :
    (e.answer src tag code a).alarms = e.alarms := rfl
@[simp] theorem Ev.answer_branches (e : Ev) (src : Station) (tag code : Byte) (a : Answer) :
    (e.answer src tag code a).branches = e.branches := rfl
@[simp] theorem Ev.answer_banks (e : Ev) (src : Station) (tag code : Byte) (a : Answer) :
    (e.answer src tag code a).banks = e.banks := rfl
@[simp] theorem Ev.answer_mgr (e : Ev) (src : Station) (tag code : Byte) (a : Answer) :
    (e.answer src tag code a).mgr = e.mgr := rfl
@[simp] theorem Ev.answer_store (e : Ev) (src : Station) (tag code : Byte) (a : Answer) :
    (e.answer src tag code a).store = e.store := rfl
@[simp] theorem Ev.answer_freeCount (e : Ev) (src : Station) (tag code : Byte) (a : Answer) :
    (e.answer src tag code a).freeCount = e.freeCount := rfl
@[simp] theorem Ev.answer_pending (e : Ev) (src : Station) (tag code : Byte) (a : Answer) :
    (e.answer src tag code a).pending = e.pending := rfl
@[simp] theorem Ev.answer_reqs (e : Ev) (src : Station) (tag code : Byte) (a : Answer) :
    (e.answer src tag code a).reqs = e.reqs := rfl

/-! ### reply -/

@[simp] theorem Ev.reply_powered (e : Ev) (src : Station) (tag code : Byte) (r : Reply) :
    (e.reply src tag code r).powered = e.powered := rfl
@[simp] theorem Ev.reply_uptime (e : Ev) (src : Station) (tag code : Byte) (r : Reply) :
    (e.reply src tag code r).uptime = e.uptime := rfl
@[simp] theorem Ev.reply_pins (e : Ev) (src : Station) (tag code : Byte) (r : Reply) :
    (e.reply src tag code r).pins = e.pins := rfl
@[simp] theorem Ev.reply_doors (e : Ev) (src : Station) (tag code : Byte) (r : Reply) :
    (e.reply src tag code r).doors = e.doors := rfl
@[simp] theorem Ev.reply_zones (e : Ev) (src : Station) (tag code : Byte) (r : Reply) :
    (e.reply src tag code r).zones = e.zones := rfl
@[simp] theorem Ev.reply_heel (e : Ev) (src : Station) (tag code : Byte) (r : Reply) :
    (e.reply src tag code r).heel = e.heel := rfl
@[simp] theorem Ev.reply_ind (e : Ev) (src : Station) (tag code : Byte) (r : Reply) :
    (e.reply src tag code r).ind = e.ind := rfl
@[simp] theorem Ev.reply_alarms (e : Ev) (src : Station) (tag code : Byte) (r : Reply) :
    (e.reply src tag code r).alarms = e.alarms := rfl
@[simp] theorem Ev.reply_branches (e : Ev) (src : Station) (tag code : Byte) (r : Reply) :
    (e.reply src tag code r).branches = e.branches := rfl
@[simp] theorem Ev.reply_banks (e : Ev) (src : Station) (tag code : Byte) (r : Reply) :
    (e.reply src tag code r).banks = e.banks := rfl
@[simp] theorem Ev.reply_store (e : Ev) (src : Station) (tag code : Byte) (r : Reply) :
    (e.reply src tag code r).store = e.store := rfl
@[simp] theorem Ev.reply_freeCount (e : Ev) (src : Station) (tag code : Byte) (r : Reply) :
    (e.reply src tag code r).freeCount = e.freeCount := rfl
@[simp] theorem Ev.reply_pending (e : Ev) (src : Station) (tag code : Byte) (r : Reply) :
    (e.reply src tag code r).pending = e.pending := rfl
@[simp] theorem Ev.reply_reqs (e : Ev) (src : Station) (tag code : Byte) (r : Reply) :
    (e.reply src tag code r).reqs = e.reqs := rfl

/-! ### partSent -/

@[simp] theorem Ev.partSent_powered (e : Ev) :
    (e.partSent).powered = e.powered := rfl
@[simp] theorem Ev.partSent_uptime (e : Ev) :
    (e.partSent).uptime = e.uptime := rfl
@[simp] theorem Ev.partSent_pins (e : Ev) :
    (e.partSent).pins = e.pins := rfl
@[simp] theorem Ev.partSent_doors (e : Ev) :
    (e.partSent).doors = e.doors := rfl
@[simp] theorem Ev.partSent_zones (e : Ev) :
    (e.partSent).zones = e.zones := rfl
@[simp] theorem Ev.partSent_heel (e : Ev) :
    (e.partSent).heel = e.heel := rfl
@[simp] theorem Ev.partSent_alarms (e : Ev) :
    (e.partSent).alarms = e.alarms := rfl
@[simp] theorem Ev.partSent_branches (e : Ev) :
    (e.partSent).branches = e.branches := rfl
@[simp] theorem Ev.partSent_trunk (e : Ev) :
    (e.partSent).trunk = e.trunk := rfl
@[simp] theorem Ev.partSent_banks (e : Ev) :
    (e.partSent).banks = e.banks := rfl
@[simp] theorem Ev.partSent_mgr (e : Ev) :
    (e.partSent).mgr = e.mgr := rfl
@[simp] theorem Ev.partSent_store (e : Ev) :
    (e.partSent).store = e.store := rfl
@[simp] theorem Ev.partSent_freeCount (e : Ev) :
    (e.partSent).freeCount = e.freeCount := rfl
@[simp] theorem Ev.partSent_pending (e : Ev) :
    (e.partSent).pending = e.pending := rfl
@[simp] theorem Ev.partSent_reqs (e : Ev) :
    (e.partSent).reqs = e.reqs := rfl

/-! ### begin -/

@[simp] theorem State.begin_powered (s : State) :
    (s.begin.toState).powered = s.powered := rfl
@[simp] theorem State.begin_uptime (s : State) :
    (s.begin.toState).uptime = s.uptime := rfl
@[simp] theorem State.begin_pins (s : State) :
    (s.begin.toState).pins = s.pins := rfl
@[simp] theorem State.begin_doors (s : State) :
    (s.begin.toState).doors = s.doors := rfl
@[simp] theorem State.begin_zones (s : State) :
    (s.begin.toState).zones = s.zones := rfl
@[simp] theorem State.begin_heel (s : State) :
    (s.begin.toState).heel = s.heel := rfl
@[simp] theorem State.begin_ind (s : State) :
    (s.begin.toState).ind = s.ind := rfl
@[simp] theorem State.begin_alarms (s : State) :
    (s.begin.toState).alarms = s.alarms := rfl
@[simp] theorem State.begin_branches (s : State) :
    (s.begin.toState).branches = s.branches := rfl
@[simp] theorem State.begin_trunk (s : State) :
    (s.begin.toState).trunk = s.trunk := rfl
@[simp] theorem State.begin_banks (s : State) :
    (s.begin.toState).banks = s.banks := rfl
@[simp] theorem State.begin_mgr (s : State) :
    (s.begin.toState).mgr = s.mgr := rfl
@[simp] theorem State.begin_store (s : State) :
    (s.begin.toState).store = s.store := rfl
@[simp] theorem State.begin_freeCount (s : State) :
    (s.begin.toState).freeCount = s.freeCount := rfl
@[simp] theorem State.begin_pending (s : State) :
    (s.begin.toState).pending = s.pending := rfl

/-! ### withAlarms -/

@[simp] theorem State.withAlarms_powered (s : State) (a : Alarms) :
    (s.withAlarms a).powered = s.powered := rfl
@[simp] theorem State.withAlarms_uptime (s : State) (a : Alarms) :
    (s.withAlarms a).uptime = s.uptime := rfl
@[simp] theorem State.withAlarms_pins (s : State) (a : Alarms) :
    (s.withAlarms a).pins = s.pins := rfl
@[simp] theorem State.withAlarms_doors (s : State) (a : Alarms) :
    (s.withAlarms a).doors = s.doors := rfl
@[simp] theorem State.withAlarms_zones (s : State) (a : Alarms) :
    (s.withAlarms a).zones = s.zones := rfl
@[simp] theorem State.withAlarms_heel (s : State) (a : Alarms) :
    (s.withAlarms a).heel = s.heel := rfl
@[simp] theorem State.withAlarms_ind (s : State) (a : Alarms) :
    (s.withAlarms a).ind = s.ind := rfl
@[simp] theorem State.withAlarms_branches (s : State) (a : Alarms) :
    (s.withAlarms a).branches = s.branches := rfl
@[simp] theorem State.withAlarms_trunk (s : State) (a : Alarms) :
    (s.withAlarms a).trunk = s.trunk := rfl
@[simp] theorem State.withAlarms_banks (s : State) (a : Alarms) :
    (s.withAlarms a).banks = s.banks := rfl
@[simp] theorem State.withAlarms_mgr (s : State) (a : Alarms) :
    (s.withAlarms a).mgr = s.mgr := rfl
@[simp] theorem State.withAlarms_store (s : State) (a : Alarms) :
    (s.withAlarms a).store = s.store := rfl
@[simp] theorem State.withAlarms_freeCount (s : State) (a : Alarms) :
    (s.withAlarms a).freeCount = s.freeCount := rfl
@[simp] theorem State.withAlarms_pending (s : State) (a : Alarms) :
    (s.withAlarms a).pending = s.pending := rfl

/-! ### noticeEntry -/

@[simp] theorem State.noticeEntry_powered (s : State) (c : Change) (x : AlarmEntry) :
    (s.noticeEntry c x).powered = s.powered := rfl
@[simp] theorem State.noticeEntry_uptime (s : State) (c : Change) (x : AlarmEntry) :
    (s.noticeEntry c x).uptime = s.uptime := rfl
@[simp] theorem State.noticeEntry_pins (s : State) (c : Change) (x : AlarmEntry) :
    (s.noticeEntry c x).pins = s.pins := rfl
@[simp] theorem State.noticeEntry_doors (s : State) (c : Change) (x : AlarmEntry) :
    (s.noticeEntry c x).doors = s.doors := rfl
@[simp] theorem State.noticeEntry_zones (s : State) (c : Change) (x : AlarmEntry) :
    (s.noticeEntry c x).zones = s.zones := rfl
@[simp] theorem State.noticeEntry_heel (s : State) (c : Change) (x : AlarmEntry) :
    (s.noticeEntry c x).heel = s.heel := rfl
@[simp] theorem State.noticeEntry_ind (s : State) (c : Change) (x : AlarmEntry) :
    (s.noticeEntry c x).ind = s.ind := rfl
@[simp] theorem State.noticeEntry_alarms (s : State) (c : Change) (x : AlarmEntry) :
    (s.noticeEntry c x).alarms = s.alarms := rfl
@[simp] theorem State.noticeEntry_branches (s : State) (c : Change) (x : AlarmEntry) :
    (s.noticeEntry c x).branches = s.branches := rfl
@[simp] theorem State.noticeEntry_banks (s : State) (c : Change) (x : AlarmEntry) :
    (s.noticeEntry c x).banks = s.banks := rfl
@[simp] theorem State.noticeEntry_mgr (s : State) (c : Change) (x : AlarmEntry) :
    (s.noticeEntry c x).mgr = s.mgr := rfl
@[simp] theorem State.noticeEntry_store (s : State) (c : Change) (x : AlarmEntry) :
    (s.noticeEntry c x).store = s.store := rfl
@[simp] theorem State.noticeEntry_freeCount (s : State) (c : Change) (x : AlarmEntry) :
    (s.noticeEntry c x).freeCount = s.freeCount := rfl
@[simp] theorem State.noticeEntry_pending (s : State) (c : Change) (x : AlarmEntry) :
    (s.noticeEntry c x).pending = s.pending := rfl

/-! ### noticeMark -/

@[simp] theorem State.noticeMark_powered (s : State) (c : Change) (m : Mark) :
    (s.noticeMark c m).powered = s.powered := rfl
@[simp] theorem State.noticeMark_uptime (s : State) (c : Change) (m : Mark) :
    (s.noticeMark c m).uptime = s.uptime := rfl
@[simp] theorem State.noticeMark_pins (s : State) (c : Change) (m : Mark) :
    (s.noticeMark c m).pins = s.pins := rfl
@[simp] theorem State.noticeMark_doors (s : State) (c : Change) (m : Mark) :
    (s.noticeMark c m).doors = s.doors := rfl
@[simp] theorem State.noticeMark_zones (s : State) (c : Change) (m : Mark) :
    (s.noticeMark c m).zones = s.zones := rfl
@[simp] theorem State.noticeMark_heel (s : State) (c : Change) (m : Mark) :
    (s.noticeMark c m).heel = s.heel := rfl
@[simp] theorem State.noticeMark_ind (s : State) (c : Change) (m : Mark) :
    (s.noticeMark c m).ind = s.ind := rfl
@[simp] theorem State.noticeMark_alarms (s : State) (c : Change) (m : Mark) :
    (s.noticeMark c m).alarms = s.alarms := rfl
@[simp] theorem State.noticeMark_branches (s : State) (c : Change) (m : Mark) :
    (s.noticeMark c m).branches = s.branches := rfl
@[simp] theorem State.noticeMark_banks (s : State) (c : Change) (m : Mark) :
    (s.noticeMark c m).banks = s.banks := rfl
@[simp] theorem State.noticeMark_mgr (s : State) (c : Change) (m : Mark) :
    (s.noticeMark c m).mgr = s.mgr := rfl
@[simp] theorem State.noticeMark_store (s : State) (c : Change) (m : Mark) :
    (s.noticeMark c m).store = s.store := rfl
@[simp] theorem State.noticeMark_freeCount (s : State) (c : Change) (m : Mark) :
    (s.noticeMark c m).freeCount = s.freeCount := rfl
@[simp] theorem State.noticeMark_pending (s : State) (c : Change) (m : Mark) :
    (s.noticeMark c m).pending = s.pending := rfl

/-! ### rxDiscard -/

@[simp] theorem State.rxDiscard_powered (s : State) :
    (s.rxDiscard).powered = s.powered := rfl
@[simp] theorem State.rxDiscard_uptime (s : State) :
    (s.rxDiscard).uptime = s.uptime := rfl
@[simp] theorem State.rxDiscard_pins (s : State) :
    (s.rxDiscard).pins = s.pins := rfl
@[simp] theorem State.rxDiscard_doors (s : State) :
    (s.rxDiscard).doors = s.doors := rfl
@[simp] theorem State.rxDiscard_zones (s : State) :
    (s.rxDiscard).zones = s.zones := rfl
@[simp] theorem State.rxDiscard_heel (s : State) :
    (s.rxDiscard).heel = s.heel := rfl
@[simp] theorem State.rxDiscard_ind (s : State) :
    (s.rxDiscard).ind = s.ind := rfl
@[simp] theorem State.rxDiscard_alarms (s : State) :
    (s.rxDiscard).alarms = s.alarms := rfl
@[simp] theorem State.rxDiscard_branches (s : State) :
    (s.rxDiscard).branches = s.branches := rfl
@[simp] theorem State.rxDiscard_trunk (s : State) :
    (s.rxDiscard).trunk = s.trunk := rfl
@[simp] theorem State.rxDiscard_banks (s : State) :
    (s.rxDiscard).banks = s.banks := rfl
@[simp] theorem State.rxDiscard_store (s : State) :
    (s.rxDiscard).store = s.store := rfl
@[simp] theorem State.rxDiscard_freeCount (s : State) :
    (s.rxDiscard).freeCount = s.freeCount := rfl
@[simp] theorem State.rxDiscard_pending (s : State) :
    (s.rxDiscard).pending = s.pending := rfl

/-! ### setLine -/

@[simp] theorem State.setLine_powered (s : State) (b : BranchId) (low : Bool) :
    (s.setLine b low).powered = s.powered := rfl
@[simp] theorem State.setLine_uptime (s : State) (b : BranchId) (low : Bool) :
    (s.setLine b low).uptime = s.uptime := rfl
@[simp] theorem State.setLine_doors (s : State) (b : BranchId) (low : Bool) :
    (s.setLine b low).doors = s.doors := rfl
@[simp] theorem State.setLine_zones (s : State) (b : BranchId) (low : Bool) :
    (s.setLine b low).zones = s.zones := rfl
@[simp] theorem State.setLine_heel (s : State) (b : BranchId) (low : Bool) :
    (s.setLine b low).heel = s.heel := rfl
@[simp] theorem State.setLine_ind (s : State) (b : BranchId) (low : Bool) :
    (s.setLine b low).ind = s.ind := rfl
@[simp] theorem State.setLine_alarms (s : State) (b : BranchId) (low : Bool) :
    (s.setLine b low).alarms = s.alarms := rfl
@[simp] theorem State.setLine_branches (s : State) (b : BranchId) (low : Bool) :
    (s.setLine b low).branches = s.branches := rfl
@[simp] theorem State.setLine_trunk (s : State) (b : BranchId) (low : Bool) :
    (s.setLine b low).trunk = s.trunk := rfl
@[simp] theorem State.setLine_banks (s : State) (b : BranchId) (low : Bool) :
    (s.setLine b low).banks = s.banks := rfl
@[simp] theorem State.setLine_mgr (s : State) (b : BranchId) (low : Bool) :
    (s.setLine b low).mgr = s.mgr := rfl
@[simp] theorem State.setLine_store (s : State) (b : BranchId) (low : Bool) :
    (s.setLine b low).store = s.store := rfl
@[simp] theorem State.setLine_freeCount (s : State) (b : BranchId) (low : Bool) :
    (s.setLine b low).freeCount = s.freeCount := rfl
@[simp] theorem State.setLine_pending (s : State) (b : BranchId) (low : Bool) :
    (s.setLine b low).pending = s.pending := rfl

/-! ### endStore -/

@[simp] theorem State.endStore_powered (s : State) (id : BankId) (v : NvImage) :
    (s.endStore id v).powered = s.powered := rfl
@[simp] theorem State.endStore_uptime (s : State) (id : BankId) (v : NvImage) :
    (s.endStore id v).uptime = s.uptime := rfl
@[simp] theorem State.endStore_pins (s : State) (id : BankId) (v : NvImage) :
    (s.endStore id v).pins = s.pins := rfl
@[simp] theorem State.endStore_doors (s : State) (id : BankId) (v : NvImage) :
    (s.endStore id v).doors = s.doors := rfl
@[simp] theorem State.endStore_zones (s : State) (id : BankId) (v : NvImage) :
    (s.endStore id v).zones = s.zones := rfl
@[simp] theorem State.endStore_heel (s : State) (id : BankId) (v : NvImage) :
    (s.endStore id v).heel = s.heel := rfl
@[simp] theorem State.endStore_ind (s : State) (id : BankId) (v : NvImage) :
    (s.endStore id v).ind = s.ind := rfl
@[simp] theorem State.endStore_alarms (s : State) (id : BankId) (v : NvImage) :
    (s.endStore id v).alarms = s.alarms := rfl
@[simp] theorem State.endStore_branches (s : State) (id : BankId) (v : NvImage) :
    (s.endStore id v).branches = s.branches := rfl
@[simp] theorem State.endStore_trunk (s : State) (id : BankId) (v : NvImage) :
    (s.endStore id v).trunk = s.trunk := rfl
@[simp] theorem State.endStore_banks (s : State) (id : BankId) (v : NvImage) :
    (s.endStore id v).banks = s.banks := rfl
@[simp] theorem State.endStore_freeCount (s : State) (id : BankId) (v : NvImage) :
    (s.endStore id v).freeCount = s.freeCount := rfl
@[simp] theorem State.endStore_pending (s : State) (id : BankId) (v : NvImage) :
    (s.endStore id v).pending = s.pending := rfl

/-! ### stopSending -/

@[simp] theorem State.stopSending_powered (s : State) :
    (s.stopSending).powered = s.powered := rfl
@[simp] theorem State.stopSending_uptime (s : State) :
    (s.stopSending).uptime = s.uptime := rfl
@[simp] theorem State.stopSending_pins (s : State) :
    (s.stopSending).pins = s.pins := rfl
@[simp] theorem State.stopSending_doors (s : State) :
    (s.stopSending).doors = s.doors := rfl
@[simp] theorem State.stopSending_zones (s : State) :
    (s.stopSending).zones = s.zones := rfl
@[simp] theorem State.stopSending_heel (s : State) :
    (s.stopSending).heel = s.heel := rfl
@[simp] theorem State.stopSending_ind (s : State) :
    (s.stopSending).ind = s.ind := rfl
@[simp] theorem State.stopSending_alarms (s : State) :
    (s.stopSending).alarms = s.alarms := rfl
@[simp] theorem State.stopSending_branches (s : State) :
    (s.stopSending).branches = s.branches := rfl
@[simp] theorem State.stopSending_banks (s : State) :
    (s.stopSending).banks = s.banks := rfl
@[simp] theorem State.stopSending_mgr (s : State) :
    (s.stopSending).mgr = s.mgr := rfl
@[simp] theorem State.stopSending_store (s : State) :
    (s.stopSending).store = s.store := rfl
@[simp] theorem State.stopSending_freeCount (s : State) :
    (s.stopSending).freeCount = s.freeCount := rfl
@[simp] theorem State.stopSending_pending (s : State) :
    (s.stopSending).pending = s.pending := rfl

/-! ### freeze -/

@[simp] theorem State.freeze_powered (s : State) :
    (s.freeze).powered = s.powered := rfl
@[simp] theorem State.freeze_uptime (s : State) :
    (s.freeze).uptime = s.uptime := rfl
@[simp] theorem State.freeze_pins (s : State) :
    (s.freeze).pins = s.pins := rfl
@[simp] theorem State.freeze_doors (s : State) :
    (s.freeze).doors = s.doors := rfl
@[simp] theorem State.freeze_zones (s : State) :
    (s.freeze).zones = s.zones := rfl
@[simp] theorem State.freeze_heel (s : State) :
    (s.freeze).heel = s.heel := rfl
@[simp] theorem State.freeze_alarms (s : State) :
    (s.freeze).alarms = s.alarms := rfl
@[simp] theorem State.freeze_branches (s : State) :
    (s.freeze).branches = s.branches := rfl
@[simp] theorem State.freeze_banks (s : State) :
    (s.freeze).banks = s.banks := rfl
@[simp] theorem State.freeze_mgr (s : State) :
    (s.freeze).mgr = s.mgr := rfl
@[simp] theorem State.freeze_store (s : State) :
    (s.freeze).store = s.store := rfl
@[simp] theorem State.freeze_freeCount (s : State) :
    (s.freeze).freeCount = s.freeCount := rfl
@[simp] theorem State.freeze_pending (s : State) :
    (s.freeze).pending = s.pending := rfl

/-! ### releaseSnapshot -/

@[simp] theorem State.releaseSnapshot_powered (s : State) :
    (s.releaseSnapshot).powered = s.powered := rfl
@[simp] theorem State.releaseSnapshot_uptime (s : State) :
    (s.releaseSnapshot).uptime = s.uptime := rfl
@[simp] theorem State.releaseSnapshot_pins (s : State) :
    (s.releaseSnapshot).pins = s.pins := rfl
@[simp] theorem State.releaseSnapshot_doors (s : State) :
    (s.releaseSnapshot).doors = s.doors := rfl
@[simp] theorem State.releaseSnapshot_zones (s : State) :
    (s.releaseSnapshot).zones = s.zones := rfl
@[simp] theorem State.releaseSnapshot_heel (s : State) :
    (s.releaseSnapshot).heel = s.heel := rfl
@[simp] theorem State.releaseSnapshot_ind (s : State) :
    (s.releaseSnapshot).ind = s.ind := rfl
@[simp] theorem State.releaseSnapshot_alarms (s : State) :
    (s.releaseSnapshot).alarms = s.alarms := rfl
@[simp] theorem State.releaseSnapshot_branches (s : State) :
    (s.releaseSnapshot).branches = s.branches := rfl
@[simp] theorem State.releaseSnapshot_trunk (s : State) :
    (s.releaseSnapshot).trunk = s.trunk := rfl
@[simp] theorem State.releaseSnapshot_banks (s : State) :
    (s.releaseSnapshot).banks = s.banks := rfl
@[simp] theorem State.releaseSnapshot_store (s : State) :
    (s.releaseSnapshot).store = s.store := rfl
@[simp] theorem State.releaseSnapshot_freeCount (s : State) :
    (s.releaseSnapshot).freeCount = s.freeCount := rfl
@[simp] theorem State.releaseSnapshot_pending (s : State) :
    (s.releaseSnapshot).pending = s.pending := rfl

/-! ### advance -/

@[simp] theorem State.advance_powered (s : State) :
    (s.advance).powered = s.powered := rfl
@[simp] theorem State.advance_pins (s : State) :
    (s.advance).pins = s.pins := rfl
@[simp] theorem State.advance_doors (s : State) :
    (s.advance).doors = s.doors := rfl
@[simp] theorem State.advance_zones (s : State) :
    (s.advance).zones = s.zones := rfl
@[simp] theorem State.advance_heel (s : State) :
    (s.advance).heel = s.heel := rfl
@[simp] theorem State.advance_ind (s : State) :
    (s.advance).ind = s.ind := rfl
@[simp] theorem State.advance_alarms (s : State) :
    (s.advance).alarms = s.alarms := rfl
@[simp] theorem State.advance_branches (s : State) :
    (s.advance).branches = s.branches := rfl
@[simp] theorem State.advance_trunk (s : State) :
    (s.advance).trunk = s.trunk := rfl
@[simp] theorem State.advance_banks (s : State) :
    (s.advance).banks = s.banks := rfl
@[simp] theorem State.advance_mgr (s : State) :
    (s.advance).mgr = s.mgr := rfl
@[simp] theorem State.advance_freeCount (s : State) :
    (s.advance).freeCount = s.freeCount := rfl
@[simp] theorem State.advance_pending (s : State) :
    (s.advance).pending = s.pending := rfl

/-! ### What the updates write -/

@[simp] theorem State.begin_reqs (s : State) : s.begin.reqs = [] := rfl
@[simp] theorem Ev.push_reqs (e : Ev) (r : AlarmReq) : (e.push r).reqs = e.reqs ++ [r] := rfl
@[simp] theorem Ev.useFree_freeCount (e : Ev) : e.useFree.freeCount = e.freeCount + 1 := rfl
@[simp] theorem Ev.clearEvents_mgr (e : Ev) : e.clearEvents.mgr = { e.mgr with events := 0 } := rfl
@[simp] theorem Ev.setFlag_mgr (e : Ev) (f : EventFlag) : (e.setFlag f).mgr = e.mgr.setFlag f := rfl
@[simp] theorem State.withAlarms_alarms (s : State) (a : Alarms) : (s.withAlarms a).alarms = a := rfl
@[simp] theorem State.advance_uptime (s : State) : s.advance.uptime = s.uptime + 1 := rfl
@[simp] theorem Mgr.setFlag_lastRequest (m : Mgr) (f : EventFlag) : (m.setFlag f).lastRequest = m.lastRequest := rfl
@[simp] theorem Mgr.setFlag_snapshot (m : Mgr) (f : EventFlag) : (m.setFlag f).snapshot = m.snapshot := rfl
@[simp] theorem Mgr.setFlag_snapshotNumber (m : Mgr) (f : EventFlag) :
    (m.setFlag f).snapshotNumber = m.snapshotNumber := rfl

/-- The changed door record. -/
@[simp] theorem Ev.modDoor_same (e : Ev) (d : Slot) (f : Door → Door) :
    (e.modDoor d f).doors[d] = f e.doors[d] := by simp [Ev.modDoor]

/-- Every other door record. -/
theorem Ev.modDoor_other (e : Ev) (d x : Slot) (f : Door → Door) (h : d ≠ x) :
    (e.modDoor d f).doors[x] = e.doors[x] := by
  have h' : (d : Nat) ≠ x := fun c => h (Fin.ext c)
  simp [Ev.modDoor, Vector.getElem_set_ne, h']

/-- The door records after a change of all of them. -/
@[simp] theorem Ev.modDoors_doors (e : Ev) (f : Slot → Door → Door) (d : Slot) :
    (e.modDoors f).doors[d] = f d e.doors[d] := by simp [Ev.modDoors]

/-- The changed branch. -/
@[simp] theorem Ev.modBranch_same (e : Ev) (b : BranchId) (f : Branch → Branch) :
    (e.modBranch b f).branches[b] = f e.branches[b] := by simp [Ev.modBranch]

/-- Every other branch. -/
theorem Ev.modBranch_other (e : Ev) (b x : BranchId) (f : Branch → Branch) (h : b ≠ x) :
    (e.modBranch b f).branches[x] = e.branches[x] := by
  have h' : (b : Nat) ≠ x := fun c => h (Fin.ext c)
  simp [Ev.modBranch, Vector.getElem_set_ne, h']

/-- The changed zone record. -/
@[simp] theorem Ev.modZone_same (e : Ev) (z : ZoneId) (f : Zone → Zone) :
    (e.modZone z f).zones[z] = f e.zones[z] := by simp [Ev.modZone]

/-- Every other zone record. -/
theorem Ev.modZone_other (e : Ev) (z x : ZoneId) (f : Zone → Zone) (h : z ≠ x) :
    (e.modZone z f).zones[x] = e.zones[x] := by
  have h' : (z : Nat) ≠ x := fun c => h (Fin.ext c)
  simp [Ev.modZone, Vector.getElem_set_ne, h']

end Sys2Proof.Machine
end

