-- ==== Sys2Proof/Laws/Alarm.lean ====
section
/-! SUPPORT. What taking the alarm requests of an event can do: without a removal they are taken one after the
other, and room that they free is filled once. -/

namespace Sys2Proof.Machine

open Sys2Proof

@[simp] theorem State.takeReqs_nil (s : State) (freed : Bool) : s.takeReqs freed [] = s := rfl

@[simp] theorem State.laterRemoves_nil (s : State) : s.laterRemoves [] = false := rfl

/-- Without a pending mark nothing is filled. -/
theorem State.fill_of_no_mark (s : State) (h : s.alarms.marks = []) : s.fill = s := by
  simp [State.fill, h, State.fillFrom]

/-- Requests that remove nothing are taken one after the other, and nothing is filled. -/
theorem State.takeReqs_of_no_removal (s : State) (rs : List AlarmReq) (h : s.laterRemoves rs = false) :
    s.takeReqs false rs = rs.foldl State.takeReq s := by
  induction rs generalizing s with
  | nil => rfl
  | cons r rs ih =>
    simp only [State.laterRemoves, Bool.or_eq_false_iff] at h
    simp only [State.takeReqs, Bool.false_or, h.1.2, Bool.false_and, Bool.false_eq_true, if_false,
      List.foldl_cons]
    exact ih _ h.2

/-- One request alone: it is taken, and if it removes an entry the room is filled. -/
theorem State.takeReqs_one (s : State) (r : AlarmReq) :
    s.takeReqs false [r] = if s.reqRemoves r then (s.takeReq r).fill else s.takeReq r := by
  simp [State.takeReqs]

/-- Once filled, the rest of the event's requests are taken without another filling. -/
theorem State.takeReqs_filled (s : State) (freed : Bool) (r : AlarmReq) (rs : List AlarmReq)
    (hr : (freed || s.reqRemoves r) = true) (h : (s.takeReq r).fill.laterRemoves rs = false) :
    s.takeReqs freed (r :: rs) = rs.foldl State.takeReq (s.takeReq r).fill := by
  rw [← State.takeReqs_of_no_removal _ _ h]
  simp [State.takeReqs, hr, h]

end Sys2Proof.Machine
end

