-- ==== Sys2Proof/Laws/Frame.lean ====
section
/-! SUPPORT. The frame of the operations on doors and branches: what none of them touches, as one value that
each of them keeps. -/

namespace Sys2Proof.Machine

open Sys2Proof

/-- The same branch, but for what `f` changes: its line is kept. -/
abbrev Branch.KeepsLine (f : Branch → Branch) : Prop := ∀ r, (f r).latch = r.latch ∧ (f r).sense = r.sense

/-- A fold of steps that each keep a value keeps it. -/
theorem foldl_keeps {α β γ : Type} (g : β → γ) (f : β → α → β) (h : ∀ b a, g (f b a) = g b) (l : List α)
    (b : β) : g (l.foldl f b) = g b := by
  induction l generalizing b with
  | nil => rfl
  | cons a l ih => rw [List.foldl_cons, ih, h]

/-! ### Primitive operations -/

@[simp] theorem Ev.modDoor_outer (e : Ev) (d : Slot) (f : Door → Door) : (e.modDoor d f).outer = e.outer := rfl
@[simp] theorem Ev.modDoors_outer (e : Ev) (f : Slot → Door → Door) : (e.modDoors f).outer = e.outer := by
  simp only [Ev.modDoors, State.outer]
@[simp] theorem Ev.push_outer (e : Ev) (r : AlarmReq) : (e.push r).outer = e.outer := rfl
@[simp] theorem Ev.setFlag_outer (e : Ev) (f : EventFlag) : (e.setFlag f).outer = e.outer := rfl
@[simp] theorem State.begin_outer (s : State) : s.begin.outer = s.outer := rfl
@[simp] theorem Ev.partSent_outer (e : Ev) : e.partSent.outer = e.outer := rfl

theorem Ev.modBranch_outer (e : Ev) (b : BranchId) (f : Branch → Branch) (h : Branch.KeepsLine f) :
    (e.modBranch b f).outer = e.outer := by
  have hl : (e.modBranch b f).branches.map (fun r => (r.latch, r.sense))
      = e.branches.map fun r => (r.latch, r.sense) := by
    apply Vector.ext
    intro i hi
    simp only [Vector.getElem_map, Ev.modBranch, Vector.getElem_set]
    split
    · next hb => subst hb; simp [(h _).1, (h _).2]
    · rfl
  simp [State.outer, hl]

/-! ### Conditions, slots, phases -/

@[simp] theorem Ev.enterEnd_outer (e : Ev) (d : Slot) (k : AlarmKind) (dir : Dir) :
    (e.enterEnd d k dir).outer = e.outer := rfl

@[simp] theorem Ev.enterLevel_outer (e : Ev) (d : Slot) (k : AlarmKind) :
    (e.enterLevel d k).outer = e.outer := by
  unfold Ev.enterLevel; split <;> simp

@[simp] theorem Ev.dropCond_outer (e : Ev) (d : Slot) (k : AlarmKind) : (e.dropCond d k).outer = e.outer := by
  unfold Ev.dropCond; split <;> simp

@[simp] theorem Ev.dropEnds_outer (e : Ev) (d : Slot) (dir : Dir) : (e.dropEnds d dir).outer = e.outer := by
  unfold Ev.dropEnds
  exact foldl_keeps (fun e : Ev => e.outer) _ (fun e k => by split <;> simp) _ _

@[simp] theorem Ev.place_outer (e : Ev) (d : Slot) (c : Cmd) : (e.place d c).outer = e.outer := by
  unfold Ev.place; split <;> simp

@[simp] theorem Ev.toPhase_outer (e : Ev) (d : Slot) (p : Phase) : (e.toPhase d p).outer = e.outer := rfl
@[simp] theorem Ev.zeroRetry_outer (e : Ev) (d : Slot) : (e.zeroRetry d).outer = e.outer := rfl
@[simp] theorem Ev.dropEntry_outer (e : Ev) (d : Slot) (p : Phase) : (e.dropEntry d p).outer = e.outer := rfl
@[simp] theorem Ev.dropMove_outer (e : Ev) (d : Slot) (p : Phase) : (e.dropMove d p).outer = e.outer := rfl

@[simp] theorem Ev.endHalted_outer (e : Ev) (d : Slot) : (e.endHalted d).outer = e.outer := by
  simp [Ev.endHalted]

/-! ### Enrollment -/

@[simp] theorem Ev.takeForeign_outer (e : Ev) (b : BranchId) (f : Foreign) :
    (e.takeForeign b f).outer = e.outer := by
  unfold Ev.takeForeign
  rw [Ev.push_outer]
  exact Ev.modBranch_outer _ _ _ fun _ => ⟨rfl, rfl⟩

@[simp] theorem Ev.bindPair_outer (e : Ev) (b : BranchId) (p : Serial × Nat) :
    (e.bindPair b p).outer = e.outer := by
  unfold Ev.bindPair; split <;> simp

@[simp] theorem Ev.markUnbound_outer (e : Ev) (b : BranchId) : (e.markUnbound b).outer = e.outer := by
  unfold Ev.markUnbound
  exact foldl_keeps (fun e : Ev => e.outer) _ (fun e p => by split <;> simp) _ _

@[simp] theorem Ev.closeRun_outer (e : Ev) (b : BranchId) (n : Option Serial) :
    (e.closeRun b n).outer = e.outer := by
  unfold Ev.closeRun
  split
  · rfl
  · dsimp only
    rw [Ev.modBranch_outer _ _ Branch.toPolling (fun _ => ⟨rfl, rfl⟩)]
    rw [Ev.markUnbound_outer]
    have h : ∀ l : List (Serial × Nat), (l.foldl (fun e p => e.bindPair b p) e).outer = e.outer := fun l =>
      foldl_keeps (fun e : Ev => e.outer) _ (fun e p => by simp) _ _
    split <;> simp [h]

@[simp] theorem Ev.endRun_outer (e : Ev) (b : BranchId) (n : Option Serial) :
    (e.endRun b n).outer = e.outer := by simp [Ev.endRun]

@[simp] theorem Ev.abortRun_outer (e : Ev) (b : BranchId) : (e.abortRun b).outer = e.outer := by
  simp [Ev.abortRun]

@[simp] theorem Ev.abortFor_outer (e : Ev) (d : Slot) : (e.abortFor d).outer = e.outer := by
  unfold Ev.abortFor; split <;> [split <;> simp; rfl]

@[simp] theorem Ev.beginRound_outer (e : Ev) (b : BranchId) (r : Run) : (e.beginRound b r).outer = e.outer :=
  Ev.modBranch_outer _ _ _ fun _ => ⟨rfl, rfl⟩

@[simp] theorem Ev.sendAssign_outer (e : Ev) (b : BranchId) (r : Run) (serial : Serial) (a : Nat) :
    (e.sendAssign b r serial a).outer = e.outer :=
  Ev.modBranch_outer _ _ _ fun _ => ⟨rfl, rfl⟩

@[simp] theorem Ev.beginFresh_outer (e : Ev) (b : BranchId) : (e.beginFresh b).outer = e.outer := by
  unfold Ev.beginFresh
  dsimp only
  rw [Ev.modBranch_outer]
  · exact foldl_keeps (fun e : Ev => e.outer) _ (fun e p => by simp) _ _
  · exact fun _ => ⟨rfl, rfl⟩

@[simp] theorem Ev.beginAdd_outer (e : Ev) (b : BranchId) : (e.beginAdd b).outer = e.outer :=
  Ev.modBranch_outer _ _ _ fun _ => ⟨rfl, rfl⟩

theorem Ev.noProgress_outer (e : Ev) (b : BranchId) (r : Run) (again : Ev → Run → Ev)
    (h : ∀ e r, (again e r).outer = e.outer) : (e.noProgress b r again).outer = e.outer := by
  unfold Ev.noProgress
  dsimp only
  split
  · exact h _ _
  · rw [Ev.endRun_outer]
    exact Ev.modBranch_outer _ _ _ fun _ => ⟨rfl, rfl⟩

@[simp] theorem Ev.takeAnswer_outer (e : Ev) (b : BranchId) (r : Run) (serial : Serial) :
    (e.takeAnswer b r serial).outer = e.outer := by
  unfold Ev.takeAnswer
  split
  · rw [Ev.modBranch_outer]
    rotate_left
    · exact fun _ => ⟨rfl, rfl⟩
    exact Ev.noProgress_outer _ _ _ _ fun e r => Ev.sendAssign_outer _ _ _ _ _
  · split <;> simp

/-! ### Motion Admission -/

@[simp] theorem Ev.request_outer (e : Ev) (d : Slot) (dir : Dir) (o : Origin) (b : Basis) :
    (e.request d dir o b).outer = e.outer := by
  unfold Ev.request; dsimp only; split <;> simp

@[simp] theorem Ev.needClose_outer (e : Ev) (d : Slot) (o : Origin) : (e.needClose d o).outer = e.outer := by
  unfold Ev.needClose; dsimp only; split <;> [split <;> simp; rfl]

@[simp] theorem Ev.admitHead_outer (e : Ev) (q : Queued) : (e.admitHead q).outer = e.outer := by
  simp [Ev.admitHead]

@[simp] theorem Ev.arbiter_outer (g : GroupId) (n : Nat) (e : Ev) : (Ev.arbiter g n e).outer = e.outer := by
  induction n generalizing e with
  | zero => rfl
  | succ n ih =>
    unfold Ev.arbiter
    split
    · split <;> simp [ih]
    · rfl

@[simp] theorem Ev.arbiters_outer (e : Ev) : e.arbiters.outer = e.outer := by
  unfold Ev.arbiters
  split
  · rfl
  · exact foldl_keeps (fun e : Ev => e.outer) _ (fun e g => by simp) _ _

@[simp] theorem Ev.takeEcho_outer (e : Ev) (d : Slot) (r : Report) : (e.takeEcho d r).outer = e.outer := by
  unfold Ev.takeEcho; dsimp only; split <;> simp

@[simp] theorem Ev.endReached_outer (e : Ev) (d : Slot) (dir : Dir) : (e.endReached d dir).outer = e.outer := by
  simp [Ev.endReached]

@[simp] theorem Ev.endPreempted_outer (e : Ev) (d : Slot) : (e.endPreempted d).outer = e.outer := by
  simp [Ev.endPreempted]

@[simp] theorem Ev.endStopped_outer (e : Ev) (d : Slot) (m : Motion) (k : AlarmKind) :
    (e.endStopped d m k).outer = e.outer := by
  unfold Ev.endStopped; dsimp only; split <;> [simp; (split <;> simp)]

@[simp] theorem Ev.endTimeout_outer (e : Ev) (d : Slot) (dir : Dir) : (e.endTimeout d dir).outer = e.outer := by
  simp [Ev.endTimeout]

@[simp] theorem Ev.testEnd_outer (e : Ev) (d : Slot) (rec : DoorRec) (m : Motion) (r : Report) :
    (e.testEnd d rec m r).outer = e.outer := by
  unfold Ev.testEnd; dsimp only; repeat' split
  all_goals simp

@[simp] theorem Ev.takeMotion_outer (e : Ev) (d : Slot) (rec : DoorRec) (r : Report) :
    (e.takeMotion d rec r).outer = e.outer := by
  unfold Ev.takeMotion; dsimp only; repeat' split
  all_goals simp

@[simp] theorem Ev.holdLocal_outer (e : Ev) (d : Slot) : (e.holdLocal d).outer = e.outer := by
  unfold Ev.holdLocal; split <;> simp

@[simp] theorem Ev.takeHandle_outer (e : Ev) (d : Slot) (rec : DoorRec) (r : Report) :
    (e.takeHandle d rec r).outer = e.outer := by
  unfold Ev.takeHandle; dsimp only; repeat' split
  all_goals simp

@[simp] theorem Ev.judge_outer (e : Ev) (d : Slot) (rec : DoorRec) (r : Report) :
    (e.judge d rec r).outer = e.outer := by
  unfold Ev.judge; dsimp only; repeat' split
  all_goals simp

@[simp] theorem Ev.takeReport_outer (e : Ev) (d : Slot) (rec : DoorRec) (r : Report) :
    (e.takeReport d rec r).outer = e.outer := by
  unfold Ev.takeReport; dsimp only; repeat' split
  all_goals simp

@[simp] theorem Ev.takeMiss_outer (e : Ev) (d : Slot) : (e.takeMiss d).outer = e.outer := by
  unfold Ev.takeMiss; dsimp only; split <;> simp

/-! ### Orders -/

@[simp] theorem Ev.withdrawOpen_outer (e : Ev) (d : Slot) : (e.withdrawOpen d).outer = e.outer := by
  unfold Ev.withdrawOpen; dsimp only; repeat' split
  all_goals simp

@[simp] theorem Ev.orderOutcome_outer (e : Ev) (d : Slot) : (e.orderOutcome d).outer = e.outer := by
  unfold Ev.orderOutcome; dsimp only; repeat' split
  all_goals simp

@[simp] theorem Ev.orderSet_outer (e : Ev) (d : Slot) : (e.orderSet d).outer = e.outer := by
  simp [Ev.orderSet]

@[simp] theorem Ev.releasePhase_outer (e : Ev) (d : Slot) : (e.releasePhase d).outer = e.outer := by
  unfold Ev.releasePhase; dsimp only; repeat' split
  all_goals simp

@[simp] theorem Ev.orderRelease_outer (e : Ev) (d : Slot) : (e.orderRelease d).outer = e.outer := by
  simp [Ev.orderRelease]

@[simp] theorem Ev.handOrder_outer (before : State) (e : Ev) (d : Slot) :
    (Ev.handOrder before e d).outer = e.outer := by
  unfold Ev.handOrder; split <;> simp

@[simp] theorem Ev.recompute_outer (before : State) (e : Ev) : (Ev.recompute before e).outer = e.outer := by
  unfold Ev.recompute
  exact foldl_keeps (fun e : Ev => e.outer) _ (fun e p => by simp) _ _

@[simp] theorem Ev.cancelPending_outer (e : Ev) : e.cancelPending.outer = e.outer := by
  unfold Ev.cancelPending; split <;> rfl

@[simp] theorem Ev.sourcesChanged_outer (before : State) (e : Ev) :
    (Ev.sourcesChanged before e).outer = e.outer := by
  unfold Ev.sourcesChanged; rw [Ev.recompute_outer]; split <;> simp

/-! ### The swap -/

@[simp] theorem Ev.swapLost_outer (old : State) (e : Ev) (d : Slot) :
    (Ev.swapLost old e d).outer = e.outer := by
  unfold Ev.swapLost; repeat' split
  all_goals simp

@[simp] theorem Ev.swapDrop_outer (old : State) (e : Ev) (d : Slot) :
    (Ev.swapDrop old e d).outer = e.outer := by
  unfold Ev.swapDrop; split <;> simp

/-- A change of the banks keeps the outer part. -/
theorem Ev.banks_outer (e : Ev) (bs : Banks) : ({ e with banks := bs } : Ev).outer = e.outer := rfl

/-- A restated branch keeps its line. -/
theorem Ev.branches_outer (e : Ev) (v : Vector Branch 4)
    (h : ∀ b : BranchId, v[b].latch = e.branches[b].latch ∧ v[b].sense = e.branches[b].sense) :
    ({ e with branches := v } : Ev).outer = e.outer := by
  have hl : v.map (fun r => (r.latch, r.sense)) = e.branches.map fun r => (r.latch, r.sense) := by
    apply Vector.ext
    intro i hi
    have := h ⟨i, hi⟩
    simp only [Fin.getElem_fin] at this
    simp [this.1, this.2]
  simp [State.outer, hl]

@[simp] theorem Ev.swap_outer (e : Ev) (id : BankId) : (e.swap id).outer = e.outer := by
  unfold Ev.swap
  dsimp only
  rw [Ev.recompute_outer, foldl_keeps (fun e : Ev => e.outer) _ (fun e d => by simp)]
  have h0 : ∀ e : Ev, (branchIds.foldl
      (fun e b => if (e.branches[b].run).isSome then e.abortRun b else e) e).outer = e.outer := fun e =>
    foldl_keeps (fun e : Ev => e.outer) _ (fun e b => by split <;> simp) _ _
  have hd : ∀ (old : State) (e : Ev), (slots.foldl (fun e d => Ev.swapDrop old e d) e).outer = e.outer :=
    fun old e => foldl_keeps (fun e : Ev => e.outer) _ (fun e d => by simp) _ _
  split
  all_goals
    first
    | rw [Ev.push_outer, Ev.push_outer, hd, Ev.branches_outer, Ev.modDoors_outer, Ev.banks_outer, h0]
    | rw [Ev.push_outer, hd, Ev.branches_outer, Ev.modDoors_outer, Ev.banks_outer, h0]
    intro b
    simp [Branch.restate]

@[simp] theorem Ev.swapIfQuiescent_outer (e : Ev) : e.swapIfQuiescent.outer = e.outer := by
  unfold Ev.swapIfQuiescent; repeat' split
  all_goals simp

/-! ### Alarms, image, polls -/

@[simp] theorem State.noticeEntry_outer (s : State) (c : Change) (x : AlarmEntry) :
    (s.noticeEntry c x).outer = s.outer := rfl

@[simp] theorem State.noticeMark_outer (s : State) (c : Change) (m : Mark) :
    (s.noticeMark c m).outer = s.outer := rfl

/-- A change of the list keeps the outer part when it keeps the re-announce timer. -/
theorem State.withAlarms_outer (s : State) (a : Alarms) (h : a.reannounceAt = s.alarms.reannounceAt) :
    (s.withAlarms a).outer = s.outer := by simp [State.outer, State.withAlarms, h]

@[simp] theorem State.listNew_outer (s : State) (j : Subject) (k : AlarmKind) :
    (s.listNew j k).outer = s.outer := rfl

@[simp] theorem State.unlist_outer (s : State) (x : AlarmEntry) : (s.unlist x).outer = s.outer := rfl

@[simp] theorem State.putMark_outer (s : State) (c : Change) (m : Mark) : (s.putMark c m).outer = s.outer := rfl

@[simp] theorem State.takeRaise_outer (s : State) (j : Subject) (k : AlarmKind) :
    (s.takeRaise j k).outer = s.outer := by
  unfold State.takeRaise; dsimp only; repeat' split
  all_goals rfl

@[simp] theorem State.takeClear_outer (s : State) (j : Subject) (k : AlarmKind) :
    (s.takeClear j k).outer = s.outer := by
  unfold State.takeClear; dsimp only; repeat' split
  all_goals rfl

@[simp] theorem State.takeAck_outer (s : State) (j : Subject) (k : AlarmKind) (st : Station) :
    (s.takeAck j k st).outer = s.outer := by
  unfold State.takeAck; dsimp only; repeat' split
  all_goals rfl

@[simp] theorem State.takeDrop_outer (s : State) (j : Subject) : (s.takeDrop j).outer = s.outer := by
  unfold State.takeDrop
  refine (State.withAlarms_outer _ _ rfl).trans ?_
  exact foldl_keeps State.outer _ (fun s x => by simp) _ _

@[simp] theorem State.takeReq_outer (s : State) (r : AlarmReq) : (s.takeReq r).outer = s.outer := by
  cases r <;> simp [State.takeReq]

@[simp] theorem State.fillFrom_outer (s : State) (ms : List Mark) : (s.fillFrom ms).outer = s.outer := by
  induction ms generalizing s with
  | nil => rfl
  | cons m ms ih =>
    unfold State.fillFrom
    split
    · rw [ih]; rfl
    · rfl

@[simp] theorem State.takeReqs_outer (s : State) (freed : Bool) (rs : List AlarmReq) :
    (s.takeReqs freed rs).outer = s.outer := by
  induction rs generalizing s freed with
  | nil => rfl
  | cons r rs ih =>
    unfold State.takeReqs
    split <;> simp [ih, State.fill]

@[simp] theorem Ev.takeAlarms_outer (e : Ev) : e.takeAlarms.outer = e.outer := by simp [Ev.takeAlarms]

@[simp] theorem State.freeze_outer (s : State) : s.freeze.outer = s.outer := rfl

@[simp] theorem State.judgeFreeze_outer (s : State) : s.judgeFreeze.outer = s.outer := by
  unfold State.judgeFreeze; split <;> simp

@[simp] theorem State.updateLive_outer (s : State) : s.updateLive.outer = s.outer := by
  unfold State.updateLive
  split
  · rfl
  · rw [State.judgeFreeze_outer]; rfl

@[simp] theorem State.sendPoll_outer (s : State) (b : BranchId) : (s.sendPoll b).outer = s.outer := by
  unfold State.sendPoll
  dsimp only
  split
  · split
    · next a turn _ =>
      exact Ev.modBranch_outer s.begin b (fun r => r.poll s.uptime a (s.slotOf b a) turn)
        (fun _ => ⟨rfl, rfl⟩)
    · rfl
  · rfl

@[simp] theorem State.sendPolls_outer (s : State) : s.sendPolls.outer = s.outer :=
  foldl_keeps State.outer _ (fun s b => by simp) _ _

/-- The end of an event keeps the outer part. -/
@[simp] theorem Ev.settle_outer (e : Ev) : e.settle.outer = e.outer := by simp [Ev.settle]

@[simp] theorem Ev.settleJudging_outer (e : Ev) : e.settleJudging.outer = e.outer := by
  simp [Ev.settleJudging]

end Sys2Proof.Machine
end

