-- ==== Sys2Proof/WellFormed.lean ====
section
/-! DEFINITION. Which commands are well formed: operands that their own rows can carry. The machine runs any
command; these are the limits that the frames and records put on its operands. -/

namespace Sys2Proof

/-- Longest frame on the trunk: 3 header bytes, 18 payload bytes, 2 check bytes (Table 9-2). -/
def maxTrunkBytes : Nat := 23

/-- Length of a STATUS reply (Table 8-4). -/
def statusBytes : Nat := 10

/-- Record bytes that a LOAD-CHUNK has room for: 18 less code, tag, table id and index. -/
def maxChunkBytes : Nat := 14

/-- A station sends from an id of 0 to 30; 31 is the broadcast address (section 0.6). -/
def Route.wf (r : Route) : Bool := r.src != broadcast

/-- A readable image holds a table set (Table 11-1). -/
def NvImage.wf : NvImage → Bool
  | .stored set _ => Machine.setWf set
  | .bad => true

/-- The operands of a command are those that its row can carry. -/
def Instr.wf : Instr → Bool
  | .powerOnReset _ => true
  | .restartPin _ => true
  | .trunkFrame bytes => bytes.length ≤ maxTrunkBytes
  | .closeZone route _ _ => route.wf
  | .closeAll route _ => route.wf
  | .releaseZone route _ _ => route.wf
  | .releaseAll route _ => route.wf
  | .doorClose route _ _ => route.wf
  | .doorOpen route _ _ => route.wf
  | .doorStop route _ _ => route.wf
  | .ack route _ _ _ => route.wf
  | .ackAll route _ => route.wf
  | .heel route _ => route.wf
  | .identify route _ _ => route.wf
  | .readStatus route _ _ => route.wf
  | .readDoor route _ _ _ => route.wf
  | .readRecord route _ _ _ _ _ => route.wf
  | .readAlarms route _ _ => route.wf
  | .loadBegin route _ => route.wf
  | .loadChunk route _ _ _ bytes => route.wf && bytes.length ≤ maxChunkBytes
  | .loadEnd route _ _ => route.wf
  | .activate route _ => route.wf
  | .rollback route _ => route.wf
  | .store route _ => route.wf
  | .storeEnd readBack => readBack.wf
  | .enroll route _ _ _ => route.wf
  | .forgetForeign route _ _ => route.wf
  | .restartRequest route _ => route.wf
  | .transmitStart => true
  | .arbitrationLost winner => winner.length ≤ maxTrunkBytes
  | .transmitError => true
  | .transmitSuccess _ => true
  | .statusReply _ bytes => bytes.length ≤ statusBytes
  | .pollMiss _ => true
  | .lineSample _ _ => true
  | .dwellExpiry _ => true
  | .retryExpiry _ => true
  | .warningLeadExpiry _ => true
  | .issueDeadlineExpiry _ => true
  | .deadlineExpiry _ => true
  | .linkLostHoldExpiry _ => true
  | .heelSourceStale _ => true
  | .heelStaleFirstJudge => true
  | .reannounceExpiry => true
  | .spacingPoint => true
  | .refreshPoint => true
  | .snapshotRelease => true
  | .callAnswer _ _ => true
  | .assignSent _ => true
  | .callAnswerFault _ => true
  | .callNoAnswer _ => true
  | .powerLoss => true

end Sys2Proof
end

