-- ==== Sys2Proof/Laws/PerInstr.lean ====
section
/-! SUPPORT. Statements made per command. `RowsFitTheirFrames`: a well-formed panel command or management request
has a payload that a frame can carry, and a source that is a station. -/

open Sys2Proof Sys2Proof.Machine

/-- A well-formed command that stands for a frame has at most 18 payload bytes (Table 9-2), and does not come from
the broadcast address (section 0.6). -/
def Sys2Proof.Laws.RowsFitTheirFrames.Statement (i : Instr) : Prop :=
  i.wf = true →
    (∀ row, panelRow i = some row → row.route.src ≠ broadcast ∧ row.payload.length = 4)
    ∧ ∀ row, requestRow i = some row → row.route.src ≠ broadcast ∧ row.payload.length ≤ 18

/-- A command that is neither a panel command nor a management request has no row to fit. -/
theorem Sys2Proof.Laws.rowsFit_of_none {i : Instr} (hp : panelRow i = .none)
    (hr : requestRow i = .none) : Sys2Proof.Laws.RowsFitTheirFrames.Statement i := fun _ =>
  ⟨fun _ h => absurd (hp.symm.trans h) (by simp), fun _ h => absurd (hr.symm.trans h) (by simp)⟩

/-- A panel command whose payload has four bytes. -/
theorem Sys2Proof.Laws.rowsFit_of_panel {i : Instr} {r : PanelRow} (hp : panelRow i = some r)
    (hr : requestRow i = .none) (hs : i.wf = true → r.route.src ≠ broadcast) (hl : r.payload.length = 4) :
    Sys2Proof.Laws.RowsFitTheirFrames.Statement i := fun h =>
  ⟨fun _ e => Option.some.inj (hp.symm.trans e) ▸ ⟨hs h, hl⟩, fun _ e => absurd (hr.symm.trans e) (by simp)⟩

/-- A management request whose payload has at most 18 bytes. -/
theorem Sys2Proof.Laws.rowsFit_of_request {i : Instr} {r : RequestRow} (hp : panelRow i = .none)
    (hr : requestRow i = some r) (hs : i.wf = true → r.route.src ≠ broadcast ∧ r.payload.length ≤ 18) :
    Sys2Proof.Laws.RowsFitTheirFrames.Statement i := fun h =>
  ⟨fun _ e => absurd (hp.symm.trans e) (by simp), fun _ e => Option.some.inj (hr.symm.trans e) ▸ hs h⟩

theorem Sys2Proof.Laws.RowsFitTheirFrames.powerOnReset (pins : Pins) :
    Sys2Proof.Laws.RowsFitTheirFrames.Statement (.powerOnReset pins) :=
  Sys2Proof.Laws.rowsFit_of_none rfl rfl

theorem Sys2Proof.Laws.RowsFitTheirFrames.restartPin (pins : Pins) :
    Sys2Proof.Laws.RowsFitTheirFrames.Statement (.restartPin pins) :=
  Sys2Proof.Laws.rowsFit_of_none rfl rfl

theorem Sys2Proof.Laws.RowsFitTheirFrames.trunkFrame (bytes : List Byte) :
    Sys2Proof.Laws.RowsFitTheirFrames.Statement (.trunkFrame bytes) :=
  Sys2Proof.Laws.rowsFit_of_none rfl rfl

theorem Sys2Proof.Laws.RowsFitTheirFrames.closeZone (route : Route) (zone tag : Byte) :
    Sys2Proof.Laws.RowsFitTheirFrames.Statement (.closeZone route zone tag) :=
  Sys2Proof.Laws.rowsFit_of_panel rfl rfl (fun h => by simpa [Instr.wf, Route.wf] using h) rfl

theorem Sys2Proof.Laws.RowsFitTheirFrames.closeAll (route : Route) (tag : Byte) :
    Sys2Proof.Laws.RowsFitTheirFrames.Statement (.closeAll route tag) :=
  Sys2Proof.Laws.rowsFit_of_panel rfl rfl (fun h => by simpa [Instr.wf, Route.wf] using h) rfl

theorem Sys2Proof.Laws.RowsFitTheirFrames.releaseZone (route : Route) (zone tag : Byte) :
    Sys2Proof.Laws.RowsFitTheirFrames.Statement (.releaseZone route zone tag) :=
  Sys2Proof.Laws.rowsFit_of_panel rfl rfl (fun h => by simpa [Instr.wf, Route.wf] using h) rfl

theorem Sys2Proof.Laws.RowsFitTheirFrames.releaseAll (route : Route) (tag : Byte) :
    Sys2Proof.Laws.RowsFitTheirFrames.Statement (.releaseAll route tag) :=
  Sys2Proof.Laws.rowsFit_of_panel rfl rfl (fun h => by simpa [Instr.wf, Route.wf] using h) rfl

theorem Sys2Proof.Laws.RowsFitTheirFrames.doorClose (route : Route) (slot tag : Byte) :
    Sys2Proof.Laws.RowsFitTheirFrames.Statement (.doorClose route slot tag) :=
  Sys2Proof.Laws.rowsFit_of_panel rfl rfl (fun h => by simpa [Instr.wf, Route.wf] using h) rfl

theorem Sys2Proof.Laws.RowsFitTheirFrames.doorOpen (route : Route) (slot tag : Byte) :
    Sys2Proof.Laws.RowsFitTheirFrames.Statement (.doorOpen route slot tag) :=
  Sys2Proof.Laws.rowsFit_of_panel rfl rfl (fun h => by simpa [Instr.wf, Route.wf] using h) rfl

theorem Sys2Proof.Laws.RowsFitTheirFrames.doorStop (route : Route) (slot tag : Byte) :
    Sys2Proof.Laws.RowsFitTheirFrames.Statement (.doorStop route slot tag) :=
  Sys2Proof.Laws.rowsFit_of_panel rfl rfl (fun h => by simpa [Instr.wf, Route.wf] using h) rfl

theorem Sys2Proof.Laws.RowsFitTheirFrames.ack (route : Route) (subject kind tag : Byte) :
    Sys2Proof.Laws.RowsFitTheirFrames.Statement (.ack route subject kind tag) :=
  Sys2Proof.Laws.rowsFit_of_panel rfl rfl (fun h => by simpa [Instr.wf, Route.wf] using h) rfl

theorem Sys2Proof.Laws.RowsFitTheirFrames.ackAll (route : Route) (tag : Byte) :
    Sys2Proof.Laws.RowsFitTheirFrames.Statement (.ackAll route tag) :=
  Sys2Proof.Laws.rowsFit_of_panel rfl rfl (fun h => by simpa [Instr.wf, Route.wf] using h) rfl

theorem Sys2Proof.Laws.RowsFitTheirFrames.heel (route : Route) (value : BitVec 16) :
    Sys2Proof.Laws.RowsFitTheirFrames.Statement (.heel route value) :=
  Sys2Proof.Laws.rowsFit_of_none rfl rfl

theorem Sys2Proof.Laws.RowsFitTheirFrames.identify (route : Route) (tag part : Byte) :
    Sys2Proof.Laws.RowsFitTheirFrames.Statement (.identify route tag part) :=
  Sys2Proof.Laws.rowsFit_of_request rfl rfl fun h => ⟨by simpa [Instr.wf, Route.wf] using h, by simp⟩

theorem Sys2Proof.Laws.RowsFitTheirFrames.readStatus (route : Route) (tag page : Byte) :
    Sys2Proof.Laws.RowsFitTheirFrames.Statement (.readStatus route tag page) :=
  Sys2Proof.Laws.rowsFit_of_request rfl rfl fun h => ⟨by simpa [Instr.wf, Route.wf] using h, by simp⟩

theorem Sys2Proof.Laws.RowsFitTheirFrames.readDoor (route : Route) (tag slot part : Byte) :
    Sys2Proof.Laws.RowsFitTheirFrames.Statement (.readDoor route tag slot part) :=
  Sys2Proof.Laws.rowsFit_of_request rfl rfl fun h => ⟨by simpa [Instr.wf, Route.wf] using h, by simp⟩

theorem Sys2Proof.Laws.RowsFitTheirFrames.readRecord (route : Route) (tag bank table index part : Byte) :
    Sys2Proof.Laws.RowsFitTheirFrames.Statement (.readRecord route tag bank table index part) :=
  Sys2Proof.Laws.rowsFit_of_request rfl rfl fun h => ⟨by simpa [Instr.wf, Route.wf] using h, by simp⟩

theorem Sys2Proof.Laws.RowsFitTheirFrames.readAlarms (route : Route) (tag chunk : Byte) :
    Sys2Proof.Laws.RowsFitTheirFrames.Statement (.readAlarms route tag chunk) :=
  Sys2Proof.Laws.rowsFit_of_request rfl rfl fun h => ⟨by simpa [Instr.wf, Route.wf] using h, by simp⟩

theorem Sys2Proof.Laws.RowsFitTheirFrames.loadBegin (route : Route) (tag : Byte) :
    Sys2Proof.Laws.RowsFitTheirFrames.Statement (.loadBegin route tag) :=
  Sys2Proof.Laws.rowsFit_of_request rfl rfl fun h => ⟨by simpa [Instr.wf, Route.wf] using h, by simp⟩

theorem Sys2Proof.Laws.RowsFitTheirFrames.loadChunk (route : Route) (tag table index : Byte) (bytes : List Byte) :
    Sys2Proof.Laws.RowsFitTheirFrames.Statement (.loadChunk route tag table index bytes) :=
  Sys2Proof.Laws.rowsFit_of_request rfl rfl fun h => by
    simp [Instr.wf, Route.wf, maxChunkBytes] at h
    exact ⟨h.1, by have := of_decide_eq_true h.2; simp only [List.length_append, List.length_cons, List.length_nil]; omega⟩

theorem Sys2Proof.Laws.RowsFitTheirFrames.loadEnd (route : Route) (tag : Byte) (check : BitVec 16) :
    Sys2Proof.Laws.RowsFitTheirFrames.Statement (.loadEnd route tag check) :=
  Sys2Proof.Laws.rowsFit_of_request rfl rfl fun h => ⟨by simpa [Instr.wf, Route.wf] using h, by simp [bytes16]⟩

theorem Sys2Proof.Laws.RowsFitTheirFrames.activate (route : Route) (tag : Byte) :
    Sys2Proof.Laws.RowsFitTheirFrames.Statement (.activate route tag) :=
  Sys2Proof.Laws.rowsFit_of_request rfl rfl fun h => ⟨by simpa [Instr.wf, Route.wf] using h, by simp⟩

theorem Sys2Proof.Laws.RowsFitTheirFrames.rollback (route : Route) (tag : Byte) :
    Sys2Proof.Laws.RowsFitTheirFrames.Statement (.rollback route tag) :=
  Sys2Proof.Laws.rowsFit_of_request rfl rfl fun h => ⟨by simpa [Instr.wf, Route.wf] using h, by simp⟩

theorem Sys2Proof.Laws.RowsFitTheirFrames.store (route : Route) (tag : Byte) :
    Sys2Proof.Laws.RowsFitTheirFrames.Statement (.store route tag) :=
  Sys2Proof.Laws.rowsFit_of_request rfl rfl fun h => ⟨by simpa [Instr.wf, Route.wf] using h, by simp⟩

theorem Sys2Proof.Laws.RowsFitTheirFrames.storeEnd (readBack : NvImage) :
    Sys2Proof.Laws.RowsFitTheirFrames.Statement (.storeEnd readBack) :=
  Sys2Proof.Laws.rowsFit_of_none rfl rfl

theorem Sys2Proof.Laws.RowsFitTheirFrames.enroll (route : Route) (tag branch mode : Byte) :
    Sys2Proof.Laws.RowsFitTheirFrames.Statement (.enroll route tag branch mode) :=
  Sys2Proof.Laws.rowsFit_of_request rfl rfl fun h => ⟨by simpa [Instr.wf, Route.wf] using h, by simp⟩

theorem Sys2Proof.Laws.RowsFitTheirFrames.forgetForeign (route : Route) (tag branch : Byte) :
    Sys2Proof.Laws.RowsFitTheirFrames.Statement (.forgetForeign route tag branch) :=
  Sys2Proof.Laws.rowsFit_of_request rfl rfl fun h => ⟨by simpa [Instr.wf, Route.wf] using h, by simp⟩

theorem Sys2Proof.Laws.RowsFitTheirFrames.restartRequest (route : Route) (tag : Byte) :
    Sys2Proof.Laws.RowsFitTheirFrames.Statement (.restartRequest route tag) :=
  Sys2Proof.Laws.rowsFit_of_request rfl rfl fun h => ⟨by simpa [Instr.wf, Route.wf] using h, by simp⟩

theorem Sys2Proof.Laws.RowsFitTheirFrames.transmitStart :
    Sys2Proof.Laws.RowsFitTheirFrames.Statement .transmitStart :=
  Sys2Proof.Laws.rowsFit_of_none rfl rfl

theorem Sys2Proof.Laws.RowsFitTheirFrames.arbitrationLost (winner : List Byte) :
    Sys2Proof.Laws.RowsFitTheirFrames.Statement (.arbitrationLost winner) :=
  Sys2Proof.Laws.rowsFit_of_none rfl rfl

theorem Sys2Proof.Laws.RowsFitTheirFrames.transmitError :
    Sys2Proof.Laws.RowsFitTheirFrames.Statement .transmitError :=
  Sys2Proof.Laws.rowsFit_of_none rfl rfl

theorem Sys2Proof.Laws.RowsFitTheirFrames.transmitSuccess (pins : Pins) :
    Sys2Proof.Laws.RowsFitTheirFrames.Statement (.transmitSuccess pins) :=
  Sys2Proof.Laws.rowsFit_of_none rfl rfl

theorem Sys2Proof.Laws.RowsFitTheirFrames.statusReply (branch : BranchId) (bytes : List Byte) :
    Sys2Proof.Laws.RowsFitTheirFrames.Statement (.statusReply branch bytes) :=
  Sys2Proof.Laws.rowsFit_of_none rfl rfl

theorem Sys2Proof.Laws.RowsFitTheirFrames.pollMiss (branch : BranchId) :
    Sys2Proof.Laws.RowsFitTheirFrames.Statement (.pollMiss branch) :=
  Sys2Proof.Laws.rowsFit_of_none rfl rfl

theorem Sys2Proof.Laws.RowsFitTheirFrames.lineSample (branch : BranchId) (low : Bool) :
    Sys2Proof.Laws.RowsFitTheirFrames.Statement (.lineSample branch low) :=
  Sys2Proof.Laws.rowsFit_of_none rfl rfl

theorem Sys2Proof.Laws.RowsFitTheirFrames.dwellExpiry (door : Slot) :
    Sys2Proof.Laws.RowsFitTheirFrames.Statement (.dwellExpiry door) :=
  Sys2Proof.Laws.rowsFit_of_none rfl rfl

theorem Sys2Proof.Laws.RowsFitTheirFrames.retryExpiry (door : Slot) :
    Sys2Proof.Laws.RowsFitTheirFrames.Statement (.retryExpiry door) :=
  Sys2Proof.Laws.rowsFit_of_none rfl rfl

theorem Sys2Proof.Laws.RowsFitTheirFrames.warningLeadExpiry (door : Slot) :
    Sys2Proof.Laws.RowsFitTheirFrames.Statement (.warningLeadExpiry door) :=
  Sys2Proof.Laws.rowsFit_of_none rfl rfl

theorem Sys2Proof.Laws.RowsFitTheirFrames.issueDeadlineExpiry (door : Slot) :
    Sys2Proof.Laws.RowsFitTheirFrames.Statement (.issueDeadlineExpiry door) :=
  Sys2Proof.Laws.rowsFit_of_none rfl rfl

theorem Sys2Proof.Laws.RowsFitTheirFrames.deadlineExpiry (door : Slot) :
    Sys2Proof.Laws.RowsFitTheirFrames.Statement (.deadlineExpiry door) :=
  Sys2Proof.Laws.rowsFit_of_none rfl rfl

theorem Sys2Proof.Laws.RowsFitTheirFrames.linkLostHoldExpiry (door : Slot) :
    Sys2Proof.Laws.RowsFitTheirFrames.Statement (.linkLostHoldExpiry door) :=
  Sys2Proof.Laws.rowsFit_of_none rfl rfl

theorem Sys2Proof.Laws.RowsFitTheirFrames.heelSourceStale (source : HeelSrc) :
    Sys2Proof.Laws.RowsFitTheirFrames.Statement (.heelSourceStale source) :=
  Sys2Proof.Laws.rowsFit_of_none rfl rfl

theorem Sys2Proof.Laws.RowsFitTheirFrames.heelStaleFirstJudge :
    Sys2Proof.Laws.RowsFitTheirFrames.Statement .heelStaleFirstJudge :=
  Sys2Proof.Laws.rowsFit_of_none rfl rfl

theorem Sys2Proof.Laws.RowsFitTheirFrames.reannounceExpiry :
    Sys2Proof.Laws.RowsFitTheirFrames.Statement .reannounceExpiry :=
  Sys2Proof.Laws.rowsFit_of_none rfl rfl

theorem Sys2Proof.Laws.RowsFitTheirFrames.spacingPoint :
    Sys2Proof.Laws.RowsFitTheirFrames.Statement .spacingPoint :=
  Sys2Proof.Laws.rowsFit_of_none rfl rfl

theorem Sys2Proof.Laws.RowsFitTheirFrames.refreshPoint :
    Sys2Proof.Laws.RowsFitTheirFrames.Statement .refreshPoint :=
  Sys2Proof.Laws.rowsFit_of_none rfl rfl

theorem Sys2Proof.Laws.RowsFitTheirFrames.snapshotRelease :
    Sys2Proof.Laws.RowsFitTheirFrames.Statement .snapshotRelease :=
  Sys2Proof.Laws.rowsFit_of_none rfl rfl

theorem Sys2Proof.Laws.RowsFitTheirFrames.callAnswer (branch : BranchId) (serial : Serial) :
    Sys2Proof.Laws.RowsFitTheirFrames.Statement (.callAnswer branch serial) :=
  Sys2Proof.Laws.rowsFit_of_none rfl rfl

theorem Sys2Proof.Laws.RowsFitTheirFrames.assignSent (branch : BranchId) :
    Sys2Proof.Laws.RowsFitTheirFrames.Statement (.assignSent branch) :=
  Sys2Proof.Laws.rowsFit_of_none rfl rfl

theorem Sys2Proof.Laws.RowsFitTheirFrames.callAnswerFault (branch : BranchId) :
    Sys2Proof.Laws.RowsFitTheirFrames.Statement (.callAnswerFault branch) :=
  Sys2Proof.Laws.rowsFit_of_none rfl rfl

theorem Sys2Proof.Laws.RowsFitTheirFrames.callNoAnswer (branch : BranchId) :
    Sys2Proof.Laws.RowsFitTheirFrames.Statement (.callNoAnswer branch) :=
  Sys2Proof.Laws.rowsFit_of_none rfl rfl

theorem Sys2Proof.Laws.RowsFitTheirFrames.powerLoss :
    Sys2Proof.Laws.RowsFitTheirFrames.Statement .powerLoss :=
  Sys2Proof.Laws.rowsFit_of_none rfl rfl
end

