-- ==== Sys2Proof/Laws/Tables.lean ====
section
/-! SUPPORT. A table set as an addressed store of records: its canonical form, kept by every load, and what a load
leaves at every place. -/

namespace Sys2Proof.Machine

open Sys2Proof

/-- The canonical form, one record at a time. -/
theorem setWf_cons (r : Record) (l : TableSet) :
    setWf (r :: l) = true ↔ recordWf r = true ∧ (∀ q ∈ l.head?, recordBefore r q = true) ∧ setWf l = true := by
  cases l with
  | nil => simp [setWf]
  | cons q rest => simp [setWf, and_assoc]

/-- The order of records is strict. -/
theorem recordBefore_iff (r q : Record) :
    recordBefore r q = true ↔ r.table < q.table ∨ (r.table = q.table ∧ r.index < q.index) := by
  simp [recordBefore]

/-- A load begins with the new record or with the old first record. -/
theorem putRecord_head (t : TableSet) (new q : Record) (h : q ∈ (putRecord t new).head?) :
    q = new ∨ q ∈ t.head? := by
  cases t with
  | nil => simp [putRecord] at h; exact .inl h.symm
  | cons r rest =>
    unfold putRecord at h
    split at h
    · simp at h; exact .inl h.symm
    · split at h
      · simp at h; exact .inr (by simp [h])
      · simp at h; exact .inl h.symm

/-- The place of the first record in a canonical set lies before all others. -/
theorem setWf_rel (r : Record) (l : TableSet) (h : setWf (r :: l) = true) :
    ∀ q ∈ l, recordBefore r q = true := by
  induction l generalizing r with
  | nil => simp
  | cons x xs ih =>
    intro q hq
    have h1 := (setWf_cons r (x :: xs)).1 h
    have hx : recordBefore r x = true := h1.2.1 x (by simp)
    rcases List.mem_cons.1 hq with rfl | hq
    · exact hx
    · have hr := ih x h1.2.2 q hq
      rw [recordBefore_iff] at hx hr ⊢
      omega

/-- A load of a record of its table's length keeps the canonical form. -/
theorem putRecord_wf (t : TableSet) (new : Record) (ht : setWf t = true) (hn : recordWf new = true) :
    setWf (putRecord t new) = true := by
  induction t with
  | nil => simp [putRecord, setWf, hn]
  | cons r rest ih =>
    have h := (setWf_cons r rest).1 ht
    unfold putRecord
    split
    · next hb => exact (setWf_cons _ _).2 ⟨hn, by simpa using hb, ht⟩
    · next hb =>
      split
      · next hc =>
        refine (setWf_cons _ _).2 ⟨h.1, fun q hq => ?_, ih h.2.2⟩
        rcases putRecord_head rest new q hq with rfl | hq
        · exact hc
        · exact h.2.1 q hq
      · next hc =>
        refine (setWf_cons _ _).2 ⟨hn, fun q hq => ?_, h.2.2⟩
        have hq := h.2.1 q hq
        rw [recordBefore_iff] at hb hc hq ⊢
        omega

/-- A place that the first record's place lies after holds nothing. -/
theorem lookup_none (t : TableSet) (table index : Nat)
    (h : ∀ q ∈ t, ¬(q.table = table ∧ q.index = index)) : lookup t table index = none := by
  induction t with
  | nil => rfl
  | cons r rest ih =>
    unfold lookup
    have hr := h r (by simp)
    split
    · next hc => simp at hc; exact absurd hc hr
    · exact ih fun q hq => h q (by simp [hq])

/-- Reset holds no record: its sets are in canonical form. -/
theorem reset_sets_wf : setWf State.reset.banks.a.set = true ∧ setWf State.reset.banks.b.set = true := by
  decide

end Sys2Proof.Machine
end

