-- ==== Sys2Proof/Laws/Touch.lean ====
section
/-! SUPPORT. What an operation on one door can do: give that door another record and hand requests to the Alarm
Unit, and nothing else. `Ev.Touches` says so, and one lemma for each such operation proves it. -/

namespace Sys2Proof.Machine

open Sys2Proof

/-- The second event state is the first with another record of door `d` and with more alarm requests. -/
def Ev.Touches (d : Slot) (e e' : Ev) : Prop :=
  ∃ (r : Door) (rs : List AlarmReq), e' = { e.modDoor d (fun _ => r) with reqs := e.reqs ++ rs }

theorem Ev.Touches.refl (d : Slot) (e : Ev) : Ev.Touches d e e :=
  ⟨e.doors[d], [], by simp [Ev.modDoor]⟩

theorem Ev.Touches.trans {d : Slot} {e₁ e₂ e₃ : Ev} (h : Ev.Touches d e₁ e₂) (k : Ev.Touches d e₂ e₃) :
    Ev.Touches d e₁ e₃ := by
  obtain ⟨r, rs, rfl⟩ := h
  obtain ⟨q, qs, rfl⟩ := k
  exact ⟨q, rs ++ qs, by simp [Ev.modDoor, List.append_assoc]⟩

/-- Another door keeps its record. -/
theorem Ev.Touches.other {d x : Slot} {e e' : Ev} (h : Ev.Touches d e e') (hx : x ≠ d) :
    e'.doors[x] = e.doors[x] := by
  obtain ⟨r, rs, rfl⟩ := h
  show (e.modDoor d fun _ => r).doors[x] = e.doors[x]
  exact Ev.modDoor_other e d x _ (Ne.symm hx)

/-- All but the doors and the requests is as it was. -/
theorem Ev.Touches.rest {d : Slot} {e e' : Ev} (h : Ev.Touches d e e') :
    e'.toState = { e.toState with doors := e'.doors } := by
  obtain ⟨r, rs, rfl⟩ := h
  rfl

theorem Ev.Touches.banks {d : Slot} {e e' : Ev} (h : Ev.Touches d e e') : e'.banks = e.banks := by
  rw [h.rest]

theorem Ev.Touches.zones {d : Slot} {e e' : Ev} (h : Ev.Touches d e e') : e'.zones = e.zones := by
  rw [h.rest]

theorem Ev.Touches.branches {d : Slot} {e e' : Ev} (h : Ev.Touches d e e') : e'.branches = e.branches := by
  rw [h.rest]

/-- No order changes. -/
theorem Ev.Touches.orderHeld {d : Slot} {e e' : Ev} (h : Ev.Touches d e e') (x : Slot) :
    e'.orderHeld x = e.orderHeld x := by
  rw [h.rest]
  rfl

/-- No door record of the set changes. -/
theorem Ev.Touches.doorRec {d : Slot} {e e' : Ev} (h : Ev.Touches d e e') (x : Slot) :
    e'.doorRec x = e.doorRec x := by
  rw [h.rest]
  rfl

/-! ### One lemma for each operation -/

theorem Ev.modDoor_touches (e : Ev) (d : Slot) (f : Door → Door) : Ev.Touches d e (e.modDoor d f) :=
  ⟨f e.doors[d], [], by simp [Ev.modDoor]⟩

theorem Ev.push_touches (e : Ev) (d : Slot) (r : AlarmReq) : Ev.Touches d e (e.push r) :=
  ⟨e.doors[d], [r], by simp [Ev.modDoor, Ev.push]⟩

theorem Ev.enterEnd_touches (e : Ev) (d : Slot) (k : AlarmKind) (dir : Dir) :
    Ev.Touches d e (e.enterEnd d k dir) :=
  (e.modDoor_touches d _).trans (Ev.push_touches _ d _)

theorem Ev.enterLevel_touches (e : Ev) (d : Slot) (k : AlarmKind) : Ev.Touches d e (e.enterLevel d k) := by
  unfold Ev.enterLevel
  split
  · exact .refl d e
  · exact (e.modDoor_touches d _).trans (Ev.push_touches _ d _)

theorem Ev.dropCond_touches (e : Ev) (d : Slot) (k : AlarmKind) : Ev.Touches d e (e.dropCond d k) := by
  unfold Ev.dropCond
  split
  · exact (e.modDoor_touches d _).trans (Ev.push_touches _ d _)
  · exact .refl d e

theorem Ev.dropEnds_touches (e : Ev) (d : Slot) (dir : Dir) : Ev.Touches d e (e.dropEnds d dir) := by
  unfold Ev.dropEnds
  generalize motionEndKinds = ks
  induction ks generalizing e with
  | nil => exact .refl d e
  | cons k ks ih =>
    rw [List.foldl_cons]
    refine Ev.Touches.trans ?_ (ih _)
    split
    · exact e.dropCond_touches d k
    · exact .refl d e

theorem Ev.place_touches (e : Ev) (d : Slot) (c : Cmd) : Ev.Touches d e (e.place d c) := by
  unfold Ev.place
  split
  · exact .refl d e
  · exact e.modDoor_touches d _

theorem Ev.toPhase_touches (e : Ev) (d : Slot) (p : Phase) : Ev.Touches d e (e.toPhase d p) :=
  e.modDoor_touches d _

theorem Ev.zeroRetry_touches (e : Ev) (d : Slot) : Ev.Touches d e (e.zeroRetry d) := e.modDoor_touches d _

theorem Ev.dropEntry_touches (e : Ev) (d : Slot) (p : Phase) : Ev.Touches d e (e.dropEntry d p) :=
  (e.modDoor_touches d _).trans (Ev.toPhase_touches _ d p)

theorem Ev.dropMove_touches (e : Ev) (d : Slot) (p : Phase) : Ev.Touches d e (e.dropMove d p) :=
  (e.modDoor_touches d _).trans (Ev.toPhase_touches _ d p)

theorem Ev.endHalted_touches (e : Ev) (d : Slot) : Ev.Touches d e (e.endHalted d) :=
  ((e.modDoor_touches d _).trans (Ev.place_touches _ d _)).trans (Ev.dropMove_touches _ d _)

theorem Ev.takeEcho_touches (e : Ev) (d : Slot) (r : Report) : Ev.Touches d e (e.takeEcho d r) := by
  unfold Ev.takeEcho
  dsimp only
  split
  · exact e.modDoor_touches d _
  · exact .refl d e

theorem Ev.endReached_touches (e : Ev) (d : Slot) (dir : Dir) : Ev.Touches d e (e.endReached d dir) :=
  ((e.dropMove_touches d _).trans (Ev.zeroRetry_touches _ d)).trans (Ev.dropEnds_touches _ d dir)

theorem Ev.endPreempted_touches (e : Ev) (d : Slot) : Ev.Touches d e (e.endPreempted d) :=
  (e.place_touches d _).trans (Ev.dropMove_touches _ d _)

theorem Ev.endTimeout_touches (e : Ev) (d : Slot) (dir : Dir) : Ev.Touches d e (e.endTimeout d dir) :=
  (e.dropMove_touches d _).trans (Ev.enterEnd_touches _ d _ dir)

theorem Ev.endStopped_touches (e : Ev) (d : Slot) (m : Motion) (k : AlarmKind) :
    Ev.Touches d e (e.endStopped d m k) := by
  have h : Ev.Touches d e (((e.dropMove d .idle).place d .halt).enterEnd d k m.dir) :=
    ((e.dropMove_touches d _).trans (Ev.place_touches _ d _)).trans (Ev.enterEnd_touches _ d _ _)
  unfold Ev.endStopped
  dsimp only
  split
  · exact h.trans (Ev.modDoor_touches _ d _)
  · split
    · exact (h.trans (Ev.enterEnd_touches _ d _ _)).trans (Ev.toPhase_touches _ d _)
    · exact h

theorem Ev.holdLocal_touches (e : Ev) (d : Slot) : Ev.Touches d e (e.holdLocal d) := by
  unfold Ev.holdLocal
  split
  · exact .refl d e
  · exact .refl d e
  · exact e.dropEntry_touches d _
  · exact (e.place_touches d _).trans (Ev.dropMove_touches _ d _)
  · exact (e.place_touches d _).trans (Ev.dropMove_touches _ d _)
  all_goals exact e.toPhase_touches d _

/-- On a branch without a run, a queue request touches its door only. -/
theorem Ev.request_touches (e : Ev) (d : Slot) (dir : Dir) (o : Origin) (b : Basis) (h : e.NoRunFor d) :
    Ev.Touches d e (e.request d dir o b) := by
  have ha : e.abortFor d = e := by
    unfold Ev.abortFor
    split
    · next r hr =>
      have hn : e.branches[r.branch].run = none := h r (by simp [hr])
      rw [hn]
      simp
    · rfl
  unfold Ev.request
  simp only [ha]
  split
  · exact (e.modDoor_touches d _).trans (Ev.toPhase_touches _ d _)
  · exact .refl d e

/-- On a branch without a run, the need-close check touches its door only. -/
theorem Ev.needClose_touches (e : Ev) (d : Slot) (o : Origin) (h : e.NoRunFor d) :
    Ev.Touches d e (e.needClose d o) := by
  unfold Ev.needClose
  dsimp only
  split
  · split
    · exact e.toPhase_touches d _
    · exact e.request_touches d _ _ _ h
  · exact .refl d e

/-- An order release touches its door only. -/
theorem Ev.releasePhase_touches (e : Ev) (d : Slot) : Ev.Touches d e (e.releasePhase d) := by
  unfold Ev.releasePhase
  dsimp only
  split
  · split
    · exact e.dropEntry_touches d _
    · exact .refl d e
  · split
    · exact (e.place_touches d _).trans (Ev.dropMove_touches _ d _)
    · exact .refl d e
  all_goals first
    | exact e.toPhase_touches d _
    | exact .refl d e

theorem Ev.orderRelease_touches (e : Ev) (d : Slot) : Ev.Touches d e (e.orderRelease d) :=
  ((((e.releasePhase_touches d).trans (Ev.zeroRetry_touches _ d)).trans (Ev.dropCond_touches _ d _)).trans
    (Ev.dropCond_touches _ d _)).trans (Ev.dropCond_touches _ d _)

/-- An admission touches the door of the head entry only. -/
theorem Ev.admitHead_touches (e : Ev) (q : Queued) : Ev.Touches q.slot e (e.admitHead q) :=
  ((e.modDoor_touches q.slot _).trans (Ev.place_touches _ q.slot _)).trans (Ev.toPhase_touches _ q.slot _)

end Sys2Proof.Machine
end

