-- ==== Sys2Proof/Tests/Slice0.lean ====
section
/-! SUPPORT. Tests of the model, each about one step or one function on a small state, with expected values worked
from the spec; and for each statement for the provers with hypotheses, a state and operands that meet them. -/

namespace Sys2Proof.Tests

set_option Elab.async false

open Sys2Proof Sys2Proof.Machine

/-! ### A small part -/

/-- A record from numbers. -/
def record (t i : Nat) (bs : List Nat) : Record := ⟨t, i, bs.map (BitVec.ofNat 8)⟩

/-- A small table set: two branches, two zones, one group of budget 6, four doors, two panels. Doors 0 and 1 lie in
zone 0 on branch 0, doors 2 and 3 in zone 1 on branches 0 and 1; their draws are 3, 4, 2 and 5, their warning leads
5, 0, 4 and 2 tenths. Panel 4 holds every right, panel 5 only MODE, for zone 0 and door 0. -/
def table : TableSet :=
  [ record 1 0 [29, 0, 150, 65, 65, 65, 65, 65, 65, 65, 65],
    record 2 0 [1, 1, 15], record 2 1 [1, 1, 4], record 3 0 [3], record 3 1 [5],
    record 4 0 [6, 0, 200, 25, 1, 244, 0, 100],
    record 5 0 [0, 0, 0, 0, 0, 1, 0x03, 0x00, 0, 100, 10, 5, 0, 3],
    record 5 1 [0, 0, 0, 0, 0, 2, 0x04, 0x00, 0, 100, 10, 0, 0, 0],
    record 5 2 [0, 0, 0, 0, 0, 3, 0x12, 0x00, 0, 100, 10, 4, 0, 5],
    record 5 3 [0, 0, 0, 0, 0, 4, 0x15, 0x10, 0, 100, 10, 2, 0, 4],
    record 6 0 [4, 0x1F, 255, 255, 255, 255, 255, 255, 255, 255, 255, 255],
    record 6 1 [5, 0x01, 0, 1, 0, 0, 0, 0, 0, 0, 0, 1],
    record 7 0 [0x80, 0, 0, 2, 0, 0, 1], record 7 1 [0x84, 20, 31, 2, 0, 0, 2],
    record 7 2 [0x84, 21, 31, 2, 0, 0, 3] ]

/-- A report at a position, with its limits, motion and handle. -/
def report (q : Nat) (closed opened : Bool) (m : Sway) (h : Handle) : Report :=
  ⟨.none, q, closed, opened, false, m, h, some 200, 3, 990⟩

/-- A still report at the closed end. -/
def closedReport : Report := report 1000 true false .still .idle

/-- A still report at the open end. -/
def openReport : Report := report 0 false true .still .idle

/-- An ONLINE door of an address with a last report. -/
def bound (a : Nat) (r : Report) : Door :=
  { Door.blank with link := .online, binding := some a, report := some r }

/-- Put a door record into a slot, and bring the live image into line. -/
def withDoor (s : State) (d : Slot) (r : Door) : State :=
  let t := { s with doors := s.doors.set d r }
  { t with ind := { t.ind with live := t.picture } }

/-- The station id of the small part. -/
def own : Station := 3

/-- The small part at uptime 1000: its table ACTIVE in bank A, doors 0 and 1 ONLINE and OPEN, door 2 ONLINE and
CLOSED, door 3 unbound; branches 0 and 1 POLLING, with a poll of address 1 in flight on branch 0. -/
def base : State :=
  let s : State :=
    { State.off (.stored table (checkValue table)) untiedPins 0 [] with
      powered := true
      uptime := 1000
      banks := ⟨⟨.active, table, checkValue table⟩, .blank⟩
      trunk := .blank own
      alarms := ⟨[], [], 1200⟩
      heel := ⟨⟨some 20, 990, true⟩, .blank, true⟩
      branches :=
        ((Vector.replicate 4 Branch.blank).set 0
            { Branch.blank with state := .polling, inFlight := some ⟨1, .none, .regular⟩ }).set 1
          { Branch.blank with state := .polling }
      doors :=
        ((((Vector.replicate 64 Door.blank).set 0 (bound 1 openReport)).set 1 (bound 2 openReport)).set 2
          (bound 3 closedReport)).set 3 { Door.blank with conds := { Conds.empty with linkLost := true } } }
  { s with ind := ⟨s.picture, some s.picture, 17, 998, 0⟩ }

/-- A frame from panel 4 to the part. -/
def panel4 : Route := ⟨4, own⟩

/-- A frame from the service station to the part. -/
def service : Route := ⟨29, own⟩

/-- The outcome is a next state that a check accepts. -/
def answers (o : Host.Outcome State Fault Refusal) (p : State → Bool) : Bool :=
  match o with
  | .next t => p t
  | _ => false

/-- The small part with the record of door 0 replaced. -/
def door0 (r : Door) : State := withDoor base 0 r

/-- An admission of door 0 to a close of origin ORDER, whose issue deadline is uptime 1000. -/
def admission : Admission := ⟨.closing, .order, .order, 3, 867, 128, 1000, none⟩

/-- A motion of door 0 towards CLOSED that started at uptime 872 with an allowance of 128 tenths. -/
def motion : Motion := ⟨.closing, .remote, .remote, 3, 872, 0, 128, 0⟩

/-- Door 0 in WARNING. -/
def warning (lead : Option Time) : Door :=
  { bound 1 openReport with phase := .warning, slot := .warnOn, move := .admitted { admission with leadStart := lead } }

/-- Door 0 in DRIVING with a started motion. -/
def driving (m : Motion) : Door :=
  { bound 1 (report 500 false false .closing .idle) with phase := .driving, move := .started m }

/-- A STATUS reply with a pressure of 200 bar and class 3. -/
def reply (address echo position switches : Nat) : List Byte :=
  let b := [byte address, byte echo] ++ nat16 position ++ [byte switches] ++ nat16 200 ++ [byte 3]
  b ++ bytes16 (crc b)

/-- The small part with zone 0 in DOORS-CLOSED mode and doors 0 and 1 at CLOSED. -/
def closedPart : State :=
  withDoor (withDoor { base with zones := base.zones.set 0 ⟨true, some 4, 900⟩ } 0 (bound 1 closedReport)) 1
    (bound 2 closedReport)

/-- The small part with bank B in a state with a set. -/
def withB (st : BankState) : State := { base with banks := { base.banks with b := ⟨st, table, checkValue table⟩ } }

/-- The small part with an alarm list. -/
def withAlarms (es : List AlarmEntry) : State :=
  let s := { base with alarms := { base.alarms with entries := es } }
  { s with ind := { s.ind with live := s.picture } }

/-- The small part with 64 entries of STALL, of which the first `n` are inactive and the others acknowledged, and
with marks. -/
def crowded (n : Nat) (marks : List Mark) : State :=
  let s := { base with alarms :=
    ⟨slots.map fun d => ⟨.door d, .stall, 900, n ≤ d.val, if n ≤ d.val then some 5 else none, 1⟩, marks, 1200⟩ }
  { s with ind := { s.ind with live := s.picture } }

/-- The small part with a run on branch 0. -/
def enrolling (r : Run) : State :=
  { base with branches := base.branches.set 0 { base.branches[0] with state := .enrolling r, inFlight := none } }

/-- A table set of a device and one branch. -/
def tiny : TableSet := [record 1 0 [29, 0, 150, 65, 65, 65, 65, 65, 65, 65, 65], record 2 0 [1, 1, 15]]

/-- The small part with bank B in a state with the tiny set. -/
def withTiny (st : BankState) : State := { base with banks := { base.banks with b := ⟨st, tiny, checkValue tiny⟩ } }

/-! ### Functions of the rules -/

/-- Section 7.8: the nine bytes 31H to 39H give 29B1H. -/
theorem test_crc_of_the_nine_bytes :
    crc [0x31, 0x32, 0x33, 0x34, 0x35, 0x36, 0x37, 0x38, 0x39] = 0x29B1#16 := by decide +kernel

/-- The door record of section 4.2. -/
def door17 : DoorRec := ⟨1, 0, 0, 0, 3, 250, 20, 30, 0⟩

/-- The group record of section 4.2. -/
def group17 : GroupRec := ⟨12, 200, 25, 600, 150⟩

/-- Section 4.2 (Table 4-3), and cases A, C, D, E of Table 4-4. -/
theorem test_allowance_of_door_17 :
    allowance door17 group17 123 (some 160) = 488 ∧ allowance door17 group17 380 (some 160) = 600
      ∧ allowance door17 group17 123 (some 20) = 600 ∧ allowance door17 group17 123 none = 600
      ∧ allowance door17 group17 123 (some 380) = 390 := by decide +kernel

/-- Cases F, G and H of section 4.3. -/
theorem test_allowance_at_its_limits :
    allowance { door17 with heelFactor := 0 } { group17 with margin := 0 } 0 (some 200) = 250
      ∧ allowance { door17 with tNom := 560, heelFactor := 50 } ⟨12, 300, 0, 1200, 150⟩ 310 (some 300) = 1200
      ∧ allowance { door17 with tNom := 200, heelFactor := 0 } ⟨12, 75, 0, 600, 150⟩ 0 none = 406 := by
  decide +kernel

/-- The rows of Table 4-7: expected positions and lagging reports of a close. -/
theorem test_lag_of_a_close :
    let m : Motion := ⟨.closing, .order, .order, 3, 12241, 0, 488, 0⟩
    m.lagAfter 12251 15 150 = 0 ∧ m.expected 200 = 409 ∧ m.lagging 200 300 150 = false
      ∧ m.lagging 300 450 150 = true ∧ m.lagging 320 520 150 = false ∧ m.lagging 360 560 150 = true
      ∧ ({ m with lag := 1 }).stalls 12601 560 150 = true ∧ ({ m with lag := 1 }).stalls 12601 590 150 = false := by
  decide +kernel

/-- Section 4.7: a close from 400, and opens from 1000 and 800. -/
theorem test_expected_positions :
    (Motion.mk .closing .order .order 3 0 400 300 0).expected 150 = 700
      ∧ (Motion.mk .opening .order .order 3 0 1000 300 0).expected 150 = 500
      ∧ (Motion.mk .opening .order .order 3 0 800 300 0).expected 120 = 480
      ∧ (Motion.mk .opening .order .order 3 0 1000 488 0).expected 200 = 591 := by decide +kernel

/-- Table 1-7 at its limits: position 980 with the closed limit, 20 with the open limit. -/
theorem test_door_state_of_a_report :
    (report 980 true false .still .idle).doorState = .closed
      ∧ (report 979 true false .still .idle).doorState = .disagree
      ∧ (report 20 false true .opening .idle).doorState = .movingOpen
      ∧ (report 21 false true .still .idle).doorState = .disagree
      ∧ (report 500 false false .still .idle).doorState = .intermediate := by decide +kernel

/-- Tables 9-2 and 9-4: CLOSE-ZONE 0 with tag 7 from station 4 to station 3 at priority 1, byte by byte. -/
theorem test_trunk_frame_bytes :
    parseFrame [0x40, 0x83, 0x04, 0x01, 0x00, 0x00, 0x07, 0xB9, 0xB7] = some ⟨0, ⟨4, 3⟩, [1, 0, 0, 7]⟩
      ∧ parseFrame [0x40, 0x83, 0x04, 0x01, 0x00, 0x00, 0x07, 0xB9, 0xB6] = none := by decide +kernel

/-- Table 8-4: address 1, echo WARN-ON, position 500, obstruction, CLOSING, 160 bar, class 3, byte by byte. -/
theorem test_status_reply_bytes :
    parseStatus 1 1000 [0x01, 0x04, 0x01, 0xF4, 0x0C, 0x00, 0xA0, 0x03, 0x26, 0xF4]
        = some ⟨.warnOn, 500, false, false, true, .closing, .idle, some 160, 3, 1000⟩
      ∧ parseStatus 2 1000 [0x01, 0x04, 0x01, 0xF4, 0x0C, 0x00, 0xA0, 0x03, 0x26, 0xF4] = none := by
  decide +kernel

/-- Table 7-6: zone 3 and draw 9 in byte 6, branch 2 and group 5 in byte 7. -/
theorem test_door_record_bytes :
    DoorRec.decode [0, 0, 0, 0, 1, 2, 0x39, 0x25, 0x00, 0xFA, 20, 30, 0x01, 0x2C]
      = ⟨0x102, 2, 3, 5, 9, 250, 20, 30, 300⟩ := by decide +kernel

/-- Section 7.10: T_cap 90 of group 3 is the first fault, found before a door without its group. -/
theorem test_validation_finds_the_first_fault :
    validate 12 table = none
      ∧ validate 12 (putRecord (putRecord table (record 4 3 [6, 0, 200, 25, 0, 90, 0, 100]))
          (record 5 7 [0, 0, 0, 0, 0, 9, 0x03, 0x05, 0, 100, 10, 5, 0, 3])) = some ⟨4, 3, .range⟩
      ∧ validate 12 (putRecord table (record 5 7 [0, 0, 0, 0, 0, 9, 0x03, 0x05, 0, 100, 10, 5, 0, 3]))
          = some ⟨5, 7, .missing⟩
      ∧ validate 12 (putRecord table (record 5 15 [0, 0, 0, 0, 0, 1, 0x03, 0x00, 0, 100, 10, 5, 0, 3]))
          = some ⟨5, 15, .duplicate⟩
      ∧ validate 4 table = some ⟨6, 0, .duplicate⟩ := by decide +kernel

/-- Section 9.5: sources 8 to 15 pass the mask 18H of entry 1 on the own id, 16 does not. -/
theorem test_acceptance_mask :
    let v : AcceptRec := ⟨true, 0, 8, 0x18, 0, 0, 0, 1⟩
    v.admits 12 ⟨0, ⟨9, 12⟩, [5, 0, 0, 0]⟩ = true ∧ v.admits 12 ⟨0, ⟨9, 31⟩, [5, 0, 0, 0]⟩ = false
      ∧ v.admits 12 ⟨0, ⟨16, 12⟩, [5, 0, 0, 0]⟩ = false := by decide +kernel

/-! ### One step of each command -/

/-- R174: the stored set is loaded into bank A, and each enabled branch starts a FRESH run. -/
theorem test_power_on_reset :
    answers (exec (.powerOnReset untiedPins) (State.off (.stored tiny (checkValue tiny)) untiedPins 0 [])) (fun t =>
      t.banks.a.state == .active && t.mgr.events == 0x0001#16 && t.trunk.ownId == 30#5
        && t.branches[0].state == .enrolling ⟨.fresh, 0, [], .calling⟩
        && t.branches[0].sent == [.unassign, .call 1 15] && t.branches[2].state == .disabled) = true := by
  decide +kernel

/-- R176: the zone mode stays, the links are PENDING without a report, RESTART-PIN is set. -/
theorem test_restart_pin :
    answers (exec (.restartPin untiedPins) closedPart) (fun t =>
      t.uptime == 0 && t.zones[0] == ⟨true, some 4, 0⟩ && t.doors[0].link == .pending
        && t.doors[0].report == none && t.mgr.events == 0x0002#16) = true := by decide +kernel

/-- The frame of `test_trunk_frame_bytes` closes zone 0. -/
theorem test_trunk_frame :
    answers (exec (.trunkFrame [0x40, 0x83, 0x04, 0x01, 0x00, 0x00, 0x07, 0xB9, 0xB7]) base) (fun t =>
      t.zones[0].closed) = true := by decide +kernel

/-- R31, R54: door 0 is admitted, and door 1, whose draw 4 exceeds the free figure 3, waits. -/
theorem test_close_zone :
    answers (exec (.closeZone panel4 0 7) base) (fun t =>
      t.zones[0] == ⟨true, some 4, 1000⟩ && t.doors[0].phase == .warning && t.doors[1].phase == .queued
        && t.free 0 == 3 && t.trunk.answers == [⟨own, 4, [7, 1, 2, 0]⟩]) = true := by decide +kernel

/-- R31: the zones that have a record and the four lines. -/
theorem test_close_all :
    answers (exec (.closeAll panel4 7) base) (fun t =>
      t.zones[0].closed && t.zones[1].closed && !t.zones[2].closed && t.branches[3].latch
        && t.branches[3].sense == .own && t.trunk.answers == [⟨own, 4, [7, 2, 2, 0]⟩]) = true := by decide +kernel

/-- R32: the zone is released with set-by and set-at of the command. -/
theorem test_release_zone :
    answers (exec (.releaseZone panel4 0 7) closedPart) (fun t =>
      t.zones[0] == ⟨false, some 4, 1000⟩ && t.trunk.answers == [⟨own, 4, [7, 3, 1, 0]⟩]) = true := by
  decide +kernel

/-- R32, R42: the latch of branch 0 is released, and its line, low, reads EXTERNAL. -/
theorem test_release_all :
    answers (exec (.releaseAll panel4 7)
        { closedPart with
          pins := ⟨31#5, (Vector.replicate 4 false).set 0 true⟩
          branches := closedPart.branches.set 0 { closedPart.branches[0] with latch := true, sense := .own } })
      (fun t => !t.zones[0].closed && !t.branches[0].latch && t.branches[0].sense == .external
        && t.trunk.answers == [⟨own, 4, [7, 4, 1, 0]⟩]) = true := by decide +kernel

/-- R33, R56, R72: a close of origin REMOTE is admitted; heel 2.0 degrees gives 100, 102, 102, 128 tenths. -/
theorem test_door_close :
    answers (exec (.doorClose panel4 0 7) base) (fun t =>
      t.doors[0].move == .admitted ⟨.closing, .remote, .remote, 3, 1000, 128, 1133, none⟩
        && t.doors[0].slot == .warnOn && t.trunk.answers == [⟨own, 4, [7, 5, 2, 0]⟩]) = true := by decide +kernel

/-- R34, R56: an open needs no warning; the slot takes OPEN. -/
theorem test_door_open :
    answers (exec (.doorOpen panel4 2 7) base) (fun t =>
      t.doors[2].phase == .driving && t.doors[2].slot == .openDoor
        && t.trunk.answers == [⟨own, 4, [7, 6, 2, 0]⟩]) = true := by decide +kernel

/-- R35, R67: HALT is placed, and the draw stays in a HALT hold. -/
theorem test_door_stop :
    answers (exec (.doorStop panel4 0 7) (door0 (driving motion))) (fun t =>
      t.doors[0].phase == .idle && t.doors[0].slot == .halt && t.committed 0 == 3
        && t.doors[0].holds == [⟨3, .halt (some (872, 128))⟩]
        && t.trunk.answers == [⟨own, 4, [7, 7, 2, 0]⟩]) = true := by decide +kernel

/-- R110: an inactive entry is removed when it is acknowledged. -/
theorem test_ack :
    answers (exec (.ack panel4 0 2 7) (withAlarms [⟨.door 0, .stall, 900, false, none, 1⟩])) (fun t =>
      t.alarms.entries == [] && t.trunk.answers == [⟨own, 4, [7, 8, 1, 0]⟩]) = true := by decide +kernel

/-- R111: an active entry stays, acknowledged by panel 4. -/
theorem test_ack_all :
    answers (exec (.ackAll panel4 7)
        (withAlarms [⟨.device, .heelStale, 900, true, none, 2⟩, ⟨.branch 1, .foreignUnit, 910, false, none, 1⟩]))
      (fun t => t.alarms.entries == [⟨.device, .heelStale, 900, true, some 4, 2⟩]
        && t.trunk.answers == [⟨own, 4, [7, 9, 1, 0]⟩]) = true := by decide +kernel

/-- R111: the marks are acknowledged in the pass; the one place freed is then filled from the first of them, which
joins unacknowledged. -/
theorem test_ack_all_fills_once :
    answers (exec (.ackAll panel4 7) (crowded 1 [⟨.door 1, .localOpen, none⟩, ⟨.door 2, .localOpen, none⟩]))
      (fun t => t.alarms.entries.getLast? == some ⟨.door 1, .localOpen, 1000, true, none, 1⟩
        && t.alarms.entries.length == 64 && t.alarms.marks == [⟨.door 2, .localOpen, some 4⟩]) = true := by
  decide +kernel

/-- Case B of Table 4-4: -520 is taken as -450. -/
theorem test_heel :
    answers (exec (.heel ⟨20, broadcast⟩ 0xFDF8#16) base) (fun t =>
      t.heel.primary == ⟨some (-450), 1000, true⟩) = true := by decide +kernel

/-- Table 10-6: vendor code 3AH, part code 1BE4H, own id 3, A ACTIVE, B EMPTY. -/
theorem test_identify :
    answers (exec (.identify service 9 0) base) (fun t =>
      t.trunk.replies.map (fun f => (f.payload.take 9, f.payload.drop 10))
        == [([1, 9, 1, 0, 0, 0, 0x3A, 0x1B, 0xE4], [3, 4, 0])]) = true := by decide +kernel

/-- Table 10-7, page 4: generation 17, last freeze 998, no part outstanding, no error; and page 3: PRIMARY, 2.0 degrees
at an age of 10, and a secondary value that is absent at an age of 1000. -/
theorem test_read_status :
    answers (exec (.readStatus service 9 4) base) (fun t =>
        t.trunk.replies == [⟨own, 29, [2, 9, 1, 0, 0, 0, 17, 0, 0, 3, 0xE6, 0, 0]⟩]) = true
      ∧ answers (exec (.readStatus service 9 3) base) (fun t =>
        t.trunk.replies == [⟨own, 29, [2, 9, 1, 0, 0, 0, 12, 0, 20, 0, 20, 0, 10, 0, 0, 3, 0xE8]⟩]) = true := by
  refine ⟨?_, ?_⟩ <;> decide +kernel

/-- Table 10-8, part 0: door 0 fitted, ONLINE, OPEN, address 1. -/
theorem test_read_door :
    answers (exec (.readDoor service 9 0 0) base) (fun t =>
      t.trunk.replies == [⟨own, 29, [3, 9, 1, 0, 0, 0, 0xC1, 1, 0, 0, 0, 0, 0, 0, 0, 0, 0]⟩]) = true := by decide +kernel

/-- Table 10-6: zone 1 of bank A has priority 5. -/
theorem test_read_record :
    answers (exec (.readRecord service 9 0 3 1 0) base) (fun t =>
      t.trunk.replies == [⟨own, 29, [4, 9, 1, 0, 0, 0, 1, 5]⟩]) = true := by decide +kernel

/-- Table 10-9: chunk 0 gives snapshot number 1, one entry, one of them unacknowledged, no mark. -/
theorem test_read_alarms :
    answers (exec (.readAlarms service 9 0) (withAlarms [⟨.device, .heelStale, 900, true, none, 2⟩])) (fun t =>
      t.trunk.replies == [⟨own, 29, [5, 9, 1, 0, 0, 0, 1, 1, 1, 0, 0]⟩] && t.mgr.snapshot.isSome) = true := by
  decide +kernel

/-- R162: the bank that is not ACTIVE is emptied. -/
theorem test_load_begin :
    answers (exec (.loadBegin service 9) (withB .ready)) (fun t =>
      t.banks.b == ⟨.loading, [], 0⟩ && t.trunk.replies == [⟨own, 29, [6, 9, 1, 0, 0, 0]⟩]) = true := by decide +kernel

/-- R163: a zone record takes one byte. -/
theorem test_load_chunk :
    answers (exec (.loadChunk service 9 3 1 [2]) (withB .loading)) (fun t =>
      lookup t.banks.b.set 3 1 == some [2] && lookup t.banks.b.set 3 0 == some [3]) = true := by decide +kernel

/-- R163: a wrong check value empties the bank, and the reply carries CHECK. -/
theorem test_load_end :
    answers (exec (.loadEnd service 9 0) (withTiny .loading)) (fun t =>
      t.banks.b == ⟨.empty, [], 0⟩ && t.trunk.replies == [⟨own, 29, [8, 9, 5, 0, 0, 5]⟩]) = true := by
  decide +kernel

/-- R164, R165: all groups are quiescent, and bank B is ACTIVE at once. -/
theorem test_activate :
    answers (exec (.activate service 9) (withB .ready)) (fun t =>
      t.banks.b.state == .active && t.banks.a.state == .retired && t.doors[0].link == .online) = true := by
  decide +kernel

/-- R118: doors 2 and 3 leave the set; the entry of door 2 is REMOVED, the mark of door 3 is dropped without a notice,
and then the place is filled from the mark that is left. -/
theorem test_activate_drops_then_fills :
    let set := table.filter fun r => !(r.table == 5 && 2 ≤ r.index)
    answers (exec (.activate service 9)
        { crowded 0 [⟨.door 3, .localOpen, none⟩, ⟨.device, .heelStale, none⟩] with
          banks := { base.banks with b := ⟨.ready, set, checkValue set⟩ } })
      (fun t => t.trunk.notices.map (fun f => f.payload.take 3) == [[5, 2, 2], [5, 3, 2], [1, 68, 11]]
        && t.alarms.marks == []) = true := by
  decide +kernel

/-- R164: a group with an admission is not quiescent, and the bank waits. -/
theorem test_rollback :
    answers (exec (.rollback service 9) { withB .retired with doors := (door0 (driving motion)).doors }) (fun t =>
      t.banks.b.state == .pending && t.banks.a.state == .active) = true := by decide +kernel

/-- R172: the engine copies the ACTIVE bank. -/
theorem test_store :
    answers (exec (.store service 9) base) (fun t =>
      t.store.pinned == some .a && t.trunk.replies == [⟨own, 29, [11, 9, 1, 0, 0, 0]⟩]) = true := by decide +kernel

/-- R173: an image that reads back as something else sets STORE-FAILED. -/
theorem test_store_end :
    answers (exec (.storeEnd .bad) { base with store := ⟨.bad, some .a, 30⟩ }) (fun t =>
      t.store == ⟨.bad, none, 0⟩ && t.mgr.events == 0x0020#16) = true := by decide +kernel

/-- R142: FRESH takes the bindings of the branch and sends UNASSIGN and CALL. -/
theorem test_enroll :
    answers (exec (.enroll service 9 1 0) base) (fun t =>
      t.branches[1].state == .enrolling ⟨.fresh, 0, [], .calling⟩
        && t.branches[1].sent == [.unassign, .call 1 4] && t.doors[0].link == .online) = true := by decide +kernel

/-- R147: the list of branch 0 is empty, and FOREIGN-UNIT is cleared. -/
theorem test_forget_foreign :
    answers (exec (.forgetForeign service 9 0)
        { withAlarms [⟨.branch 0, .foreignUnit, 900, true, none, 1⟩] with
          branches := base.branches.set 0 { base.branches[0] with foreign := [⟨77, some 4⟩] } })
      (fun t => t.branches[0].foreign == []
        && t.alarms.entries == [⟨.branch 0, .foreignUnit, 900, false, none, 1⟩]) = true := by decide +kernel

/-- R168: the restart waits for the transmission of the reply. -/
theorem test_restart_request :
    answers (exec (.restartRequest service 9) base) (fun t =>
      t.trunk.replies == [⟨own, 29, [14, 9, 1, 0, 0, 0]⟩] && t.uptime == 1000) = true := by decide +kernel

/-- R152: a notice is sent before a reply. -/
theorem test_transmit_start :
    answers (exec .transmitStart
        { base with trunk := { base.trunk with notices := [⟨own, 31, []⟩], replies := [⟨own, 29, [14, 9, 1, 0, 0, 0]⟩] } })
      (fun t => t.trunk.sending == some .notice) = true := by decide +kernel

/-- Section 9.5: the winning DOOR-STOP is answered behind the frame that lost, and no error is counted. -/
theorem test_arbitration_lost :
    answers (exec (.arbitrationLost (trunkBytes 1 0 4 own [7, 0, 0, 8]))
        { base with trunk := { base.trunk with answers := [⟨own, 9, [1, 1, 1, 0]⟩], sending := some .answer, errors := 4 } })
      (fun t => t.trunk.answers == [⟨own, 9, [1, 1, 1, 0]⟩, ⟨own, 4, [8, 7, 1, 0]⟩] && t.trunk.sending == none
        && t.trunk.errors == 4) = true := by decide +kernel

/-- R154: TRUNK-FAULT is raised at the sixteenth error. -/
theorem test_transmit_error :
    answers (exec .transmitError
        { base with trunk := { base.trunk with replies := [⟨own, 29, [2]⟩], sending := some .reply, errors := 15 } })
      (fun t => t.trunk.errors == 16 && t.trunk.replies == [⟨own, 29, [2]⟩]
        && t.alarms.entries == [⟨.device, .trunkFault, 1000, true, none, 1⟩]) = true := by decide +kernel

/-- R168, R45: the transmission of the reply to RESTART takes the restart, with the straps read again and the released
lines sampled at once. -/
theorem test_transmit_success :
    answers (exec (.transmitSuccess ⟨12, Vector.replicate 4 true⟩)
        { base with trunk := { base.trunk with replies := [⟨own, 29, [14, 9, 1, 0, 0, 0]⟩], sending := some .reply } })
      (fun t => t.uptime == 0 && t.trunk.ownId == 12#5 && t.mgr.events == 0x0004#16
        && t.branches[3].sense == .external) = true := by decide +kernel

/-- R58: the echo of CLOSE starts the motion at the position of the report. -/
theorem test_status_reply :
    answers (exec (.statusReply 0 (reply 1 1 12 0))
        (door0 { warning (some 990) with phase := .driving, slot := .close }))
      (fun t => t.doors[0].move == .started ⟨.closing, .order, .order, 3, 1000, 12, 128, 0⟩
        && t.doors[0].slot == .none) = true := by decide +kernel

/-- R109, R113: the CLOSED door clears LINK-LOST, whose entry leaves a full list, and LOCAL-OPEN, whose mark is dropped
as a mark; the place is then filled from the mark that is left. -/
theorem test_status_reply_fills_once :
    let a := (crowded 0 []).alarms
    let s := door0
      { bound 1 closedReport with link := .lost, conds := { Conds.empty with linkLost := true, localOpen := true } }
    answers (exec (.statusReply 0 (reply 1 0 1000 1))
        { s with alarms :=
          { a with
            entries := ⟨.door 0, .linkLost, 900, true, some 4, 1⟩ :: a.entries.drop 1
            marks := [⟨.door 0, .localOpen, none⟩, ⟨.door 1, .localOpen, none⟩] } })
      (fun t => t.trunk.notices.map (fun f => f.payload.take 3) == [[5, 0, 6], [3, 0, 8], [1, 1, 8]]
        && t.alarms.marks == []) = true := by decide +kernel

/-- R8, R66: the third miss loses the link, and the draw stays in a hold to the motion's deadline. -/
theorem test_poll_miss :
    answers (exec (.pollMiss 0) { door0 { driving { motion with start := 900 } with miss := 2 } with uptime := 1000 })
      (fun t => t.doors[0].link == .lost && t.doors[0].phase == .idle
        && t.doors[0].holds == [⟨3, .linkLost 1028⟩] && t.committed 0 == 3) = true := by decide +kernel

/-- R43, R37: a line that reads low is EXTERNAL, and the doors of its branch hold an order. -/
theorem test_line_sample :
    answers (exec (.lineSample 0 true) base) (fun t =>
      t.branches[0].sense == .external && t.orderHeld 0 && !t.orderHeld 3 && t.doors[0].phase == .warning) = true := by
  decide +kernel

/-- R21: a close of origin RECLOSE. -/
theorem test_dwell_expiry :
    answers (exec (.dwellExpiry 0) (door0 { bound 1 openReport with phase := .dwell, timer := .dwell 1000 })) (fun t =>
      t.doors[0].move == .admitted ⟨.closing, .reclose, .order, 3, 1000, 128, 1133, none⟩) = true := by decide +kernel

/-- R68: a retry of an open that a panel asked for. -/
theorem test_retry_expiry :
    answers (exec (.retryExpiry 0)
        (door0 { bound 1 closedReport with phase := .retryWait, timer := .retry 1000 .opening .remote .remote, retry := 1 }))
      (fun t => t.doors[0].phase == .driving && t.doors[0].retry == 2 && t.doors[0].slot == .openDoor) = true := by
  decide +kernel

/-- R57: a lead of 5 tenths runs out. -/
theorem test_warning_lead_expiry :
    answers (exec (.warningLeadExpiry 0) (door0 (warning (some 995)))) (fun t =>
      t.doors[0].phase == .driving && t.doors[0].slot == .close) = true := by decide +kernel

/-- R59: WARN-OFF is placed from WARNING, and TRAVEL-TIMEOUT is entered. -/
theorem test_issue_deadline_expiry :
    answers (exec (.issueDeadlineExpiry 0) (door0 (warning none))) (fun t =>
      t.doors[0].phase == .idle && t.doors[0].slot == .warnOff
        && t.doors[0].conds.travelTimeout == some .closing && t.committed 0 == 0) = true := by decide +kernel

/-- R81, R63: the motion started at 872 with 128 tenths ends TIMEOUT at 1000, and no command is placed. -/
theorem test_deadline_expiry :
    answers (exec (.deadlineExpiry 0) (door0 (driving motion))) (fun t =>
      t.doors[0].phase == .idle && t.doors[0].slot == .none
        && t.alarms.entries == [⟨.door 0, .travelTimeout, 1000, true, none, 1⟩]) = true := by decide +kernel

/-- R48: the hold ends at its expiry; the later one stays. -/
theorem test_link_lost_hold_expiry :
    answers (exec (.linkLostHoldExpiry 0)
        (door0 { bound 1 openReport with holds := [⟨3, .linkLost 1000⟩, ⟨1, .linkLost 1001⟩] }))
      (fun t => t.doors[0].holds == [⟨1, .linkLost 1001⟩]) = true := by decide +kernel

/-- R77, R79: the value is kept, and HEEL-STALE is raised. -/
theorem test_heel_source_stale :
    answers (exec (.heelSourceStale .primary)
        { base with heel := ⟨⟨some 20, 949, true⟩, .blank, true⟩ }) (fun t =>
      t.heel.primary == ⟨some 20, 949, false⟩
        && t.alarms.entries == [⟨.device, .heelStale, 1000, true, none, 1⟩]) = true := by decide +kernel

/-- R79: with a fresh source nothing is raised. -/
theorem test_heel_stale_first_judge :
    answers (exec .heelStaleFirstJudge { base with uptime := 50, heel := { base.heel with judged := false } }) (fun t =>
      t.heel.judged && t.alarms.entries == []) = true := by decide +kernel

/-- R117: the acknowledged entry is passed over, and the timer runs on by 300. -/
theorem test_reannounce_expiry :
    answers (exec .reannounceExpiry
        { withAlarms [⟨.device, .trunkFault, 800, true, some 4, 1⟩, ⟨.door 2, .stall, 900, true, none, 3⟩] with
          alarms := ⟨[⟨.device, .trunkFault, 800, true, some 4, 1⟩, ⟨.door 2, .stall, 900, true, none, 3⟩], [], 1000⟩ })
      (fun t => t.alarms.reannounceAt == 1300
        && t.trunk.notices.map (fun f => f.payload.take 3) == [[6, 2, 2]]) = true := by decide +kernel

/-- R95, R96: a changed image is frozen 2 tenths after the last freeze. -/
theorem test_spacing_point :
    answers (exec .spacingPoint (door0 (bound 1 closedReport))) (fun t =>
      t.ind.generation == 18 && t.ind.lastFreeze == 1000 && t.trunk.parts.length == 5) = true := by decide +kernel

/-- R95: an unchanged image is frozen 20 tenths after the last freeze. -/
theorem test_refresh_point :
    answers (exec .refreshPoint { base with ind := { base.ind with lastFreeze := 980 } }) (fun t =>
      t.ind.generation == 18 && t.ind.outstanding == 5) = true := by decide +kernel

/-- R170: 10 tenths after the last chunk. -/
theorem test_snapshot_release :
    answers (exec .snapshotRelease { base with mgr := { base.mgr with snapshot := some ⟨[], 0, 0, 990⟩ } }) (fun t =>
      t.mgr.snapshot == none) = true := by decide +kernel

/-- R144: the bound doors hold addresses 1 to 3, so serial 9 is assigned address 4. -/
theorem test_call_answer :
    answers (exec (.callAnswer 0 9) (enrolling ⟨.fresh, 2, [(8, 1)], .calling⟩)) (fun t =>
      t.branches[0].sent == [.assign 9 4]
        && t.branches[0].state == .enrolling ⟨.fresh, 0, [(8, 1), (9, 4)], .assigning⟩) = true := by decide +kernel

/-- R145: in the third round without progress the ASSIGN of a recorded serial is sent again, and the run ends. -/
theorem test_call_answer_again :
    answers (exec (.callAnswer 0 1) (enrolling ⟨.add, 2, [(1, 1)], .calling⟩)) (fun t =>
      t.branches[0].sent == [.assign 1 1, .poll 1 .none] && t.branches[0].state == .polling) = true := by
  decide +kernel

/-- R144: the next CALL carries the class window of the branch. -/
theorem test_assign_sent :
    answers (exec (.assignSent 0) (enrolling ⟨.add, 1, [(8, 5)], .assigning⟩)) (fun t =>
      t.branches[0].sent == [.call 1 15]
        && t.branches[0].state == .enrolling ⟨.add, 1, [(8, 5)], .calling⟩) = true := by decide +kernel

/-- R145: the third round without progress ends the run. -/
theorem test_call_answer_fault :
    answers (exec (.callAnswerFault 0) (enrolling ⟨.add, 2, [], .calling⟩)) (fun t =>
      t.branches[0].state == .polling && t.doors[0].link == .online) = true := by decide +kernel

/-- R146: the fitted serial 4 of branch 1 is bound to its address, PENDING. -/
theorem test_call_no_answer :
    answers (exec (.callNoAnswer 1)
        { base with branches := base.branches.set 1 { base.branches[1] with state := .enrolling ⟨.fresh, 0, [(4, 7)], .calling⟩ } })
      (fun t => t.doors[3].binding == some 7 && t.doors[3].link == .pending && t.branches[1].state == .polling
        && t.mgr.events == 0x0040#16) = true := by decide +kernel

/-- R173: a store that runs leaves a torn image. -/
theorem test_power_loss :
    answers (exec .powerLoss { base with store := ⟨.stored table 0, some .a, 3⟩ }) (fun t =>
      !t.powered && t.store.image == .bad) = true := by decide +kernel

/-- The queue: a step runs the front command, and on an empty queue a tenth passes and the free lines are due. -/
theorem test_step :
    answers (step { base with pending := [.snapshotRelease, .transmitStart] }) (fun t =>
      t.pending == [.transmitStart] && t.uptime == 1000)
      ∧ answers (step { base with uptime := 1001 }) (fun t => t.uptime == 1002
        && t.pending == [.lineSample 0 false, .lineSample 1 false, .lineSample 2 false, .lineSample 3 false]) := by
  decide +kernel

/-- No word spells a command: the table gives no row bits. -/
theorem test_no_word_spells_a_command : decodeTableWord 8 1 = none := by decide

/-! ### Ill-formed commands are refused by WellFormed -/

theorem test_wf_of_a_good_command : (Instr.closeZone panel4 0 7).wf = true := by decide +kernel
theorem test_wf_refuses_a_broadcast_source :
    (Instr.closeZone ⟨31, own⟩ 0 7).wf = false ∧ (Instr.heel ⟨31, own⟩ 0).wf = false
      ∧ (Instr.identify ⟨31, own⟩ 0 0).wf = false := by decide +kernel
theorem test_wf_refuses_a_long_frame :
    (Instr.trunkFrame (List.replicate 23 0)).wf = true ∧ (Instr.trunkFrame (List.replicate 24 0)).wf = false
      ∧ (Instr.arbitrationLost (List.replicate 24 0)).wf = false := by decide +kernel
theorem test_wf_refuses_a_long_reply :
    (Instr.statusReply 0 (List.replicate 10 0)).wf = true ∧ (Instr.statusReply 0 (List.replicate 11 0)).wf = false := by
  decide +kernel
theorem test_wf_refuses_a_long_chunk :
    (Instr.loadChunk service 1 5 0 (List.replicate 14 0)).wf = true
      ∧ (Instr.loadChunk service 1 5 0 (List.replicate 15 0)).wf = false := by decide +kernel
theorem test_wf_refuses_an_unordered_image :
    (Instr.storeEnd (.stored [record 3 1 [0], record 3 0 [0]] 0)).wf = false := by decide +kernel

/-! ### States and operands that meet the hypotheses of the statements

`wit_<Name>` is of `Obligations.<Name>`; a conjunct for each clause, at a boundary of its range where it has one. A
hypothesis about the next state stands in `answers`. -/

/-- The record of panel 4. -/
def p4 : PanelRec := ⟨4, 0x1F, 0xFFFF, BitVec.allOnes 64⟩

/-- The record of panel 5. -/
def p5 : PanelRec := ⟨5, 0x01, 1, 1⟩

/-- A part with no bank ACTIVE, its own id 30. -/
def noTable : State := { State.reset with uptime := 5 }

/-- The part with zone 0 in DOORS-CLOSED mode. -/
def closeZone0 (s : State) : State :=
  let t := { s with zones := s.zones.set 0 ⟨true, some 4, 900⟩ }
  { t with ind := { t.ind with live := t.picture } }

/-- The small part with the latch of branch 0 set. -/
def latched : State :=
  let s := { base with branches := base.branches.set 0 { base.branches[0] with latch := true, sense := .own } }
  { s with ind := { s.ind with live := s.picture } }

/-- The small part with the line of branch 0 held low by another party, and LINE-EXTERNAL listed. -/
def lineLow : State :=
  let s := { withAlarms [⟨.branch 0, .lineExternal, 900, true, none, 1⟩] with
    branches := base.branches.set 0 { base.branches[0] with sense := .external } }
  { s with ind := { s.ind with live := s.picture } }

/-- The small part with both heel sources stale and HEEL-STALE listed. -/
def stale : State :=
  { withAlarms [⟨.device, .heelStale, 900, true, none, 1⟩] with heel := ⟨⟨some 20, 800, false⟩, .blank, true⟩ }

/-- A part that waits: bank B PENDING while door 0 drives. -/
def waiting : State := { door0 (driving motion) with banks := (withB .pending).banks }

/-- The part with frames in its classes and one of them on the trunk. -/
def onTrunk (c : TxClass) (errors : Nat) (f : TxFrame) : State :=
  { base with trunk :=
      { base.trunk with notices := [f], answers := [f], parts := [f], replies := [f], sending := some c, errors := errors } }

/-- A full list of 64 entries, with a mark. -/
def fullList : Alarms :=
  ⟨slots.map fun d => ⟨.door d, .stall, 900, true, none, 255⟩, [⟨.door 63, .localOpen, none⟩], 1200⟩

/-- A DOOR command from panel 4 reaches a fitted door that its record covers. -/
abbrev Asked (s : State) (code slot : Byte) (d : Slot) : Prop :=
  s.Commanded panel4 [code, slot, 0, 7] ∧ slotOf slot = some d ∧ s.panel 4 = some p4 ∧ p4.holds .door = true
    ∧ p4.hasDoor d = true ∧ s.fitted d = true ∧ s.doors[d].flowWf = true

/-- The record of door 0. -/
def v0 : DoorRec := ⟨1, 0, 0, 0, 3, 100, 10, 5, 3⟩

/-- A STATUS reply of address 1 on branch 0 finds its poll, its door and no bank PENDING. -/
abbrev Polled (s : State) (bytes : List Byte) (r : Report) : Prop :=
  s.powered = true ∧ s.branches[0].isPolling = true ∧ s.branches[0].inFlight = some ⟨1, .none, .regular⟩
    ∧ parseStatus 1 s.uptime bytes = some r ∧ s.doorAt 0 1 = some 0 ∧ s.doorRec 0 = some v0
    ∧ s.bankPending = false ∧ s.doors[0].flowWf = true ∧ s.doors[0].LinkWf

/-- The report of a reply of the tests. -/
def got (echo : Cmd) (q : Nat) (closed opened obstruction : Bool) (m : Sway) (h : Handle) : Report :=
  ⟨echo, q, closed, opened, obstruction, m, h, some 200, 3, 1000⟩

theorem wit_StepOnEmptyQueueIsATick :
    (base.pending = [] ∧ base.powered = true)
      ∧ ((State.off .bad untiedPins 0 []).pending = [] ∧ (State.off .bad untiedPins 0 []).powered = false) := by
  decide +kernel

theorem wit_CommandsRunAndKeepTheQueue :
    (State.off .bad untiedPins 0 []).powered = false ∧ ∀ pins, Instr.transmitStart ≠ .powerOnReset pins :=
  ⟨rfl, fun _ h => nomatch h⟩

theorem wit_EveryStepKeepsTheAlarmList :
    fullList.Wf ∧ answers (step { base with alarms := fullList, pending := [.closeZone panel4 0 7] }) (fun _ => true) := by
  decide +kernel

theorem wit_EveryStepKeepsTheQueueLimits :
    let s := { base with
      trunk := { base.trunk with replies := [⟨own, 29, []⟩, ⟨own, 29, []⟩], errors := 16 }, pending := [.closeZone panel4 0 7] }
    (s.trunk.Wf ∧ s.PartsWf) ∧ answers (step s) (fun _ => true) := by decide +kernel

theorem wit_EveryStepKeepsTheBanks :
    let s := { base with banks := ⟨⟨.active, tiny, checkValue tiny⟩, ⟨.loading, tiny, 0⟩⟩, pending := [.transmitStart] }
    s.banks.Wf ∧ answers (step s) (fun _ => true) := by decide +kernel

theorem wit_EveryStepKeepsDoorRecords :
    let s := { door0 (driving motion) with pending := [.pollMiss 0] }
    answers (step s) (fun _ => true) ∧ s.BareWf ∧ s.SlotWf ∧ ∀ d : Slot, s.doors[d].CountsWf := by decide +kernel

theorem wit_EveryStepKeepsPhasesAndLinks :
    let s := { door0 (driving motion) with pending := [.pollMiss 0] }
    (∀ d : Slot, s.doors[d].flowWf = true ∧ s.doors[d].LinkWf) ∧ answers (step s) (fun _ => true) := by decide +kernel

/-- The group's flow is committed to the last unit: 3 to the motion of door 0 and 3 to a hold. -/
theorem wit_EveryStepKeepsFlowWithinBudget :
    let s := { door0 { driving motion with holds := [⟨3, .linkLost 1100⟩] } with pending := [.pollMiss 0] }
    s.FlowWf ∧ s.committed 0 = 6 ∧ s.budget 0 = 6 ∧ answers (step s) (fun _ => true) := by decide +kernel

theorem wit_EveryCommandLeavesThePartSettled :
    base.Settled ∧ answers (exec (.closeZone panel4 0 7) base) (fun _ => true) := by decide +kernel

theorem wit_EveryStepKeepsLinesHeelAndBranches :
    let s := { latched with pending := [.lineSample 0 true], heel := ⟨⟨some (-450), 900, true⟩, ⟨some 450, 900, true⟩, true⟩ }
    answers (step s) (fun _ => true) ∧ s.SenseWf ∧ s.heel.Wf
      ∧ (∀ b : BranchId, s.branches[b].ForeignWf ∧ s.branches[b].StateWf) ∧ s.AddressWf ∧ s.RunsWf := by decide +kernel

theorem wit_OnlyReleasesEndZoneModes :
    (answers (exec (.releaseZone panel4 0 7) closedPart) (fun t => t.powered && !t.zones[0].closed)
        ∧ closedPart.zones[0].closed = true)
      ∧ (answers (exec (.closeZone panel4 0 7) base) (fun t => t.powered && t.zones[0].closed)
        ∧ base.zones[0].closed = false ∧ base.banks.StatesWf) := by decide +kernel

theorem wit_OnlyReleaseAllReleasesLatches :
    latched.branches[0].latch = true
      ∧ answers (exec (.releaseAll panel4 7) latched) (fun t => !t.branches[0].latch)
      ∧ answers (exec (.trunkFrame (trunkBytes 1 0 4 own [4, 0, 0, 7])) latched)
          (fun t => !t.branches[0].latch) := by decide +kernel

theorem wit_GenerationsAreFrozenApart :
    (Instr.closeZone panel4 0 7).resets = false
      ∧ answers (exec (.closeZone panel4 0 7) base) (fun t => t.ind.generation != base.ind.generation) := by
  decide +kernel

theorem wit_OrderChangesTouchNoOtherDoor :
    answers (exec (.closeZone panel4 0 7) base) (fun t => base.orderHeld 2 == t.orderHeld 2)
      ∧ base.bankPending = false ∧ base.doors[2].entry = none ∧ base.NoRunFor 2 := by decide +kernel

theorem wit_FramesReadBack : 3 < 4 ∧ 15 < 16 ∧ (List.replicate 18 (0xFF#8 : Byte)).length ≤ 18 := by decide +kernel

theorem wit_FramesDoWhatTheirRowsDo :
    3 < 4 ∧ (panelRow (.ack panel4 68 13 7)).isSome = true
      ∧ (requestRow (.loadChunk service 9 5 63 (List.replicate 14 0))).map (fun r => r.payload.length) = some 18 := by
  decide +kernel

theorem wit_FramesNotTaken :
    (base.powered = true ∧ parseFrame [] = none)
      ∧ (parseFrame (trunkBytes 1 0 4 7 [1, 0, 0, 7]) = some ⟨0, ⟨4, 7⟩, [1, 0, 0, 7]⟩ ∧ base.trunk.ownId ≠ 7)
      ∧ (noTable.powered = true ∧ noTable.trunk.ownId = 30 ∧ noTable.activeSet = none
        ∧ parseFrame (trunkBytes 1 0 4 30 [1, 0, 0, 7]) = some ⟨0, ⟨4, 30⟩, [1, 0, 0, 7]⟩
        ∧ parseFrame (trunkBytes 1 5 4 30 [1, 0, 0]) = some ⟨5, ⟨4, 30⟩, [1, 0, 0]⟩) := by decide +kernel

/-- The full classes of `Obligations.FramesNotTaken`, with no bank ACTIVE and with one: a COMMAND to all, one too short
to be taken, and a request of the service station. -/
theorem wit_FramesNotTaken_full :
    ∀ u ∈ [noTable, base],
      let s := { u with trunk := { u.trunk with
        answers := List.replicate 8 ⟨30, 4, [7, 1, 6, 0]⟩, replies := List.replicate 2 ⟨30, 4, [1]⟩ } }
      8 ≤ s.trunk.answers.length ∧ 2 ≤ s.trunk.replies.length
        ∧ s.classify ⟨0, ⟨4, 31⟩, [2, 0, 0, 7]⟩ = .command ∧ s.classify ⟨0, ⟨4, s.trunk.ownId⟩, []⟩ = .command
        ∧ s.classify ⟨5, ⟨29, s.trunk.ownId⟩, [1, 0, 0]⟩ = .management := by decide +kernel

/-- The clauses of `Obligations.FramesNotTaken` on the classification with a bank ACTIVE. -/
theorem wit_FramesNotTaken_classified :
    base.activeSet ≠ none ∧ (base.deviceRec.map DeviceRec.station) = some ((29 : Station).setWidth 8)
      ∧ (base.acceptance.map fun v => v.admits own ⟨4, ⟨21, 31⟩, [0, 0]⟩) = [false, false, true]
      ∧ base.classify ⟨4, ⟨22, 31⟩, [0, 0]⟩ = .ignore
      ∧ parseFrame (trunkBytes 1 4 22 31 [0, 0]) = some ⟨4, ⟨22, 31⟩, [0, 0]⟩ := by decide +kernel

theorem wit_RefusedCommandsOnlyAnswer :
    (noTable.Settled ∧ noTable.Commanded ⟨4, 30⟩ [2, 0, 0, 7] ∧ noTable.activeSet = none)
      ∧ (base.Settled ∧ base.Commanded ⟨6, own⟩ [2, 0, 0, 7] ∧ base.activeSet ≠ none ∧ base.panel 6 = none)
      ∧ (base.Commanded ⟨5, own⟩ [5, 0, 0, 7] ∧ base.panel 5 = some p5 ∧ p5.holds .door = false)
      ∧ (base.Commanded panel4 [1, 16, 0, 7] ∧ base.panel 4 = some p4 ∧ p4.holds .mode = true
        ∧ (cmdCloseZone 16).operand base p4 = some .badOperand ∧ (cmdCloseZone 15).operand base p4 = some .noZone)
      ∧ (base.Commanded ⟨5, own⟩ [1, 1, 0, 7] ∧ p5.holds .mode = true
        ∧ (cmdCloseZone 1).operand base p5 = some .outOfScope) := by
  refine ⟨?_, ?_, ?_, ?_, ?_⟩ <;> decide +kernel

/-- The codes 0, 10 and 255; and a payload of 3 bytes. -/
theorem wit_RefusedCommandsOnlyAnswer_badCode :
    (∀ c ∈ [(0 : Byte), 10, 255],
      parseFrame (trunkBytes 1 0 4 own [c, 0, 0, 7]) = some ⟨0, panel4, [c, 0, 0, 7]⟩
        ∧ base.deliver ⟨0, panel4, [c, 0, 0, 7]⟩ = .orderUnit ∧ (c = 0 ∨ 9 < c.toNat))
      ∧ parseFrame (trunkBytes 1 0 4 own [2, 0, 0]) = some ⟨0, panel4, [2, 0, 0]⟩
      ∧ base.deliver ⟨0, panel4, [2, 0, 0]⟩ = .orderUnit := by
  refine ⟨?_, ?_, ?_⟩ <;> decide +kernel

/-- Zones 15 and 16, slots 63 and 64, and the first and last kind of each type of subject. -/
theorem wit_OperandsAreCheckedInOrder :
    (panelRow (.closeZone panel4 16 7)).isSome = true ∧ (panelRow (.doorStop panel4 64 7)).isSome = true
      ∧ (panelRow (.ack panel4 63 8 7)).isSome = true ∧ (panelRow (.ackAll panel4 7)).isSome = true
      ∧ [zoneOperand 16 base p4, zoneOperand 15 base p4, zoneOperand 1 base p5, zoneOperand 0 base p5]
        = [some .badOperand, some .noZone, some .outOfScope, none]
      ∧ [doorOperand 64 base p4, doorOperand 63 base p4, doorOperand 1 base p5, doorOperand 0 base p5]
        = [some .badOperand, some .notFitted, some .outOfScope, none]
      ∧ [ackOperand 0 1 base p4, ackOperand 3 8 base p4, ackOperand 3 9 base p4, ackOperand 63 8 base p4]
        = [none, none, some .badOperand, some .notFitted]
      ∧ [ackOperand 64 9 base p4, ackOperand 67 10 base p4, ackOperand 67 11 base p4, ackOperand 68 11 base p4,
          ackOperand 68 13 base p4, ackOperand 68 14 base p4, ackOperand 69 11 base p4]
        = [none, none, some .badOperand, none, none, some .badOperand, some .badOperand] := by
  refine ⟨?_, ?_, ?_, ?_, ?_, ?_, ?_, ?_⟩ <;> decide +kernel

theorem wit_ClosesCloseZonesAndLines :
    (base.panel 4 = some p4 ∧ p4.holds .mode = true ∧ base.banks.StatesWf)
      ∧ (base.Commanded panel4 [1, 0, 0, 7] ∧ zoneOf 0 = some 0 ∧ base.hasZone 0 = true ∧ p4.hasZone 0 = true
        ∧ base.zones[0].closed = false ∧ (base.doorRec 0).map DoorRec.zone = some 0)
      ∧ (closedPart.panel 4 = some p4 ∧ closedPart.banks.StatesWf ∧ closedPart.Commanded panel4 [1, 0, 0, 7]
        ∧ closedPart.hasZone 0 = true ∧ closedPart.zones[0].closed = true)
      ∧ base.Commanded panel4 [2, 0, 0, 7]
      ∧ (lineLow.panel 4 = some p4 ∧ lineLow.banks.StatesWf ∧ lineLow.Commanded panel4 [2, 0, 0, 7]
        ∧ p4.holds .line = true ∧ lineLow.branches[0].sense = .external ∧ lineLow.alarms.Wf
        ∧ lineLow.bankPending = false) := by
  refine ⟨?_, ?_, ?_, ?_, ?_⟩ <;> decide +kernel

/-- The order of door 0 begins with a command, by the premises of `State.OrdersFollow`. -/
def orderBegins (c : Instr) (s : State) : Bool :=
  decide s.banks.StatesWf && !s.bankPending && s.doors[0].flowWf && decide (s.NoRunFor 0) && !s.orderHeld 0
    && answers (exec c s) (fun t => t.orderHeld 0)

/-- The order of door 0 ends with a command, by the premises of `State.OrdersFollow`. -/
def orderEnds (c : Instr) (s : State) : Bool :=
  !s.bankPending && s.doors[0].flowWf && decide (s.NoRunFor 0) && s.orderHeld 0
    && answers (exec c s) (fun t => !t.orderHeld 0)

/-- The closed part with the record of door 0 replaced. -/
def held0 (r : Door) : State := withDoor closedPart 0 r

/-- Door 0 QUEUED with an entry. -/
def queued (dir : Dir) (o : Origin) (basis : Basis) : Door :=
  { bound 1 openReport with phase := .queued, entry := some ⟨dir, o, basis, 900⟩ }

theorem wit_ClosesCloseZonesAndLines_idle :
    orderBegins (.closeZone panel4 0 7) base = true ∧ base.doors[0].withdrawn.phase = .idle
      ∧ base.doors[0].atClosed = false ∧ base.doors[0].handleOpen = false := by decide +kernel

theorem wit_ClosesCloseZonesAndLines_local :
    let r := bound 1 (report 0 false true .still .openSide)
    orderBegins (.closeZone panel4 0 7) (door0 r) = true ∧ r.handleOpen = true := by decide +kernel

theorem wit_ClosesCloseZonesAndLines_kept :
    orderBegins (.closeAll panel4 7) (door0 (warning none)) = true
      ∧ (warning none).withdrawn.phase ≠ .idle := by decide +kernel

theorem wit_ClosesCloseZonesAndLines_closed :
    orderBegins (.closeAll panel4 7) (door0 (bound 1 closedReport)) = true
      ∧ (bound 1 closedReport).atClosed = true := by decide +kernel

theorem wit_ClosesCloseZonesAndLines_queuedOpen :
    orderBegins (.closeZone panel4 0 7) (door0 (queued .opening .remote .remote)) = true
      ∧ (queued .opening .remote .remote).withdrawn.entry = none := by decide +kernel

theorem wit_ClosesCloseZonesAndLines_drivenOpen :
    orderBegins (.closeZone panel4 0 7) (door0 (driving { motion with dir := .opening })) = true
      ∧ (driving { motion with dir := .opening }).withdrawn.slot = .halt := by decide +kernel

theorem wit_ClosesCloseZonesAndLines_pending :
    let s := withB .pending
    s.banks.StatesWf ∧ s.bankPending = true ∧ s.anyZoneClosed = false ∧ s.anyLineHeld = false
      ∧ s.orderHeld 0 = false ∧ answers (exec (.closeZone panel4 0 7) s) (fun t => t.orderHeld 0) := by
  decide +kernel

theorem wit_ReleasesReleaseZonesAndLines_queued :
    orderEnds (.releaseZone panel4 0 7) (held0 (queued .closing .order .order)) = true
      ∧ (queued .closing .order .order).released.entry = none := by decide +kernel

theorem wit_ReleasesReleaseZonesAndLines_kept :
    orderEnds (.releaseZone panel4 0 7) (held0 (queued .closing .remote .remote)) = true
      ∧ (queued .closing .remote .remote).released = queued .closing .remote .remote := by decide +kernel

theorem wit_ReleasesReleaseZonesAndLines_warning :
    orderEnds (.releaseAll panel4 7) (held0 (warning none)) = true
      ∧ (warning none).released.slot = .warnOff := by decide +kernel

theorem wit_ReleasesReleaseZonesAndLines_failed :
    let r := { bound 1 openReport with
      phase := .failed, retry := 3, conds := { Conds.empty with closeFailed := some .closing } }
    orderEnds (.releaseAll panel4 7) (held0 r) = true ∧ r.released.phase = .idle ∧ r.released.retry = 0 := by
  decide +kernel

theorem wit_ReleasesReleaseZonesAndLines :
    (closedPart.panel 4 = some p4 ∧ p4.holds .release = true ∧ closedPart.Commanded panel4 [3, 0, 0, 7]
      ∧ zoneOf 0 = some 0 ∧ closedPart.hasZone 0 = true ∧ p4.hasZone 0 = true
      ∧ closedPart.Commanded panel4 [4, 0, 0, 7])
      ∧ (let s := { latched with pins := { latched.pins with lineLow := latched.pins.lineLow.set 0 true } };
        s.panel 4 = some p4 ∧ s.Commanded panel4 [4, 0, 0, 7] ∧ p4.holds .line = true ∧ s.branches[0].latch = true
          ∧ s.branches[0].sense ≠ .external ∧ s.pins.lineLow[0] = true
          ∧ s.alarms.entry (.branch 0) .lineExternal = none ∧ s.alarms.mark (.branch 0) .lineExternal = none
          ∧ s.alarms.entries.length ≤ 60 ∧ s.bankPending = false) := by
  refine ⟨?_, ?_⟩ <;> decide +kernel

theorem wit_DoorCloseFollowsItsTable :
    (Asked closedPart 5 0 0 ∧ closedPart.Settled ∧ closedPart.doors[0].state = .closed)
      ∧ (Asked base 5 3 3 ∧ base.Settled ∧ base.doors[3].state ≠ .closed ∧ base.doors[3].link ≠ .online)
      ∧ (Asked base 5 0 0 ∧ base.doors[0].state ≠ .closed ∧ base.doors[0].link = .online
        ∧ base.doors[0].phase.local_ = false ∧ base.doors[0].goal ≠ some .closing ∧ base.NoRunFor 0) := by
  refine ⟨?_, ?_, ?_⟩ <;> decide +kernel

theorem wit_DoorCloseFollowsItsTable_local :
    let s := door0 { bound 1 openReport with phase := .dwell, timer := .dwell 1100 }
    Asked s 5 0 0 ∧ s.Settled ∧ s.doors[0].state ≠ .closed ∧ s.doors[0].link = .online
      ∧ s.doors[0].phase.local_ = true := by decide +kernel

theorem wit_DoorCloseFollowsItsTable_moving :
    (let s := door0 (warning none);
      Asked s 5 0 0 ∧ s.Settled ∧ s.doors[0].state ≠ .closed ∧ s.doors[0].link = .online
        ∧ s.doors[0].goal = some .closing)
      ∧ (let s := door0 (driving { motion with dir := .opening });
        Asked s 5 0 0 ∧ s.doors[0].state ≠ .closed ∧ s.doors[0].phase = .driving
          ∧ s.doors[0].phase.local_ = false ∧ s.doors[0].goal ≠ some .closing ∧ s.NoRunFor 0) := by decide +kernel

theorem wit_DoorOpenFollowsItsTable :
    (Asked closedPart 6 0 0 ∧ closedPart.Settled ∧ closedPart.orderHeld 0 = true)
      ∧ (Asked base 6 0 0 ∧ base.Settled ∧ base.orderHeld 0 = false ∧ base.doors[0].goal ≠ some .closing
        ∧ base.doors[0].state = .opened)
      ∧ (Asked base 6 3 3 ∧ base.orderHeld 3 = false ∧ base.doors[3].goal ≠ some .closing
        ∧ base.doors[3].state ≠ .opened ∧ base.doors[3].link ≠ .online)
      ∧ (Asked base 6 2 2 ∧ base.orderHeld 2 = false ∧ base.doors[2].state ≠ .opened ∧ base.doors[2].link = .online
        ∧ base.doors[2].phase = .idle ∧ base.NoRunFor 2) := by
  refine ⟨?_, ?_, ?_, ?_⟩ <;> decide +kernel

theorem wit_DoorOpenFollowsItsTable_moving :
    (let s := door0 (warning none);
      Asked s 6 0 0 ∧ s.Settled ∧ s.orderHeld 0 = false ∧ s.doors[0].goal = some .closing)
      ∧ (let s := door0 (driving { motion with dir := .opening });
        Asked s 6 0 0 ∧ s.Settled ∧ s.orderHeld 0 = false ∧ s.doors[0].goal = some .opening
          ∧ s.doors[0].state ≠ .opened ∧ s.doors[0].link = .online) := by
  refine ⟨?_, ?_⟩ <;> decide +kernel

theorem wit_DoorStopFollowsItsTable :
    (Asked closedPart 7 0 0 ∧ closedPart.orderHeld 0 = true ∧ closedPart.Settled)
      ∧ (let s := door0 (driving motion);
        Asked s 7 0 0 ∧ s.orderHeld 0 = false ∧ s.bankPending = false) := by decide +kernel

theorem wit_AckMarksTheEntry :
    (∀ es ∈ [[⟨.door 0, .stall, 900, true, none, 1⟩], [⟨.door 0, .stall, 900, true, some 4, 1⟩],
        [⟨.door 0, .stall, 900, false, none, 1⟩], ([] : List AlarmEntry)],
      let s := withAlarms es
      s.Commanded panel4 [8, 0, 2, 7] ∧ ackPair 0 2 = some (.door 0, .stall) ∧ s.panel 4 = some p4
        ∧ p4.holds .ack = true ∧ ackOperand 0 2 s p4 = none ∧ s.alarms.Wf ∧ s.Settled)
      ∧ base.Commanded panel4 [8, 0, 4, 7] ∧ ackPair 0 4 = some (.door 0, .closeFailed)
        ∧ base.doors[0].phase ≠ .failed ∧ ackOperand 0 4 base p4 = none := by
  refine ⟨?_, ?_, ?_, ?_, ?_⟩ <;> decide +kernel

/-- The clauses of `Obligations.AckMarksTheEntry` with marks: an inactive entry of a full list, and a mark. -/
theorem wit_AckMarksTheEntry_marks :
    let s := crowded 1 [⟨.door 0, .localOpen, none⟩, ⟨.door 2, .localOpen, some 5⟩]
    s.alarms.Wf ∧ s.Settled ∧ s.Commanded panel4 [8, 0, 2, 7] ∧ s.Commanded panel4 [8, 0, 8, 7]
      ∧ (s.alarms.entry (.door 0) .stall).map AlarmEntry.active = some false
      ∧ s.alarms.entry (.door 0) .localOpen = none ∧ s.alarms.marks.head? = some ⟨.door 0, .localOpen, none⟩ := by
  decide +kernel

theorem wit_AckRearmsAFailedDoor :
    ∀ h ∈ [Handle.openSide, .idle],
      let s := closeZone0 (door0 { bound 1 (report 500 false false .still h) with phase := .failed, retry := 3 })
      s.Commanded panel4 [8, 0, 4, 7] ∧ slotOf 0 = some 0 ∧ s.panel 4 = some p4 ∧ p4.holds .ack = true
        ∧ s.fitted 0 = true ∧ p4.hasDoor 0 = true ∧ s.doors[0].phase = .failed ∧ s.doors[0].flowWf = true
        ∧ s.orderHeld 0 = true ∧ s.NoRunFor 0 ∧ s.bankPending = false ∧ s.doors[0].link = .online ∧ s.alarms.Wf
        ∧ s.doors[0].atClosed = false ∧ s.doors[0].conds.travelTimeout = none
        ∧ s.doors[0].handleOpen = (h == .openSide) := by decide +kernel

theorem wit_AckAllAcknowledgesTheList :
    let s := withAlarms [⟨.device, .heelStale, 900, true, none, 2⟩, ⟨.branch 1, .foreignUnit, 910, false, none, 1⟩]
    s.Commanded panel4 [9, 0, 0, 7] ∧ s.panel 4 = some p4 ∧ p4.holds .ack = true ∧ s.alarms.Wf
      ∧ (∀ d : Slot, s.doors[d].phase = .failed → s.NoRunFor d) ∧ s.Settled := by decide +kernel

/-- A full list with two marks, and door 0 FAILED under an order. -/
theorem wit_AckAllAcknowledgesTheList_failed :
    let u := closeZone0
      (door0 { bound 1 (report 500 false false .still .idle) with phase := .failed, retry := 3 })
    let v := { u with alarms := (crowded 1 [⟨.door 1, .localOpen, none⟩, ⟨.door 2, .localOpen, none⟩]).alarms }
    let s := { v with ind := { v.ind with live := v.picture } }
    s.Commanded panel4 [9, 0, 0, 7] ∧ s.panel 4 = some p4 ∧ s.alarms.Wf ∧ s.Settled ∧ p4.hasDoor 0 = true
      ∧ s.doors[0].phase = .failed ∧ s.doors[0].flowWf = true ∧ s.NoRunFor 0 ∧ s.orderHeld 0 = true
      ∧ s.doors[1].phase ≠ .failed ∧ s.doors[1].entry = none := by
  refine ⟨?_, ?_, ?_, ?_, ?_, ?_, ?_, ?_, ?_, ?_, ?_⟩ <;> decide +kernel

theorem wit_HeelWritesItsSource :
    (base.powered = true ∧ base.deliver ⟨kindHeel, ⟨21, broadcast⟩, bytes16 0x8000#16⟩ = .travelTiming .secondary)
      ∧ (stale.powered = true ∧ stale.deliver ⟨kindHeel, ⟨20, own⟩, bytes16 0x7FFF#16⟩ = .travelTiming .primary
        ∧ (stale.heel.get .primary).fresh = false ∧ stale.bankPending = false
        ∧ stale.alarms.entry .device .heelStale = some ⟨.device, .heelStale, 900, true, none, 1⟩)
      ∧ (parseFrame (trunkBytes 1 4 20 31 [5]) = some ⟨4, ⟨20, 31⟩, [5]⟩
        ∧ base.deliver ⟨4, ⟨20, 31⟩, [5]⟩ = .travelTiming .primary) := by decide +kernel

/-- A staleness with the other source stale, and one with it fresh. -/
theorem wit_HeelSourcesGoStale :
    (let s := { base with heel := ⟨⟨some 20, 949, true⟩, .blank, true⟩ };
      s.powered = true ∧ (s.heel.get .primary).fresh = true ∧ elapsed s.uptime (s.heel.get .primary).arrival = 51
        ∧ (s.heel.get .secondary).fresh = false ∧ s.heel.judged = true ∧ s.bankPending = false
        ∧ s.alarms.entry .device .heelStale = none ∧ s.alarms.mark .device .heelStale = none
        ∧ s.alarms.entries.length < 64)
      ∧ (let s := { base with heel := ⟨⟨some 20, 949, true⟩, ⟨some 20, 950, true⟩, true⟩ };
        (s.heel.get .primary).fresh = true ∧ elapsed s.uptime (s.heel.get .primary).arrival = 51
          ∧ (s.heel.get .secondary).fresh = true ∧ s.bankPending = false)
      ∧ (let s := { base with uptime := 50, heel := Heel.blank };
        s.heel.judged = false ∧ s.heel.noneFresh = true ∧ s.alarms.entry .device .heelStale = none
          ∧ s.alarms.mark .device .heelStale = none ∧ s.alarms.entries.length < 64 ∧ s.bankPending = false) := by
  refine ⟨?_, ?_, ?_⟩ <;> decide +kernel

/-- REFUSED-RANGE, REFUSED-STATE and BUSY, and each operand just out of its range. -/
theorem wit_RefusedRequestsChangeNothing :
    (base.Settled ∧ base.Managed service [1, 9, 2] ∧ (base.begin.identify 2).2.code = 4)
      ∧ (base.Managed service [7, 9, 3, 0, 1] ∧ (base.begin.loadChunk 3 0 [1]).2.code = 3)
      ∧ (waiting.Settled ∧ waiting.Managed service [6, 9] ∧ waiting.begin.loadBegin.2.code = 2)
      ∧ (base.Managed service [2, 9, 5] ∧ base.Managed service [2, 9, 7] ∧ base.Managed service [2, 9, 48])
      ∧ (base.Managed service [3, 9, 64, 2] ∧ base.Managed service [3, 9, 63, 3])
      ∧ (base.Managed service [4, 9, 2, 5, 63, 1] ∧ base.Managed service [4, 9, 0, 5, 64, 1]
        ∧ tableSize 5 = 64 ∧ base.Managed service [4, 9, 0, 5, 63, 2])
      ∧ (base.Managed service [4, 9, 1, 5, 63, 1] ∧ bankOf 1 = some .b ∧ (base.banks.get .b).state = .empty
        ∧ ((withB .loading).banks.get .b).state = .loading)
      ∧ (base.Managed service [13, 9, 4] ∧ base.Managed service [12, 9, 4, 1] ∧ base.Managed service [12, 9, 3, 2]) := by
  refine ⟨?_, ?_, ?_, ?_, ?_, ?_, ?_, ?_⟩ <;> decide +kernel

/-- STORE while a store runs and with no bank ACTIVE; ENROLL on branches DISABLED, ENROLLING, and POLLING with a door
that is queued, admitted or under an order. -/
theorem wit_RefusedRequestsChangeNothing_stated :
    (let s := { base with store := { base.store with pinned := some .a } }; s.Settled ∧ s.Managed service [11, 9] ∧ s.store.pinned ≠ none)
      ∧ (noTable.Managed ⟨29, 30⟩ [11, 9] ∧ noTable.store.pinned = none ∧ noTable.banks.find .active = none)
      ∧ (base.Managed service [12, 9, 2, 1] ∧ base.branches[2].state = .disabled)
      ∧ (let s := enrolling ⟨.add, 2, [], .calling⟩;
        s.Settled ∧ s.Managed service [12, 9, 0, 0] ∧ s.branches[0].state = .enrolling ⟨.add, 2, [], .calling⟩)
      ∧ (let s := door0 (warning none);
        s.Settled ∧ s.Managed service [12, 9, 0, 0] ∧ s.branches[0].state = .polling ∧ s.bound 0 = [(0, 1), (1, 2), (2, 3)]
          ∧ s.doors[0].move ≠ .none)
      ∧ (closedPart.Settled ∧ closedPart.branches[0].state = .polling ∧ closedPart.orderHeld 0 = true) := by
  refine ⟨?_, ?_, ?_, ?_, ?_, ?_⟩ <;> decide +kernel

/-- The codes 0 and 15, payloads one byte too short for their codes, and a payload of one byte. -/
theorem wit_RefusedRequestsChangeNothing_invalid :
    (∀ bs ∈ [[(0 : Byte), 9], [15, 9], [1, 9], [4, 9, 0, 1, 0], [7, 9, 1], [8, 9, 0]],
      parseFrame (trunkBytes 1 5 29 own bs) = some ⟨5, service, bs⟩ ∧ base.deliver ⟨5, service, bs⟩ = .manager
        ∧ 2 ≤ bs.length ∧ (at_ bs 0 = 0 ∨ 14 < (at_ bs 0).toNat ∨ bs.length < 2 + operandBytes (at_ bs 0).toNat))
      ∧ parseFrame (trunkBytes 1 5 29 own [6]) = some ⟨5, service, [6]⟩
      ∧ base.deliver ⟨5, service, [6]⟩ = .manager := by
  refine ⟨?_, ?_, ?_⟩ <;> decide +kernel

theorem wit_ReadsAlterNothing :
    base.Settled ∧ base.Managed service [1, 9, 0]
      ∧ (base.Managed service [3, 9, 63, 2] ∧ slotOf 63 = some 63)
      ∧ base.Managed service [14, 9]
      ∧ (base.Managed service [4, 9, 0, 5, 63, 1] ∧ bankOf 0 = some .a ∧ 63 < tableSize 5
        ∧ (base.banks.get .a).state ≠ .empty ∧ (base.banks.get .a).state ≠ .loading) := by decide +kernel

theorem wit_ReadStatusClearsTheEventFlags :
    base.Settled ∧ base.Managed service [2, 9, 0] ∧ (base.statusPage 0).isSome = true
      ∧ base.Managed service [2, 9, 47] ∧ (base.statusPage 47).isSome = true
      ∧ base.Managed service [2, 9, 3] ∧ base.selectedHeel ≠ none
      ∧ noTable.Settled ∧ noTable.Managed ⟨29, 30⟩ [2, 9, 3] ∧ noTable.selectedHeel = none := by decide +kernel

theorem wit_ReadAlarmsServesASnapshot :
    (base.Settled ∧ base.Managed service [5, 9, 0] ∧ base.Managed service [5, 9, 65]
        ∧ base.Managed service [5, 9, 64] ∧ base.mgr.snapshot = none)
      ∧ (let p : Snapshot := ⟨[⟨.door 0, .stall, 900, true, none, 1⟩], 1, 0, 990⟩;
        let s := { base with mgr := { base.mgr with snapshot := some p } };
        s.powered = true ∧ s.Settled ∧ s.mgr.snapshot = some p ∧ p.entries.length < (2#8).toNat ∧ p.entries[0]?.isSome
          ∧ s.Managed service [5, 9, 1] ∧ s.Managed service [5, 9, 2]) := by decide +kernel

theorem wit_LoadBeginEmptiesTheTarget :
    (base.Settled ∧ base.Managed service [6, 9] ∧ base.banks.a.state = .active
        ∧ (base.banks.get .b).state ≠ .pending ∧ base.store.pinned ≠ some .b)
      ∧ (waiting.Settled ∧ waiting.Managed service [6, 9] ∧ (waiting.banks.get .b).state = .pending)
      ∧ (let s := { withB .retired with store := ⟨.bad, some .b, 3⟩ };
        s.Settled ∧ s.Managed service [6, 9] ∧ s.store.pinned = some .b) := by
  refine ⟨?_, ?_, ?_⟩ <;> decide +kernel

theorem wit_ChunksAndEndsLoadTheBank :
    (base.Settled ∧ base.Managed service [7, 9, 3, 15, 1] ∧ base.Managed service [8, 9, 0, 0]
        ∧ base.banks.find .loading = none)
      ∧ (let s := withTiny .loading;
        s.Settled ∧ s.banks.find .loading = some .b ∧ s.Managed service [7, 9, 3, 15, 1] ∧ 15 < tableSize 3
          ∧ [(1#8 : Byte)].length = recordLength 3 ∧ tableSize 3 ≤ (16#8).toNat ∧ setWf (s.banks.get .b).set = true
          ∧ s.Managed service ([8, 9] ++ bytes16 (checkValue tiny)) ∧ validate s.trunk.ownId tiny = none
          ∧ checkValue tiny ≠ 0)
      ∧ validate own [record 2 0 [1, 1, 15]] = some ⟨1, 0, .missing⟩ := by
  refine ⟨?_, ?_, ?_⟩ <;> decide +kernel

theorem wit_ActivationsFollowTheirChecks :
    (base.Settled ∧ base.Managed service [9, 9] ∧ base.banks.find .ready = none)
      ∧ (let s := closeZone0 (withB .retired);
        s.Settled ∧ s.Managed service [10, 9] ∧ s.banks.find .retired = some .b ∧ s.anyZoneClosed = true)
      ∧ (let s := { latched with banks := (withB .ready).banks };
        s.Settled ∧ s.Managed service [9, 9] ∧ s.banks.find .ready = some .b ∧ s.anyLineHeld = true)
      ∧ (let s := { door0 (driving motion) with banks := (withB .ready).banks };
        s.Settled ∧ s.Managed service [9, 9] ∧ s.banks.find .ready = some .b ∧ s.anyZoneClosed = false
          ∧ s.anyLineHeld = false ∧ s.activeSet ≠ none ∧ s.allQuiescent = false)
      ∧ (let s := { noTable with banks := ⟨⟨.ready, tiny, checkValue tiny⟩, .blank⟩ };
        s.Settled ∧ s.Managed ⟨4, 30⟩ [9, 9] ∧ s.banks.find .ready = some .a ∧ s.anyZoneClosed = false
          ∧ s.anyLineHeld = false ∧ s.activeSet = none) := by
  refine ⟨?_, ?_, ?_, ?_, ?_⟩ <;> decide +kernel

/-- The incoming set has door 0 with another serial, door 1 as before, and no door 3. -/
theorem wit_ActivationSwapsAtQuiescence :
    let set := (putRecord table (record 5 0 [0, 0, 0, 0, 0, 9, 0x03, 0x00, 0, 100, 10, 5, 0, 3])).filter
      fun r => !(r.table == 5 && r.index == 3)
    let s := { base with banks := { base.banks with b := ⟨.ready, set, checkValue set⟩ } }
    s.Managed service [9, 9] ∧ s.banks.StatesWf ∧ s.banks.find .ready = some .b ∧ s.anyZoneClosed = false
      ∧ s.anyLineHeld = false ∧ s.allQuiescent = true ∧ (∀ b : BranchId, s.branches[b].run = none)
      ∧ s.banks.find .active = some .a
      ∧ answers (exec (.activate service 9) s) (fun t => !t.fitted 3 && t.fitted 0
        && (t.doorRec 1).map DoorRec.serial == (s.doorRec 1).map DoorRec.serial
        && (t.doorRec 0).map DoorRec.serial != (s.doorRec 0).map DoorRec.serial) := by decide +kernel

theorem wit_StoresPinABankAndCompare :
    (base.powered = true ∧ base.Settled ∧ base.Managed service [11, 9] ∧ base.store.pinned = none
        ∧ base.banks.find .active = some .a)
      ∧ ∀ n ∈ [1, 30], let s := { base with store := ⟨.bad, some .a, n⟩ }
        s.powered = true ∧ s.store.pinned = some .a ∧ 1 ≤ s.store.age ∧ s.store.age ≤ 30 := by decide +kernel

theorem wit_EnrollStartsARun :
    base.Settled ∧ base.bankPending = false ∧ branchOf 0 = some 0 ∧ base.branchRec 0 = some ⟨1, 1, 15⟩
      ∧ base.branches[0].state = .polling ∧ base.enrollBusy 0 = false ∧ base.Managed service [12, 9, 0, 0]
      ∧ base.Managed service [12, 9, 0, 1] ∧ base.bound 0 = [(0, 1), (1, 2), (2, 3)] ∧ base.doors[3].entry = none := by
  decide +kernel

theorem wit_ForgetForeignEmptiesTheList :
    let s := withAlarms [⟨.branch 3, .foreignUnit, 900, true, none, 1⟩]
    s.Settled ∧ s.bankPending = false ∧ s.Managed service [13, 9, 3] ∧ branchOf 3 = some 3
      ∧ s.alarms.entry (.branch 3) .foreignUnit = some ⟨.branch 3, .foreignUnit, 900, true, none, 1⟩ := by decide +kernel

/-- A run on branch 1 that has bound door 3 and found a foreign serial, with a notice waiting. -/
theorem wit_RestartKeepsAndClears :
    let r : Run := ⟨.add, 0, [(9, 2), (4, 7)], .calling⟩
    let s := { base with
      branches := base.branches.set 1 { base.branches[1] with state := .enrolling r }
      trunk := { base.trunk with notices := [⟨own, 31, [1, 2, 3]⟩] } }
    s.powered = true
      ∧ (∀ b : BranchId, ∀ r ∈ s.branches[b].run, r.pairs.Pairwise (fun p q => p.1 ≠ q.1)
          ∧ (s.branchDoors b).Pairwise (fun p q => p.2.serial ≠ q.2.serial))
      ∧ s.boundAfter 3 = some 7 ∧ s.foreignAfter 1 = [⟨9, some 2⟩]
      ∧ s.knownAtRestart ⟨3#5, Vector.replicate 4 false⟩ = [(.branch 1, .foreignUnit)] := by decide +kernel

theorem wit_RestartKeepsAndClears_unbound :
    (∀ b : BranchId, base.branches[b].run = none)
      ∧ base.knownAtRestart ⟨3#5, (Vector.replicate 4 false).set 2 true⟩
        = [(.door 3, .linkLost), (.branch 2, .lineExternal)] := by decide +kernel

theorem wit_RestartKeepsAndClears_reply :
    let s := onTrunk .reply 3 ⟨own, 29, [14, 9, 1, 0, 0, 0]⟩
    s.powered = true ∧ (∀ b : BranchId, s.branches[b].run = none) ∧ s.trunk.sending = some .reply
      ∧ s.trunk.replies = [⟨own, 29, [14, 9, 1, 0, 0, 0]⟩] := by decide +kernel

theorem wit_PowerOnResetLoadsTheImage :
    (setWf tiny = true ∧ validate (ownIdOf 30) tiny = none ∧ validate (ownIdOf 29) tiny = some ⟨1, 0, .duplicate⟩
        ∧ checkValue tiny ≠ 0 ∧ setWf (tiny ++ tiny) = false)
      ∧ (State.off (.stored tiny (checkValue tiny)) untiedPins 0 []).store.pinned = none
      ∧ ({ base with store := ⟨base.store.image, some .a, 5⟩ } : State).store.pinned ≠ none := by decide +kernel

/-- With line 2 low and no image the list holds LINE-EXTERNAL of branch 2 and then NO-TABLE. -/
theorem wit_PowerOnResetLoadsTheImage_low :
    let pins : Pins := ⟨3#5, (Vector.replicate 4 false).set 2 true⟩
    answers (exec (.powerOnReset pins) (State.off .bad untiedPins 0 []))
      (fun t => t.knownAtPowerOn pins == [(.branch 2, .lineExternal), (.device, .noTable)]) := by decide +kernel

/-- The last part leaves 2 tenths after the last freeze, with the image as frozen and with a new one; 1 and 19 tenths are
the other limits. -/
theorem wit_TransmittedFramesLeaveTheirClass_last :
    let f : TxFrame := ⟨own, 31, [17, 4]⟩
    let s := { onTrunk .part 3 f with ind := { base.ind with outstanding := 1 } }
    elapsed s.uptime s.ind.lastFreeze = 2 ∧ elapsed s.uptime 999 = 1 ∧ elapsed s.uptime 981 = 19
      ∧ answers (exec (.transmitSuccess untiedPins) s) (fun t => s.ind.frozen == some t.ind.live)
      ∧ answers (exec (.transmitSuccess untiedPins) { s with ind := { s.ind with frozen := some ⟨[], []⟩ } })
        (fun t => some ⟨[], []⟩ != some t.ind.live) := by decide +kernel

theorem wit_TransmissionsStartLoseAndFail :
    (base.powered = true ∧ base.trunk.sending = none)
      ∧ (let s := onTrunk .notice 15 ⟨own, 31, []⟩;
        s.powered = true ∧ s.trunk.sending ≠ none ∧ s.trunk.errors = 15 ∧ s.bankPending = false
          ∧ s.alarms.entry .device .trunkFault = none ∧ s.alarms.mark .device .trunkFault = none
          ∧ s.alarms.entries.length < 64 ∧ parseFrame [] = none) := by decide +kernel

theorem wit_TransmittedFramesLeaveTheirClass :
    let f : TxFrame := ⟨own, 31, [17, 4]⟩
    (let s := { onTrunk .part 3 f with ind := { base.ind with outstanding := 2 } };
      s.powered = true ∧ s.trunk.sending = some .part ∧ s.trunk.frames .part = [f] ∧ 2 ≤ s.ind.outstanding)
      ∧ (let s := { onTrunk .part 3 f with ind := { base.ind with outstanding := 1, lastFreeze := 980 } };
        s.powered = true ∧ s.trunk.frames .part = [f] ∧ s.ind.outstanding = 1 ∧ s.ind.frozen ≠ none
          ∧ elapsed s.uptime s.ind.lastFreeze = 20)
      ∧ (let s := onTrunk .notice 15 f;
        s.powered = true ∧ s.trunk.sending = some .notice ∧ s.trunk.errors ≠ 16 ∧ s.bankPending = false)
      ∧ (let s := { onTrunk .reply 16 f with alarms := ⟨[⟨.device, .trunkFault, 900, true, none, 1⟩], [], 1200⟩ };
        s.powered = true ∧ s.trunk.sending = some .reply ∧ f.payload.head? ≠ some 14 ∧ s.trunk.errors = 16
          ∧ s.bankPending = false
          ∧ s.alarms.entry .device .trunkFault = some ⟨.device, .trunkFault, 900, true, none, 1⟩) := by decide +kernel

theorem wit_ValidRepliesAreTaken :
    (Polled base (reply 1 0 0 2) (got .none 0 false true false .still .idle) ∧ base.doors[0].phase = .idle
        ∧ ¬base.HandleHolds 0 (got .none 0 false true false .still .idle))
      ∧ (let s := door0 { bound 1 openReport with link := .lost, miss := 3, conds := { Conds.empty with linkLost := true } };
        Polled s (reply 1 0 1000 1) (got .none 1000 true false false .still .idle) ∧ s.doors[0].link ≠ .online) := by
  refine ⟨?_, ?_⟩ <;> decide +kernel

/-- The need-close check at a link that becomes ONLINE, and at a drift report of a door that was CLOSED. -/
theorem wit_ValidRepliesAreTaken_needClose :
    let r := got .none 0 false true false .still .idle
    (let s := closeZone0 (door0 { bound 1 openReport with link := .pending });
      Polled s (reply 1 0 0 2) r ∧ s.orderHeld 0 = true ∧ s.doors[0].phase = .idle
        ∧ s.doors[0].conds.travelTimeout = none ∧ ¬r.atClosed ∧ r.handle ≠ .openSide ∧ s.doors[0].link ≠ .online)
      ∧ (Polled closedPart (reply 1 0 0 2) r ∧ closedPart.doors[0].phase = .idle
        ∧ closedPart.doors[0].conds.travelTimeout = none ∧ closedPart.DriftReport 0 r) := by
  refine ⟨by decide +kernel, by decide +kernel, by decide +kernel, by decide +kernel, ?_⟩
  exact ⟨by decide +kernel, by decide +kernel, by decide +kernel, by decide +kernel, closedReport,
      by decide +kernel, .inl (.inl (by decide +kernel))⟩

/-- Pressures of 99 and 100 bar beside the floor of 100, and the failed-sensor mark. -/
theorem wit_ValidRepliesAreTaken_judged :
    (base.groupRec v0.group).pNom / 2 = 100
      ∧ (∀ p ∈ [(99, some 99), (100, some 100), (0xFFFF, none)],
        let b := [1, 0] ++ nat16 0 ++ [2] ++ nat16 p.1 ++ [3]
        (parseStatus 1 1000 (b ++ bytes16 (crc b))).map Report.pressure = some p.2)
      ∧ (got .none 500 true false false .still .idle).doorState = .disagree := by decide +kernel

/-- Both cases of `State.PollFollows`: no door in hand, and door 1 with an undelivered command. -/
theorem wit_ValidRepliesAreTaken_next :
    answers (exec (.statusReply 0 (reply 1 0 0 2)) base)
        (fun t => t.branches[0].inFlight == some ⟨1, .none, .regular⟩)
      ∧ (let s := withDoor base 1 { bound 2 openReport with slot := .halt };
        Polled s (reply 1 0 0 2) (got .none 0 false true false .still .idle)
          ∧ answers (exec (.statusReply 0 (reply 1 0 0 2)) s)
            (fun t => t.branches[0].inFlight == some ⟨2, .halt, .priority⟩)) := by
  decide +kernel

theorem wit_MotionsStartAndEndReached :
    (let s := door0 { warning (some 990) with phase := .driving, slot := .close };
      let r := got .close 12 false false false .still .idle;
      Polled s (reply 1 1 12 0) r ∧ r.handle = .idle ∧ s.doors[0].phase = .driving
        ∧ s.doors[0].slot = Dir.closing.command ∧ r.echo = Dir.closing.command ∧ r.limit .closing = false
        ∧ r.obstruction = false)
      ∧ (let s := door0 (driving motion);
        let r := got .close 1000 true false false .still .idle;
        Polled s (reply 1 1 1000 1) r ∧ s.doors[0].move = .started motion ∧ r.limit .closing = true
          ∧ r.doorState ≠ .disagree ∧ r.handle = .idle ∧ r.motion ≠ .opening)
      ∧ (let m := { motion with dir := .opening };
        let s := door0 (driving m);
        let r := got .openDoor 20 false true false .still .idle;
        Polled s (reply 1 2 20 2) r ∧ s.doors[0].move = .started m ∧ r.limit .opening = true
          ∧ r.doorState ≠ .disagree ∧ s.orderHeld 0 = false) := by
  refine ⟨?_, ?_, ?_⟩ <;> decide +kernel

/-- WARN-ON delivered before and after the lead runs; an admission without a delivery; and a HALT with its hold,
delivered and not. -/
theorem wit_MotionsStartAndEndReached_delivered :
    (let s := door0 (warning none);
      Polled s (reply 1 4 0 2) (got .warnOn 0 false true false .still .idle) ∧ s.doors[0].phase = .warning
        ∧ s.doors[0].slot = .warnOn ∧ s.orderHeld 0 = false)
      ∧ (let s := door0 (warning (some 990));
        Polled s (reply 1 4 0 2) (got .warnOn 0 false true false .still .idle)
          ∧ s.doors[0].move = .admitted { admission with leadStart := some 990 })
      ∧ (let s := door0 (warning none);
        let r := got .none 0 false true false .still .idle;
        Polled s (reply 1 0 0 2) r ∧ s.doors[0].move = .admitted admission ∧ s.doors[0].slot ≠ r.echo
          ∧ r.doorState ≠ admission.dir.endState)
      ∧ (let s := door0 { bound 1 openReport with slot := .halt, holds := [⟨3, .halt none⟩] };
        Polled s (reply 1 3 0 2) (got .halt 0 false true false .still .idle)
          ∧ Polled s (reply 1 0 0 2) (got .none 0 false true false .still .idle) ∧ s.doors[0].move = .none
          ∧ s.doors[0].entry = none ∧ s.orderHeld 0 = false) := by
  refine ⟨?_, ?_, ?_, ?_⟩ <;> decide +kernel

/-- Retry counts 2 and 3, with an order and without. -/
theorem wit_ObstructedClosesRetryOrFail :
    (∀ n ∈ [2, 3], let s := door0 { driving motion with retry := n };
      let r := got .close 500 false false true .closing .idle
      Polled s (reply 1 1 500 12) r ∧ s.doors[0].move = .started motion ∧ r.closedLimit = false ∧ r.handle = .idle
        ∧ r.obstruction = true ∧ s.orderHeld 0 = false)
      ∧ (let s := closeZone0 (door0 { driving motion with retry := 3 });
        Polled s (reply 1 1 500 12) (got .close 500 false false true .closing .idle) ∧ s.orderHeld 0 = true) := by
  refine ⟨?_, ?_⟩ <;> decide +kernel

/-- At the end of the allowance the expected position is 1000, and the tolerance is 100: 899 lags and 900 does not;
for an open it is 0: 101 lags. -/
theorem wit_ObstructedClosesRetryOrFail_lags :
    ((base.groupRec v0.group).lagTolerance = 100 ∧ motion.Checked 1000)
      ∧ (let m := { motion with lag := 1 };
        let s := door0 (driving m);
        Polled s (reply 1 1 899 8) (got .close 899 false false false .closing .idle) ∧ s.doors[0].move = .started m)
      ∧ (Polled (door0 (driving motion)) (reply 1 1 899 8) (got .close 899 false false false .closing .idle)
        ∧ Polled (door0 (driving motion)) (reply 1 1 900 8) (got .close 900 false false false .closing .idle)
        ∧ motion.Lags 1000 899 100 ∧ ¬motion.Lags 1000 900 100)
      ∧ (let m := { motion with dir := .opening, q0 := 1000, lag := 1 };
        let s := door0 (driving m);
        Polled s (reply 1 2 101 16) (got .openDoor 101 false false false .opening .idle) ∧ m.Lags 1000 101 100
          ∧ s.orderHeld 0 = false) := by
  refine ⟨?_, ?_, ?_, ?_⟩
  · decide +kernel
  · decide +kernel
  · decide +kernel
  · decide +kernel

/-- The start grace: 20 tenths after the start a report is checked, 19 tenths after it none is. -/
theorem wit_ObstructedClosesRetryOrFail_grace :
    let m := { motion with start := 981, lag := 1 }
    Polled (door0 (driving m)) (reply 1 1 0 8) (got .close 0 false false false .closing .idle) ∧ ¬m.Checked 1000
      ∧ ({ m with start := 980 } : Motion).Checked 1000 := by
  decide +kernel

theorem wit_OpenedHandlesHoldTheDoor :
    let s := closeZone0 (door0 (driving motion))
    let r := got .close 500 false false false .still .openSide
    Polled s (reply 1 1 500 32) r ∧ s.HandleHolds 0 r ∧ s.doors[0].move = .started motion ∧ motion.dir = .closing
      ∧ r.closedLimit = false ∧ s.doors[0].phase ≠ .failed := by
  decide +kernel

/-- HELD-LOCAL: the handle at CLOSE-SIDE, and released with the door CLOSED and with a dwell of 3 tenths. -/
theorem wit_OpenedHandlesHoldTheDoor_released :
    let s := held0 { bound 1 (report 500 false false .still .openSide) with phase := .heldLocal }
    s.doors[0].phase = .heldLocal ∧ 0 < v0.recloseDwell
      ∧ Polled s (reply 1 0 500 64) (got .none 500 false false false .still .closeSide)
      ∧ Polled s (reply 1 0 1000 1) (got .none 1000 true false false .still .idle)
      ∧ Polled s (reply 1 0 500 0) (got .none 500 false false false .still .idle) := by
  refine ⟨?_, ?_, ?_, ?_, ?_⟩ <;> decide +kernel

/-- Door 1 has a dwell of 0: it may close, has TRAVEL-TIMEOUT, or needs no close without an order. -/
theorem wit_OpenedHandlesHoldTheDoor_recloses :
    ∀ k ∈ [none, some Dir.closing],
      let w := { bound 2 (report 500 false false .still .openSide) with
        phase := .heldLocal, conds := { Conds.empty with travelTimeout := k } }
      let u := withDoor closedPart 1 w
      let s := { u with branches := u.branches.set 0 { u.branches[0] with inFlight := some ⟨2, .none, .regular⟩ } }
      let r := got .none 500 false false false .still .idle
      s.powered = true ∧ s.branches[0].isPolling = true ∧ s.branches[0].inFlight = some ⟨2, .none, .regular⟩
        ∧ parseStatus 2 s.uptime (reply 2 0 500 0) = some r ∧ s.doorAt 0 2 = some 1
        ∧ (s.doorRec 1).map DoorRec.recloseDwell = some 0 ∧ s.bankPending = false ∧ s.doors[1].flowWf = true
        ∧ s.doors[1].LinkWf ∧ s.doors[1].phase = .heldLocal ∧ s.orderHeld 1 = true ∧ r.doorState = .intermediate
        ∧ s.doors[1].conds.travelTimeout = k := by decide +kernel

/-- DWELL with a report that shows the door CLOSED and its handle at CLOSE-SIDE (log entry 55), and one that does not;
a motion, an entry and an admission without an order. -/
theorem wit_OpenedHandlesHoldTheDoor_dwell :
    (let s := held0 { bound 1 (report 500 false false .still .idle) with phase := .dwell, timer := .dwell 1003 };
      s.doors[0].phase = .dwell
        ∧ Polled s (reply 1 0 1000 65) (got .none 1000 true false false .still .closeSide)
        ∧ answers (exec (.statusReply 0 (reply 1 0 1000 65)) s) (fun t => t.doors[0].phase == .idle)
        ∧ Polled s (reply 1 0 500 64) (got .none 500 false false false .still .closeSide))
      ∧ (let s := door0 (driving motion);
        let r := got .close 500 false false false .still .openSide;
        Polled s (reply 1 1 500 32) r ∧ s.orderHeld 0 = false ∧ r.handleAgainst motion.dir = true
          ∧ r.limit motion.dir = false)
      ∧ (let s := door0 (queued .closing .remote .remote);
        Polled s (reply 1 0 0 34) (got .none 0 false true false .still .openSide) ∧ s.orderHeld 0 = false
          ∧ s.doors[0].timer = .none)
      ∧ (let s := door0 (warning none);
        Polled s (reply 1 0 0 34) (got .none 0 false true false .still .openSide) ∧ s.orderHeld 0 = false) := by
  refine ⟨?_, ?_, ?_, ?_⟩ <;> decide +kernel

/-- Miss counts 1 and 2; a motion that started 127 of its 128 tenths ago, a door in WARNING, one in DRIVING not yet
started, and one in DWELL. -/
theorem wit_MissedPollsLoseTheLink :
    ∀ n ∈ [1, 2], ∀ w ∈ [driving { motion with start := 873 }, warning none,
        { warning (some 990) with phase := .driving, slot := .close },
        { bound 1 openReport with phase := .dwell, timer := .dwell 1100 }],
      let s := door0 { w with miss := n }
      s.powered = true ∧ s.branches[0].isPolling = true ∧ s.branches[0].inFlight = some ⟨1, .none, .regular⟩
        ∧ s.doorAt 0 1 = some 0 ∧ s.bankPending = false ∧ s.doors[0].miss ≤ 3 ∧ s.doors[0].flowWf = true
        ∧ s.doors[0].LinkWf ∧ s.doors[0].link = .online ∧ s.doors[0].holds = []
        ∧ (s.doors[0].phase = .driving → elapsed s.uptime 873 < motion.allowance) := by decide +kernel

/-- A line that becomes low: with room in the list, with a full list that holds an acknowledged entry, and with a full
list that holds none; one that becomes high; and one that stays. -/
theorem wit_LinesAreSampled :
    (base.powered = true ∧ orderBegins (.lineSample 0 true) base = true)
      ∧ (∀ a ∈ [base.alarms, (crowded 0 []).alarms, { fullList with marks := [] }],
        let s := { base with alarms := a }
        s.bankPending = false ∧ s.alarms.Wf ∧ s.branches[0].latch = false ∧ s.branches[0].sense ≠ .external
          ∧ s.alarms.entry (.branch 0) .lineExternal = none ∧ s.alarms.mark (.branch 0) .lineExternal = none)
      ∧ (base.alarms.entries.length < 64 ∧ ((crowded 0 []).alarms.entries.any fun x => x.ackBy.isSome) = true
        ∧ fullList.entries.length = 64 ∧ ∀ x ∈ fullList.entries, x.ackBy = none)
      ∧ (lineLow.powered = true ∧ lineLow.bankPending = false ∧ lineLow.alarms.Wf
        ∧ lineLow.branches[0].latch = false ∧ lineLow.branches[0].sense = .external)
      ∧ latched.branches[0].latch = true := by
  refine ⟨?_, ?_, ?_, ?_, ?_⟩ <;> decide +kernel

theorem wit_LinesAreSampled_ends :
    let s := { base with branches := base.branches.set 0 { base.branches[0] with sense := .external } }
    s.powered = true ∧ orderEnds (.lineSample 0 false) s = true := by decide +kernel

theorem wit_RoundsAssignAddresses :
    (let r : Run := ⟨.fresh, 2, [(8, 4)], .calling⟩;
      let s := enrolling r;
      s.powered = true ∧ s.Settled ∧ s.branches[0].state = .enrolling r ∧ s.branchRec 0 = some ⟨1, 1, 15⟩
        ∧ s.freeAddress 0 r = some 5 ∧ ∀ p ∈ r.pairs, p.1 ≠ 9)
      ∧ (let r : Run := ⟨.fresh, 1, [(8, 4)], .calling⟩;
        (enrolling r).Settled ∧ (enrolling r).branches[0].state = .enrolling r ∧ ((8, 4) : Serial × Nat) ∈ r.pairs
          ∧ r.pairs.Pairwise (fun p q => p.1 ≠ q.1) ∧ r.noProgress < 2)
      ∧ (let r : Run := ⟨.add, 2, [(8, 4)], .assigning⟩;
        (enrolling r).Settled ∧ (enrolling r).branches[0].state = .enrolling r) := by
  refine ⟨?_, ?_, ?_⟩ <;> decide +kernel

theorem wit_RunsEndInBindings :
    ∀ n ∈ [0, 2], let r : Run := ⟨.fresh, n, [(9, 2), (4, 7)], .calling⟩
      let s := { base with branches := base.branches.set 1 { base.branches[1] with state := .enrolling r } }
      s.powered = true ∧ s.bankPending = false ∧ s.branches[1].state = .enrolling r
        ∧ r.pairs.Pairwise (fun p q => p.1 ≠ q.1)
        ∧ (s.branchDoors 1).Pairwise (fun p q => p.2.serial ≠ q.2.serial)
        ∧ (s.branchDoors 1).map (fun p => (p.1, p.2.serial)) = [(3, 4)]
        ∧ s.foreignOf 1 r none = [⟨9, some 2⟩] ∧ s.alarms.entry (.branch 1) .foreignUnit = none
        ∧ s.alarms.mark (.branch 1) .foreignUnit = none ∧ s.alarms.entries.length < 64
        ∧ answers (exec (.callNoAnswer 1) s) (fun t => t.bound 1 == [(3, 7)]) := by decide +kernel

/-- A run that finds every address held, by the run record itself. -/
theorem wit_RunsEndInBindings_full :
    let r : Run := ⟨.fresh, 0, addresses.map fun a => (BitVec.ofNat 48 (100 + a), a), .calling⟩
    let s := { base with branches := base.branches.set 1 { base.branches[1] with state := .enrolling r } }
    r.pairs.Pairwise (fun p q => p.1 ≠ q.1) ∧ (∀ p ∈ r.pairs, p.1 ≠ 4)
      ∧ (∀ a ∈ addresses, ∃ p ∈ r.pairs, p.2 = a) ∧ s.foreignOf 1 r (some 4) ≠ [] := by decide +kernel

/-- ADD runs that a CLOSE-ZONE, a DOOR-CLOSE and a DOOR-OPEN abort. -/
theorem wit_RunsEndInBindings_aborted :
    let r : Run := ⟨.add, 1, [(9, 5)], .assigning⟩
    let s := enrolling r
    (s.branches[0].state = .enrolling r ∧ r.pairs.Pairwise (fun p q => p.1 ≠ q.1)
        ∧ (s.branchDoors 0).Pairwise (fun p q => p.2.serial ≠ q.2.serial)
        ∧ (s.doorRec 0).map (fun v => (v.branch, v.serial)) = some (0, 1) ∧ s.doors[0].binding ≠ none
        ∧ s.orderHeld 0 = false
        ∧ answers (exec (.closeZone panel4 0 7) s) (fun t => t.orderHeld 0))
      ∧ (Asked s 5 0 0 ∧ s.doors[0].state ≠ .closed ∧ s.doors[0].link = .online ∧ s.doors[0].phase = .idle)
      ∧ (Asked s 6 2 2 ∧ s.doors[2].state ≠ .opened ∧ s.doors[2].link = .online ∧ s.doors[2].phase = .idle
        ∧ s.orderHeld 2 = false) := by
  refine ⟨?_, ?_, ?_⟩ <;> decide +kernel

/-- The clause of `Obligations.RunsEndInBindings` on a door that no pair names. -/
theorem wit_RunsEndInBindings_unbound :
    let r : Run := ⟨.fresh, 0, [], .calling⟩
    let s := { base with branches := base.branches.set 1 { base.branches[1] with state := .enrolling r } }
    s.branches[1].state = .enrolling r
      ∧ answers (exec (.callNoAnswer 1) s) (fun t => t.doors[3].binding == none) := by decide +kernel

theorem wit_DwellsEndInAReclose :
    ∀ r ∈ [openReport, closedReport],
      let s := door0 { bound 1 r with phase := .dwell, timer := .dwell 1000 }
      s.powered = true ∧ s.doors[0].flowWf = true ∧ s.NoRunFor 0 ∧ s.fitted 0 = true ∧ s.doors[0].phase = .dwell
        ∧ s.doors[0].timer = .dwell s.uptime ∧ s.doors[0].link = .online ∧ s.doors[0].conds.travelTimeout = none
        ∧ (s.doors[0].state = .closed ∨ s.doors[0].state ≠ .closed) ∧ s.bankPending = false := by decide +kernel

/-- A close and an open, under an order and without one. -/
theorem wit_RetriesAreQueuedAgain :
    ∀ dir ∈ [Dir.closing, .opening],
      let s := door0 { bound 1 openReport with phase := .retryWait, timer := .retry 1000 dir .remote .remote, retry := 2 }
      ∀ t ∈ [s, closeZone0 s],
        t.powered = true ∧ t.doors[0].flowWf = true ∧ t.NoRunFor 0 ∧ t.fitted 0 = true
          ∧ t.doors[0].phase = .retryWait ∧ t.doors[0].timer = .retry t.uptime dir .remote .remote
          ∧ t.doors[0].link = .online ∧ t.bankPending = false := by decide +kernel

theorem wit_LeadsAndDeadlinesExpire :
    (let s := door0 (warning (some 995));
      s.powered = true ∧ s.doors[0].flowWf = true ∧ s.bankPending = false ∧ s.doors[0].phase = .warning
        ∧ (s.doorRec 0).map (fun r => r.warningLead) = some (elapsed s.uptime 995)
        ∧ s.doors[0].move = .admitted { admission with leadStart := some 995 } ∧ admission.issueDeadline = s.uptime)
      ∧ (let s := door0 (driving motion);
        s.powered = true ∧ s.doors[0].flowWf = true ∧ s.bankPending = false ∧ s.doors[0].move = .started motion
          ∧ elapsed s.uptime motion.start = motion.allowance)
      ∧ (let s := door0 { bound 1 openReport with holds := [⟨3, .linkLost 1000⟩] };
        s.powered = true ∧ s.doors[0].flowWf = true ∧ s.bankPending = false ∧ s.doors[0].entry = none
          ∧ (⟨3, .linkLost s.uptime⟩ : Hold) ∈ s.doors[0].holds ∧ s.doors[1].entry = none) := by decide +kernel

theorem wit_ReannouncementsRepeat :
    ((Instr.closeZone panel4 0 7).resets = false ∧ Instr.closeZone panel4 0 7 ≠ .reannounceExpiry
        ∧ answers (exec (.closeZone panel4 0 7) base) (fun _ => true))
      ∧ (let s := { base with alarms := { fullList with reannounceAt := 1000 } };
        s.powered = true ∧ s.alarms.reannounceAt = s.uptime
          ∧ s.alarms.entries.head?.map (fun x => x.ackBy) = some none)
      ∧ (let a : Alarms := ⟨fullList.entries.map fun x => { x with ackBy := some 4 }, fullList.marks, 1000⟩;
        let s := { base with alarms := a };
        s.alarms.reannounceAt = s.uptime ∧ (∀ x ∈ s.alarms.entries, x.ackBy ≠ none)
          ∧ s.alarms.marks = [] ++ ⟨.door 63, .localOpen, none⟩ :: [])
      ∧ (let s := { base with alarms := ⟨[], [], 1000⟩ };
        s.alarms.reannounceAt = s.uptime ∧ (∀ x ∈ s.alarms.entries, x.ackBy ≠ none)
          ∧ ∀ m ∈ s.alarms.marks, m.ackBy ≠ none) := by decide +kernel

theorem wit_PointsFreezeWhenDue :
    (base.powered = true ∧ base.ind.frozen ≠ none ∧ elapsed base.uptime base.ind.lastFreeze = 2)
      ∧ elapsed base.uptime 980 = 20 := by decide +kernel

theorem wit_AllowanceLiesWithinItsBounds :
    door17.tNom ≤ group17.tCap ∧ 50 ≤ group17.pNom ∧ 50 ≤ ({ group17 with pNom := 50 } : GroupRec).pNom := by
  decide +kernel

end Sys2Proof.Tests
end

section
/-! SUPPORT. What each operation on a door leaves in the record of its door: one equation per operation. -/

namespace Sys2Proof.Machine

open Sys2Proof

/-! ### Phases, slots, flow -/

@[simp] theorem Ev.push_door (e : Ev) (r : AlarmReq) (x : Slot) : (e.push r).doors[x] = e.doors[x] := rfl

@[simp] theorem Ev.toPhase_door (e : Ev) (d : Slot) (p : Phase) :
    (e.toPhase d p).doors[d] = { e.doors[d] with phase := p, timer := .none } := Ev.modDoor_same e d _

@[simp] theorem Ev.zeroRetry_door (e : Ev) (d : Slot) :
    (e.zeroRetry d).doors[d] = { e.doors[d] with retry := 0 } := Ev.modDoor_same e d _

@[simp] theorem Ev.dropEntry_door (e : Ev) (d : Slot) (p : Phase) :
    (e.dropEntry d p).doors[d] = { e.doors[d] with entry := none, phase := p, timer := .none } := by
  rw [Ev.dropEntry, Ev.toPhase_door, Ev.modDoor_same]

@[simp] theorem Ev.dropMove_door (e : Ev) (d : Slot) (p : Phase) :
    (e.dropMove d p).doors[d] = { e.doors[d] with move := .none, phase := p, timer := .none } := by
  rw [Ev.dropMove, Ev.toPhase_door, Ev.modDoor_same]

theorem Ev.place_door (e : Ev) (d : Slot) (c : Cmd) :
    (e.place d c).doors[d] =
      if c = .openDoor ∧ e.orderHeld d = true then e.doors[d] else { e.doors[d] with slot := c } := by
  simp only [Ev.place, Bool.and_eq_true, decide_eq_true_eq]
  split
  · rfl
  · exact Ev.modDoor_same e d _

/-- A command other than OPEN is always taken (R26). -/
@[simp] theorem Ev.place_door_of_ne (e : Ev) (d : Slot) (c : Cmd) (h : c ≠ .openDoor) :
    (e.place d c).doors[d] = { e.doors[d] with slot := c } := by
  rw [Ev.place_door, if_neg fun k => h k.1]

/-- The holds of a door whose admission or motion ends HALTED or CANCELLED (R67). -/
def Door.haltHolds (r : Door) : List Hold :=
  match r.move with
  | .none => r.holds
  | .admitted a => r.holds ++ [⟨a.draw, .halt none⟩]
  | .started m => r.holds ++ [⟨m.draw, .halt (some (m.start, m.allowance))⟩]

@[simp] theorem Ev.endHalted_door (e : Ev) (d : Slot) :
    (e.endHalted d).doors[d] =
      { e.doors[d] with
        holds := e.doors[d].haltHolds, slot := .halt, move := .none, phase := .idle, timer := .none } := by
  rw [Ev.endHalted, Ev.dropMove_door, Ev.place_door_of_ne _ _ _ (by decide), Ev.modDoor_same]
  generalize e.doors[d] = r
  cases h : r.move <;> simp [Door.haltHolds, h]

/-! ### Conditions -/

/-- The conditions without the motion-end kinds of a direction (R14). -/
def Conds.withoutEnds (c : Conds) (dir : Dir) : Conds :=
  motionEndKinds.foldl (fun c k => if c.dirOf k = some dir then c.remove k else c) c

/-- Removing a kind that is absent changes nothing. -/
theorem Conds.remove_of_not_has (c : Conds) (k : AlarmKind) (h : c.has k = false) : c.remove k = c := by
  cases c
  cases k <;> simp_all [Conds.has, Conds.remove, Conds.setLevel]

/-- Setting a kind that is present changes nothing. -/
theorem Conds.setLevel_of_has (c : Conds) (k : AlarmKind) (h : c.has k = true) : c.setLevel k true = c := by
  cases c
  cases k <;> simp_all [Conds.has, Conds.setLevel]

@[simp] theorem Ev.enterEnd_door (e : Ev) (d : Slot) (k : AlarmKind) (dir : Dir) :
    (e.enterEnd d k dir).doors[d] = { e.doors[d] with conds := e.doors[d].conds.enterEnd k dir } := by
  rw [Ev.enterEnd, Ev.push_door, Ev.modDoor_same]

@[simp] theorem Ev.enterLevel_door (e : Ev) (d : Slot) (k : AlarmKind) :
    (e.enterLevel d k).doors[d] = { e.doors[d] with conds := e.doors[d].conds.setLevel k true } := by
  unfold Ev.enterLevel
  split
  · next h => rw [Conds.setLevel_of_has _ k h]
  · rw [Ev.push_door, Ev.modDoor_same]

@[simp] theorem Ev.dropCond_door (e : Ev) (d : Slot) (k : AlarmKind) :
    (e.dropCond d k).doors[d] = { e.doors[d] with conds := e.doors[d].conds.remove k } := by
  unfold Ev.dropCond
  split
  · rw [Ev.push_door, Ev.modDoor_same]
  · next h => rw [Conds.remove_of_not_has _ k (Bool.eq_false_iff.mpr h)]

@[simp] theorem Ev.dropEnds_door (e : Ev) (d : Slot) (dir : Dir) :
    (e.dropEnds d dir).doors[d] = { e.doors[d] with conds := e.doors[d].conds.withoutEnds dir } := by
  unfold Ev.dropEnds Conds.withoutEnds
  generalize motionEndKinds = ks
  induction ks generalizing e with
  | nil => rfl
  | cons k ks ih =>
    rw [List.foldl_cons, List.foldl_cons, ih]
    split
    · rw [Ev.dropCond_door]
    · rfl

/-- The four motion-end kinds, each gone where it has the direction; the level kinds stay. -/
theorem Conds.withoutEnds_eq (c : Conds) (dir : Dir) :
    c.withoutEnds dir =
      { c with
        travelTimeout := if c.travelTimeout = some dir then none else c.travelTimeout
        stall := if c.stall = some dir then none else c.stall
        obstructed := if c.obstructed = some dir then none else c.obstructed
        closeFailed := if c.closeFailed = some dir then none else c.closeFailed } := by
  have step : ∀ (c : Conds) (k : AlarmKind), (if c.dirOf k = some dir then c.remove k else c) =
      match k with
      | .travelTimeout => { c with travelTimeout := if c.travelTimeout = some dir then none else c.travelTimeout }
      | .stall => { c with stall := if c.stall = some dir then none else c.stall }
      | .obstructed => { c with obstructed := if c.obstructed = some dir then none else c.obstructed }
      | .closeFailed => { c with closeFailed := if c.closeFailed = some dir then none else c.closeFailed }
      | _ => c := by
    intro c k
    by_cases h : c.dirOf k = some dir <;> cases k <;> simp_all [Conds.dirOf, Conds.remove]
  simp only [Conds.withoutEnds, motionEndKinds, List.foldl, step]

/-- After the removal of a direction's motion-end kinds, none of them has it. -/
theorem Conds.withoutEnds_dirOf_ne (c : Conds) (dir : Dir) (k : AlarmKind) :
    (c.withoutEnds dir).dirOf k ≠ some dir := by
  rw [Conds.withoutEnds_eq]
  cases k <;> simp [Conds.dirOf]

end Sys2Proof.Machine
end

section
/-! SUPPORT. What an event can do to a door record: a chain of `Door.Op`s. Every operation of the model is such a
chain (below), so an invariant of door records has one proof, by the cases of `Door.Op`. -/

namespace Sys2Proof.Machine

open Sys2Proof

/-- A phase without queue entry, admission and motion (R15, R47, R51). -/
def Phase.rests : Phase → Bool
  | .queued | .warning | .driving => false
  | _ => true

/-- One change of a door record, with the word whether the door holds an effective close order. A condition
`r.flowWf = true → …` is what the operation relies on of a consistent record. -/
inductive Door.Op (held : Bool) : Door → Door → Prop where
  | conds (r : Door) (c : Conds) : Op held r { r with conds := c }
  | holds (r : Door) (hs : List Hold) : Op held r { r with holds := hs }
  | zeroRetry (r : Door) : Op held r { r with retry := 0 }
  | slot (r : Door) (c : Cmd) (h : held = true → c ≠ .openDoor) : Op held r { r with slot := c }
  | miss (r : Door) (n : Nat) (h : n ≤ 3) : Op held r { r with miss := n }
  /-- The door comes to rest: its entry or its move is gone, and the phase has the timer that suits it. -/
  | rest (r : Door) (en : Option Entry) (mv : Move) (p : Phase) (tm : Timer) (hp : p.rests = true)
      (ht : p.suits tm = true) (hr : p = .retryWait → r.retry ≤ 2)
      (hf : r.flowWf = true → en = none ∧ mv = .none) :
      Op held r { r with entry := en, move := mv, phase := p, timer := tm }
  | enqueue (r : Door) (en : Entry) (n : Nat) (hl : r.link = .online) (hm : r.move = .none)
      (hn : n = 0 ∨ (r.phase = .retryWait ∧ n = r.retry + 1)) :
      Op held r { r with entry := some en, retry := n, phase := .queued, timer := .none }
  | grant (r : Door) (en : Entry) (a : Admission) (lead : Nat) (he : r.entry = some en) (ha : a.dir = en.dir) :
      Op held r { r with
        entry := none, move := .admitted a, phase := (firstCommand en.dir lead).2, timer := .none }
  /-- The admission or motion runs on. -/
  | march (r : Door) (mv : Move) (hs : mv ≠ .none → r.move ≠ .none)
      (hf : r.flowWf = true → ({ r with move := mv } : Door).flowWf = true) : Op held r { r with move := mv }
  | lead (r : Door) (h : r.phase = .warning) : Op held r { r with phase := .driving, timer := .none }
  | report (r : Door) (v : Report) (h : r.binding ≠ none) :
      Op held r { r with report := some v, miss := 0, link := .online }
  | lose (r : Door) (now : Time) (h : r.link ≠ .unbound) : Op held r (r.leaveOnline now .lost)
  | bind (r : Door) (now : Time) (a : Nat) : Op held r (r.bind now a)
  | unbind (r : Door) (now : Time) : Op held r (r.unbind now)
  | restart (r : Door) : Op held r r.restarted
  | blank (r : Door) : Op held r .blank

/-- A chain of changes of a door record. -/
abbrev Door.Chain (held : Bool) : Door → Door → Prop := Relation.ReflTransGen (Door.Op held)

/-- A change under an order is a change without one. -/
theorem Door.Op.free {held : Bool} {r r' : Door} (h : Door.Op held r r') : Door.Op false r r' := by
  cases h with
  | conds c => exact .conds r c
  | holds hs => exact .holds r hs
  | zeroRetry => exact .zeroRetry r
  | slot c h => exact .slot r c nofun
  | miss n h => exact .miss r n h
  | rest en mv p tm hp ht hr hf => exact .rest r en mv p tm hp ht hr hf
  | enqueue en n hl hm hn => exact .enqueue r en n hl hm hn
  | grant en a lead he ha => exact .grant r en a lead he ha
  | march mv hs hf => exact .march r mv hs hf
  | lead h => exact .lead r h
  | report v h => exact .report r v h
  | lose now h => exact .lose r now h
  | bind now a => exact .bind r now a
  | unbind now => exact .unbind r now
  | restart => exact .restart r
  | blank => exact .blank r

theorem Door.Chain.free {held : Bool} {r r' : Door} (h : Door.Chain held r r') : Door.Chain false r r' :=
  Relation.ReflTransGen.mono (fun _ _ => Door.Op.free) _ _ h

/-! ### Leaving ONLINE -/

/-- The link consequences of R10 change neither binding nor report nor any count. -/
theorem Door.leavePhase_keeps (now : Time) (r : Door) :
    (r.leavePhase now).link = r.link ∧ (r.leavePhase now).binding = r.binding
      ∧ (r.leavePhase now).report = r.report ∧ (r.leavePhase now).miss = r.miss
      ∧ (r.leavePhase now).retry = r.retry ∧ (r.leavePhase now).timer = r.timer
      ∧ (r.leavePhase now).conds = r.conds := by
  unfold Door.leavePhase
  split <;> simp

theorem Door.leaveOnline_keeps (now : Time) (dest : LinkState) (r : Door) :
    (r.leaveOnline now dest).link = dest ∧ (r.leaveOnline now dest).binding = r.binding
      ∧ (r.leaveOnline now dest).report = r.report ∧ (r.leaveOnline now dest).miss = r.miss
      ∧ (r.leaveOnline now dest).retry = r.retry ∧ (r.leaveOnline now dest).timer = r.timer
      ∧ (r.leaveOnline now dest).conds = r.conds := by
  unfold Door.leaveOnline
  split
  · simpa [Door.convertHalts] using (r.leavePhase_keeps now).2
  · simp

/-- A door that leaves ONLINE keeps its phase, or comes to rest from one with an entry or a move. -/
theorem Door.leaveOnline_phase (now : Time) (dest : LinkState) (r : Door) :
    (r.leaveOnline now dest).phase = r.phase
      ∨ (r.leaveOnline now dest).phase = .idle ∧ r.phase.rests = false := by
  unfold Door.leaveOnline Door.leavePhase
  split
  · split <;> simp_all [Door.convertHalts, Phase.rests]
  · simp

theorem Door.leaveOnline_slot (now : Time) (dest : LinkState) (r : Door) (h : r.slot ≠ .openDoor) :
    (r.leaveOnline now dest).slot ≠ .openDoor := by
  unfold Door.leaveOnline Door.leavePhase
  split
  · split <;> simp_all [Door.convertHalts]
  · exact h

/-- What `flowWf` says, phase by phase. -/
theorem Door.flowWf_iff (r : Door) :
    r.flowWf = true ↔
      (r.phase = .queued ∧ r.entry ≠ none ∧ r.move = .none)
        ∨ (r.phase = .warning ∧ r.entry = none ∧ ∃ a, r.move = .admitted a ∧ a.dir = .closing)
        ∨ (r.phase = .driving ∧ r.entry = none ∧ r.move ≠ .none)
        ∨ (r.phase.rests = true ∧ r.entry = none ∧ r.move = .none) := by
  obtain ⟨_, _, _, _, p, _, _, _, _, en, mv, _⟩ := r
  cases p <;> cases en <;> cases mv <;> simp [Door.flowWf, Phase.rests]

/-- A consistent record whose phase rests has no entry and no move. -/
theorem Door.flowWf_rests {r : Door} (h : r.flowWf = true) (hp : r.phase.rests = true) :
    r.entry = none ∧ r.move = .none := by
  rcases r.flowWf_iff.mp h with ⟨k, -⟩ | ⟨k, -⟩ | ⟨k, -⟩ | ⟨-, k⟩
  · simp [k, Phase.rests] at hp
  · simp [k, Phase.rests] at hp
  · simp [k, Phase.rests] at hp
  · exact k

/-- A resting phase without entry and move is consistent. -/
theorem Door.flowWf_of_rests {r : Door} (hp : r.phase.rests = true) (he : r.entry = none) (hm : r.move = .none) :
    r.flowWf = true :=
  r.flowWf_iff.mpr (.inr (.inr (.inr ⟨hp, he, hm⟩)))

theorem Door.stands_eq_true {r : Door} : r.stands = true ↔ r.move ≠ .none := by
  unfold Door.stands
  split <;> simp_all

/-- A consistent door that leaves ONLINE has no entry and no move, and is consistent. -/
theorem Door.leaveOnline_flow (now : Time) (dest : LinkState) (r : Door) (h : r.flowWf = true ∧ r.LinkWf) :
    (r.leaveOnline now dest).flowWf = true ∧ (r.leaveOnline now dest).entry = none
      ∧ (r.leaveOnline now dest).move = .none := by
  obtain ⟨hf, hl, -, -⟩ := h
  unfold Door.leaveOnline
  split
  · rcases r.flowWf_iff.mp hf with ⟨hp, -, hm⟩ | ⟨hp, he, a, ha, -⟩ | ⟨hp, he, hm⟩ | ⟨hp, he, hm⟩
    · simp [Door.leavePhase, hp, hm, Door.convertHalts, Door.flowWf]
    · simp [Door.leavePhase, hp, he, Door.convertHalts, Door.flowWf]
    · cases hmv : r.move
      · exact absurd hmv hm
      all_goals simp [Door.leavePhase, hp, he, hmv, Door.convertHalts, Door.flowWf]
    · have : r.leavePhase now = r := by
        unfold Door.leavePhase
        split <;> simp_all [Phase.rests]
      rw [this]
      exact ⟨Door.flowWf_of_rests hp he hm, he, hm⟩
  · next hn =>
    have he : r.entry = none := by
      by_contra k
      exact hn (hl (.inl (Option.isSome_iff_ne_none.mpr k)))
    have hm : r.move = .none := by
      by_contra k
      exact hn (hl (.inr (Door.stands_eq_true.mpr k)))
    exact ⟨hf, he, hm⟩

/-! ### The invariants of door records -/

/-- Phase, entry, move and link stay consistent (R7, R10, R15, R47, R51, R56). -/
theorem Door.Op.keeps_flow {held : Bool} {r r' : Door} (h : Door.Op held r r') (hr : r.flowWf = true ∧ r.LinkWf) :
    r'.flowWf = true ∧ r'.LinkWf := by
  obtain ⟨hf, hl, hrep, hb⟩ := hr
  have off : ∀ (now : Time) (dest : LinkState), (r.leaveOnline now dest).flowWf = true
      ∧ (r.leaveOnline now dest).entry = none ∧ (r.leaveOnline now dest).move = .none := fun now dest =>
    r.leaveOnline_flow now dest ⟨hf, hl, hrep, hb⟩
  cases h with
  | conds | holds | zeroRetry | slot | miss => exact ⟨hf, hl, hrep, hb⟩
  | rest en mv p tm hp ht hr hf' =>
    obtain ⟨rfl, rfl⟩ := hf' hf
    exact ⟨Door.flowWf_of_rests hp rfl rfl, by simp [Door.stands], hrep, hb⟩
  | enqueue en n hlink hm =>
    refine ⟨?_, fun _ => hlink, hrep, hb⟩
    simp [Door.flowWf, hm]
  | grant en a lead he ha =>
    refine ⟨?_, fun _ => hl (.inl (by simp [he])), hrep, hb⟩
    cases hd : en.dir <;> by_cases hz : 0 < lead <;> simp [Door.flowWf, firstCommand, hd, hz, ha]
  | march mv hs hf' =>
    refine ⟨hf' hf, fun k => hl ?_, hrep, hb⟩
    exact k.imp id fun k => Door.stands_eq_true.mpr (hs (Door.stands_eq_true.mp k))
  | lead hp =>
    refine ⟨?_, hl, hrep, hb⟩
    rcases r.flowWf_iff.mp hf with ⟨k, -⟩ | ⟨-, he, a, ha, -⟩ | ⟨k, -⟩ | ⟨k, -⟩
    · simp [k] at hp
    · simp [Door.flowWf, he, ha]
    · simp [k] at hp
    · simp [hp, Phase.rests] at k
  | report v hbind => exact ⟨hf, fun _ => rfl, fun _ => rfl, by simp [hbind]⟩
  | lose now hlink =>
    obtain ⟨kl, kb, -⟩ := r.leaveOnline_keeps now .lost
    obtain ⟨of, oe, om⟩ := off now .lost
    refine ⟨of, ?_, ?_, ?_⟩
    · simp [oe, Door.stands, om]
    · simp [kl]
    · simpa [kl, kb] using mt hb.mpr hlink
  | bind now a =>
    obtain ⟨kl, -⟩ := r.leaveOnline_keeps now .pending
    obtain ⟨of, oe, om⟩ := off now .pending
    exact ⟨of, by simp [Door.bind, oe, Door.stands, om], by simp [Door.bind, kl], by simp [Door.bind, kl]⟩
  | unbind now =>
    obtain ⟨kl, -⟩ := r.leaveOnline_keeps now .unbound
    obtain ⟨of, oe, om⟩ := off now .unbound
    exact ⟨of, by simp [Door.unbind, Door.convertHalts, oe, Door.stands, om],
      by simp [Door.unbind, Door.convertHalts, kl], by simp [Door.unbind, Door.convertHalts, kl]⟩
  | restart =>
    refine ⟨by simp [Door.restarted, Door.blank, Door.flowWf], by simp [Door.restarted, Door.blank, Door.stands], ?_, ?_⟩
    · cases hb' : r.binding <;> simp [Door.restarted, hb']
    · cases hb' : r.binding <;> simp [Door.restarted, hb']
  | blank => exact ⟨rfl, by simp [Door.blank, Door.stands], by simp [Door.blank], by simp [Door.blank]⟩

/-- The phase that R15 gives a timer keeps it. -/
theorem Phase.suits_none {p : Phase} (h : p.rests = false) (tm : Timer) (ht : p.suits tm = true) : tm = .none := by
  cases p <;> cases tm <;> simp_all [Phase.rests, Phase.suits]

/-- Timer and counts of a door that leaves ONLINE. -/
theorem Door.leaveOnline_counts (now : Time) (dest : LinkState) (r : Door) (h : r.CountsWf) :
    (r.leaveOnline now dest).CountsWf := by
  obtain ⟨ht, hm, hr, hw⟩ := h
  obtain ⟨-, -, -, km, kr, kt, -⟩ := r.leaveOnline_keeps now dest
  rw [Door.CountsWf, km, kr, kt]
  rcases r.leaveOnline_phase now dest with hp | ⟨hp, hn⟩
  · rw [hp]
    exact ⟨ht, hm, hr, hw⟩
  · rw [hp, Phase.suits_none hn _ ht]
    exact ⟨rfl, hm, hr, nofun⟩

/-- Timers stand exactly in DWELL and RETRY-WAIT, and the counts stay in range (R8, R15, R64). -/
theorem Door.Op.keeps_counts {held : Bool} {r r' : Door} (h : Door.Op held r r') (hr : r.CountsWf) :
    r'.CountsWf := by
  obtain ⟨ht, hm, hc, hw⟩ := hr
  cases h with
  | conds | holds | slot | march => exact ⟨ht, hm, hc, hw⟩
  | zeroRetry => exact ⟨ht, hm, by simp, by simp⟩
  | miss n h => exact ⟨ht, h, hc, hw⟩
  | rest en mv p tm hp ht' hr' hf => exact ⟨ht', hm, hc, hr'⟩
  | enqueue en n hl hmv hn =>
    refine ⟨rfl, hm, ?_, nofun⟩
    rcases hn with rfl | ⟨hp, rfl⟩
    · exact Nat.zero_le 3
    · exact Nat.succ_le_succ (hw hp)
  | grant en a lead he ha =>
    cases en.dir <;> by_cases hz : 0 < lead <;> simp [Door.CountsWf, firstCommand, hz, Phase.suits, hm, hc]
  | lead => exact ⟨rfl, hm, hc, nofun⟩
  | report => exact ⟨ht, Nat.zero_le 3, hc, hw⟩
  | lose now => exact r.leaveOnline_counts now .lost ⟨ht, hm, hc, hw⟩
  | bind now a =>
    obtain ⟨kt, -, kc, kw⟩ := r.leaveOnline_counts now .pending ⟨ht, hm, hc, hw⟩
    exact ⟨kt, Nat.zero_le 3, kc, kw⟩
  | unbind now => exact r.leaveOnline_counts now .unbound ⟨ht, hm, hc, hw⟩
  | restart => simp [Door.CountsWf, Door.restarted, Door.blank, Phase.suits]
  | blank => simp [Door.CountsWf, Door.blank, Phase.suits]

/-- Under an order no change puts OPEN into the slot (R26). -/
theorem Door.Op.keeps_slot {r r' : Door} (h : Door.Op true r r') (hr : r.slot ≠ .openDoor) :
    r'.slot ≠ .openDoor := by
  cases h with
  | slot c h => exact h rfl
  | lose now => exact r.leaveOnline_slot now .lost hr
  | bind now a => exact r.leaveOnline_slot now .pending hr
  | unbind now => simp [Door.unbind]
  | restart => simp [Door.restarted, Door.blank]
  | blank => simp [Door.blank]
  | conds | holds | zeroRetry | miss | rest | enqueue | grant | march | lead | report => exact hr

theorem Door.Chain.keeps_flow {held : Bool} {r r' : Door} (h : Door.Chain held r r')
    (hr : r.flowWf = true ∧ r.LinkWf) : r'.flowWf = true ∧ r'.LinkWf := by
  induction h with
  | refl => exact hr
  | tail _ op ih => exact op.keeps_flow ih

theorem Door.Chain.keeps_counts {held : Bool} {r r' : Door} (h : Door.Chain held r r') (hr : r.CountsWf) :
    r'.CountsWf := by
  induction h with
  | refl => exact hr
  | tail _ op ih => exact op.keeps_counts ih

theorem Door.Chain.keeps_slot {r r' : Door} (h : Door.Chain true r r') (hr : r.slot ≠ .openDoor) :
    r'.slot ≠ .openDoor := by
  induction h with
  | refl => exact hr
  | tail _ op ih => exact op.keeps_slot ih

end Sys2Proof.Machine
end

section
/-! SUPPORT. How far an operation reaches. `State.SameSources`: the set, the zone modes and the line senses stay,
and with them every order. `State.Moves`: the sources stay and the doors move by chains of `Door.Op`.
`State.Keeps`: the invariants of door records stay, also where the orders change. -/

namespace Sys2Proof.Machine

open Sys2Proof

/-! ### The sources of the orders (R37) -/

/-- The active set, the zone modes and the line senses are the same. -/
structure State.SameSources (s t : State) : Prop where
  set : t.activeSet = s.activeSet
  zones : t.zones = s.zones
  sense : ∀ b : BranchId, t.branches[b].sense = s.branches[b].sense

namespace State.SameSources

variable {s t u : State}

theorem refl (s : State) : s.SameSources s := ⟨rfl, rfl, fun _ => rfl⟩

theorem trans (h : s.SameSources t) (k : t.SameSources u) : s.SameSources u :=
  ⟨k.set.trans h.set, k.zones.trans h.zones, fun b => (k.sense b).trans (h.sense b)⟩

theorem activeRecord (h : s.SameSources t) (table index : Nat) :
    t.activeRecord table index = s.activeRecord table index := by
  simp only [State.activeRecord, h.set]

theorem doorRec (h : s.SameSources t) (d : Slot) : t.doorRec d = s.doorRec d := by
  simp only [State.doorRec, h.activeRecord]

theorem groupRec (h : s.SameSources t) (g : GroupId) : t.groupRec g = s.groupRec g := by
  simp only [State.groupRec, h.activeRecord]

theorem fitted (h : s.SameSources t) (d : Slot) : t.fitted d = s.fitted d := by
  simp only [State.fitted, h.doorRec]

theorem orderHeld (h : s.SameSources t) (d : Slot) : t.orderHeld d = s.orderHeld d := by
  simp only [State.orderHeld, h.doorRec, h.zones, State.lineHeld, h.sense]

theorem fittedDoors (h : s.SameSources t) : t.fittedDoors = s.fittedDoors := by
  simp only [State.fittedDoors, h.doorRec]

theorem branchDoors (h : s.SameSources t) (b : BranchId) : t.branchDoors b = s.branchDoors b := by
  simp only [State.branchDoors, h.fittedDoors]

end State.SameSources

theorem State.fitted_iff (s : State) (d : Slot) : s.fitted d = true ↔ ∃ v, s.doorRec d = some v := by
  simp [State.fitted, Option.isSome_iff_exists]

theorem State.fitted_of_doorRec {s : State} {d : Slot} {v : DoorRec} (h : s.doorRec d = some v) :
    s.fitted d = true := by
  simp [State.fitted, h]

/-- Only a fitted door holds an order (R37). -/
theorem State.fitted_of_orderHeld {s : State} {d : Slot} (h : s.orderHeld d = true) : s.fitted d = true := by
  unfold State.orderHeld at h
  split at h
  · next hr => exact State.fitted_of_doorRec hr
  · cases h

theorem State.mem_fittedDoors (s : State) (d : Slot) (v : DoorRec) :
    (d, v) ∈ s.fittedDoors ↔ s.doorRec d = some v := by
  simp [State.fittedDoors, slots]

theorem State.mem_branchDoors (s : State) (b : BranchId) (d : Slot) (v : DoorRec) :
    (d, v) ∈ s.branchDoors b ↔ s.doorRec d = some v ∧ v.branch = b := by
  simp [State.branchDoors, State.mem_fittedDoors]

theorem State.mem_bound (s : State) (b : BranchId) (d : Slot) (a : Nat) :
    (d, a) ∈ s.bound b ↔ ∃ v, s.doorRec d = some v ∧ v.branch = b ∧ s.doors[d].binding = some a := by
  simp only [State.bound, List.mem_filterMap, Option.map_eq_some_iff, Prod.mk.injEq, Prod.exists,
    State.mem_branchDoors]
  constructor
  · rintro ⟨x, v, ⟨hv, hb⟩, a', ha, rfl, rfl⟩
    exact ⟨v, hv, hb, ha⟩
  · rintro ⟨v, hv, hb, ha⟩
    exact ⟨d, v, ⟨hv, hb⟩, a, ha, rfl, rfl⟩

/-- The door at an address of a branch is fitted there and bound to it (R140). -/
theorem State.doorAt_some {s : State} {b : BranchId} {a : Nat} {d : Slot} (h : s.doorAt b a = some d) :
    ∃ v, s.doorRec d = some v ∧ v.branch = b ∧ s.doors[d].binding = some a := by
  simp only [State.doorAt, Option.map_eq_some_iff] at h
  obtain ⟨⟨x, y⟩, hf, rfl⟩ := h
  obtain rfl : y = a := by simpa using List.find?_some hf
  exact (s.mem_bound b x y).mp (List.mem_of_find?_eq_some hf)

/-! ### Moves of the doors -/

/-- The slot is fitted, or its record is not that of a slot that is not. -/
abbrev State.Active (s : State) (d : Slot) : Prop := s.fitted d = true ∨ s.doors[d] ≠ Door.blank

/-- The order sources stay, and each door keeps its record or, where the slot is active, moves by changes of its
record. -/
structure State.Moves (s t : State) : Prop where
  sources : s.SameSources t
  door : ∀ d : Slot, t.doors[d] = s.doors[d]
    ∨ s.Active d ∧ Door.Chain (s.orderHeld d) s.doors[d] t.doors[d]

/-- The invariants of door records pass from the first state to the second. -/
structure State.Keeps (s t : State) : Prop where
  chain : ∀ d : Slot, Door.Chain false s.doors[d] t.doors[d]
  bare : s.BareWf → t.BareWf
  slot : s.SlotWf → t.SlotWf

/-- `State.Moves` within an event. -/
abbrev Ev.Moves (e e' : Ev) : Prop := State.Moves e.toState e'.toState

namespace State.Moves

variable {s t u : State}

theorem refl (s : State) : s.Moves s := ⟨.refl s, fun _ => .inl rfl⟩

theorem trans (h : s.Moves t) (k : t.Moves u) : s.Moves u := by
  refine ⟨h.sources.trans k.sources, fun d => ?_⟩
  have ho := h.sources.orderHeld d
  have hf := h.sources.fitted d
  rcases h.door d with hd | ⟨ha, hc⟩
  · rcases k.door d with kd | ⟨ka, kc⟩
    · exact .inl (kd.trans hd)
    · rw [State.Active, hd, hf] at ka
      rw [ho, hd] at kc
      exact .inr ⟨ka, kc⟩
  · refine .inr ⟨ha, ?_⟩
    rcases k.door d with kd | ⟨-, kc⟩
    · rw [kd]
      exact hc
    · exact hc.trans (ho ▸ kc)

/-- Where neither the sources nor the doors change. -/
theorem of_same (hs : s.SameSources t) (hd : t.doors = s.doors) : s.Moves t :=
  ⟨hs, fun d => .inl (by rw [hd])⟩

theorem chain (h : s.Moves t) (d : Slot) : Door.Chain (s.orderHeld d) s.doors[d] t.doors[d] := by
  rcases h.door d with hd | ⟨-, hc⟩
  · rw [hd]
  · exact hc

/-- Moves keep the invariants of door records. -/
theorem keeps (h : s.Moves t) : s.Keeps t := by
  refine ⟨fun d => (h.chain d).free, fun hb d hf => ?_, fun hs d ho => ?_⟩
  · have hf' : s.fitted d = false := (h.sources.fitted d).symm.trans hf
    rcases h.door d with hd | ⟨ha, -⟩
    · rw [hd]
      exact hb d hf'
    · rcases ha with ha | ha
      · simp [hf'] at ha
      · exact absurd (hb d hf') ha
  · have ho' : s.orderHeld d = true := (h.sources.orderHeld d).symm.trans ho
    exact Door.Chain.keeps_slot (ho' ▸ h.chain d) (hs d ho')

end State.Moves

namespace State.Keeps

variable {s t u : State}

theorem refl (s : State) : s.Keeps s := ⟨fun _ => .refl, id, id⟩

theorem trans (h : s.Keeps t) (k : t.Keeps u) : s.Keeps u :=
  ⟨fun d => (h.chain d).trans (k.chain d), k.bare ∘ h.bare, k.slot ∘ h.slot⟩

end State.Keeps

/-- A fold of moves. -/
theorem Ev.Moves.foldl {α : Type} (f : Ev → α → Ev) (l : List α) (h : ∀ e, ∀ a ∈ l, Ev.Moves e (f e a)) (e : Ev) :
    Ev.Moves e (l.foldl f e) := by
  induction l generalizing e with
  | nil => exact .refl _
  | cons a l ih =>
    exact State.Moves.trans (h e a (by simp)) (ih (fun e x hx => h e x (by simp [hx])) _)

/-! ### Operations on one door -/

theorem Ev.Touches.sources {d : Slot} {e e' : Ev} (h : Ev.Touches d e e') : e.SameSources e'.toState := by
  rw [h.rest]
  exact ⟨rfl, rfl, fun _ => rfl⟩

theorem Ev.Touches.uptime {d : Slot} {e e' : Ev} (h : Ev.Touches d e e') : e'.uptime = e.uptime := by
  rw [h.rest]

theorem Ev.Touches.noRunFor {d : Slot} {e e' : Ev} (h : Ev.Touches d e e') {x : Slot} (hn : e.NoRunFor x) :
    e'.NoRunFor x := by
  intro v hv
  rw [h.doorRec] at hv
  rw [h.branches]
  exact hn v hv

/-- An operation on an active door moves it by changes of its record. -/
theorem Ev.Touches.moves {d : Slot} {e e' : Ev} (h : Ev.Touches d e e') (ha : e.Active d)
    (hc : Door.Chain (e.orderHeld d) e.doors[d] e'.doors[d]) : e.Moves e' := by
  refine ⟨h.sources, fun x => ?_⟩
  by_cases hx : x = d
  · subst hx
    exact .inr ⟨ha, hc⟩
  · exact .inl (h.other hx)

/-- A change of a branch that keeps its sense. -/
theorem Ev.modBranch_sources (e : Ev) (b : BranchId) (f : Branch → Branch) (hf : (f e.branches[b]).sense = e.branches[b].sense) :
    e.SameSources (e.modBranch b f).toState := by
  refine ⟨rfl, rfl, fun x => ?_⟩
  by_cases hx : b = x
  · subst hx
    rw [Ev.modBranch_same]
    exact hf
  · rw [Ev.modBranch_other _ _ _ _ hx]

theorem Ev.modBranch_moves (e : Ev) (b : BranchId) (f : Branch → Branch)
    (hf : (f e.branches[b]).sense = e.branches[b].sense) : e.Moves (e.modBranch b f) :=
  .of_same (e.modBranch_sources b f hf) rfl

theorem Ev.push_moves (e : Ev) (r : AlarmReq) : e.Moves (e.push r) := .of_same ⟨rfl, rfl, fun _ => rfl⟩ rfl

theorem Ev.enterLevel_moves (e : Ev) (d : Slot) (k : AlarmKind) (ha : e.Active d) : e.Moves (e.enterLevel d k) :=
  (e.enterLevel_touches d k).moves ha (by rw [Ev.enterLevel_door]; exact .single (.conds _ _))

/-! ### The end of an event -/

/-- Nothing but the alarms, the transmit queue and the image differs. -/
def State.SameWorks (s t : State) : Prop :=
  t = { s with alarms := t.alarms, trunk := t.trunk, ind := t.ind }

theorem State.SameWorks.refl (s : State) : s.SameWorks s := rfl

theorem State.SameWorks.trans {s t u : State} (h : s.SameWorks t) (k : t.SameWorks u) : s.SameWorks u := by
  unfold State.SameWorks at *
  rw [k, h]

theorem State.SameWorks.foldl {α : Type} (f : State → α → State) (h : ∀ (s : State) (a : α), s.SameWorks (f s a)) (l : List α)
    (s : State) : s.SameWorks (l.foldl f s) := by
  induction l generalizing s with
  | nil => exact .refl s
  | cons a l ih => exact (h s a).trans (ih _)

theorem State.takeRaise_works (s : State) (j : Subject) (k : AlarmKind) : s.SameWorks (s.takeRaise j k) := by
  unfold State.takeRaise
  dsimp only
  repeat' split
  all_goals rfl

theorem State.takeClear_works (s : State) (j : Subject) (k : AlarmKind) : s.SameWorks (s.takeClear j k) := by
  unfold State.takeClear
  dsimp only
  repeat' split
  all_goals rfl

theorem State.takeAck_works (s : State) (j : Subject) (k : AlarmKind) (st : Station) :
    s.SameWorks (s.takeAck j k st) := by
  unfold State.takeAck
  dsimp only
  repeat' split
  all_goals rfl

theorem State.takeDrop_works (s : State) (j : Subject) : s.SameWorks (s.takeDrop j) :=
  (State.SameWorks.foldl State.unlist (fun _ _ => rfl) _ s).trans rfl

theorem State.takeReq_works (s : State) (r : AlarmReq) : s.SameWorks (s.takeReq r) := by
  cases r with
  | raise j k => exact s.takeRaise_works j k
  | clear j k => exact s.takeClear_works j k
  | ack j k st => exact s.takeAck_works j k st
  | drop j => exact s.takeDrop_works j
  | removalsDone => exact .refl s

theorem State.fillFrom_works (s : State) (ms : List Mark) : s.SameWorks (s.fillFrom ms) := by
  induction ms generalizing s with
  | nil => exact .refl s
  | cons m ms ih =>
    unfold State.fillFrom
    split
    · have h : s.SameWorks ((s.withAlarms (s.alarms.unmark m.subject m.kind)).listNew m.subject m.kind) := rfl
      exact h.trans (ih _)
    · exact .refl s

theorem State.takeReqs_works (s : State) (freed : Bool) (rs : List AlarmReq) :
    s.SameWorks (s.takeReqs freed rs) := by
  induction rs generalizing s freed with
  | nil => exact .refl s
  | cons r rs ih =>
    unfold State.takeReqs
    split
    · exact ((s.takeReq_works r).trans (State.fillFrom_works _ _)).trans (ih _ _)
    · exact (s.takeReq_works r).trans (ih _ _)

theorem Ev.takeAlarms_works (e : Ev) : e.toState.SameWorks e.takeAlarms := State.takeReqs_works _ _ _

theorem State.judgeFreeze_works (s : State) : s.SameWorks s.judgeFreeze := by
  unfold State.judgeFreeze
  split <;> rfl

theorem State.updateLive_works (s : State) : s.SameWorks s.updateLive := by
  unfold State.updateLive
  split
  · rfl
  · have h : s.SameWorks { s with ind := { s.ind with live := s.picture } } := rfl
    exact h.trans (State.judgeFreeze_works _)

namespace State.SameWorks

variable {s t : State}

theorem doors (h : s.SameWorks t) : t.doors = s.doors := by rw [h]
theorem branches (h : s.SameWorks t) : t.branches = s.branches := by rw [h]
theorem banks (h : s.SameWorks t) : t.banks = s.banks := by rw [h]
theorem uptime (h : s.SameWorks t) : t.uptime = s.uptime := by rw [h]
theorem heel (h : s.SameWorks t) : t.heel = s.heel := by rw [h]

theorem sources (h : s.SameWorks t) : s.SameSources t := by
  rw [h]
  exact ⟨rfl, rfl, fun _ => rfl⟩

theorem moves (h : s.SameWorks t) : s.Moves t := .of_same h.sources h.doors

end State.SameWorks

/-- A poll that goes out changes its branch only, and neither its sense nor its state. -/
theorem State.sendPoll_cases (s : State) (b : BranchId) :
    s.sendPoll b = s ∨ ∃ a turn, s.nextPoll b = some (a, turn)
      ∧ s.sendPoll b =
        { s with branches := s.branches.set b (s.branches[b].poll s.uptime a (s.slotOf b a) turn) } := by
  unfold State.sendPoll
  dsimp only
  split
  · split
    · next a turn h => exact .inr ⟨a, turn, h, rfl⟩
    · exact .inl rfl
  · exact .inl rfl

theorem State.sendPoll_moves (s : State) (b : BranchId) : s.Moves (s.sendPoll b) := by
  rcases s.sendPoll_cases b with h | ⟨a, turn, -, h⟩
  · rw [h]
    exact .refl s
  · rw [h]
    exact Ev.modBranch_moves s.begin b (fun r => r.poll s.uptime a (s.slotOf b a) turn) rfl

theorem State.sendPolls_moves (s : State) : s.Moves s.sendPolls := by
  unfold State.sendPolls
  generalize branchIds = bs
  induction bs generalizing s with
  | nil => exact .refl s
  | cons b bs ih => exact (s.sendPoll_moves b).trans (ih _)

end Sys2Proof.Machine
end

section
/-! SUPPORT. The arbiters (R54 to R56): each door keeps its record, or an admission has taken its entry. -/

namespace Sys2Proof.Machine

open Sys2Proof

/-! ### The first of an order -/

theorem firstBy_eq_none {α : Type} (before : α → α → Bool) (l : List α) : firstBy before l = none ↔ l = [] := by
  cases l with
  | nil => simp [firstBy]
  | cons x xs =>
    simp only [firstBy]
    split
    · simp
    · split <;> simp

theorem firstBy_mem {α : Type} {before : α → α → Bool} {l : List α} {x : α} (h : firstBy before l = some x) :
    x ∈ l := by
  induction l generalizing x with
  | nil => simp [firstBy] at h
  | cons y ys ih =>
    simp only [firstBy] at h
    split at h
    · cases h
      simp
    · next z hz =>
      split at h
      · cases h
        exact List.mem_cons_of_mem _ (ih hz)
      · cases h
        simp

/-- In a transitive order whose negation is transitive, nothing stands before the first. -/
theorem firstBy_first {α : Type} {before : α → α → Bool}
    (irrefl : ∀ x, before x x = false)
    (negTrans : ∀ x y z, before x y = false → before y z = false → before x z = false)
    (asymm : ∀ x y, before x y = true → before y x = false)
    {l : List α} {m : α} (h : firstBy before l = some m) : ∀ x ∈ l, before x m = false := by
  induction l generalizing m with
  | nil => simp
  | cons y ys ih =>
    simp only [firstBy] at h
    split at h
    · next hn =>
      cases h
      obtain rfl := (firstBy_eq_none before ys).mp hn
      simpa using irrefl y
    · next z hz =>
      intro x hx
      rcases List.mem_cons.mp hx with rfl | hx
      · split at h
        · next hzx =>
          cases h
          exact asymm _ _ hzx
        · cases h
          exact irrefl _
      · split at h
        · cases h
          exact ih hz x hx
        · next hzy =>
          cases h
          exact negTrans _ _ _ (ih hz x hx) (Bool.eq_false_iff.mpr hzy)

/-! ### Admission -/

/-- An element of a group's queue is a fitted door of the group with its entry. -/
theorem State.mem_queue {s : State} {g : GroupId} {q : Queued} :
    q ∈ s.queue g ↔ s.doorRec q.slot = some q.record ∧ q.record.group = g ∧ s.doors[q.slot].entry = some q.entry := by
  simp only [State.queue, State.groupDoors, List.mem_filterMap, List.mem_filter, Prod.exists,
    State.mem_fittedDoors, beq_iff_eq, Option.map_eq_some_iff]
  constructor
  · rintro ⟨d, v, ⟨hv, hg⟩, en, he, rfl⟩
    exact ⟨hv, hg, he⟩
  · rintro ⟨hv, hg, he⟩
    exact ⟨q.slot, q.record, ⟨hv, hg⟩, q.entry, he, rfl⟩

/-- The record that an admission makes of a door (R56), with the guard of R26: an OPEN is not placed under an order. -/
def State.admittedAt (t : State) (d : Slot) (v : DoorRec) (en : Entry) (w : Door) : Door :=
  { t.admitted v en w with
    slot := if en.dir = .opening ∧ t.orderHeld d = true then w.slot else (t.admitted v en w).slot }

/-- A close, or an open without an order, is admitted as R56 says. -/
theorem State.admittedAt_eq (t : State) (d : Slot) (v : DoorRec) (en : Entry) (w : Door)
    (h : en.dir = .closing ∨ t.orderHeld d = false) : t.admittedAt d v en w = t.admitted v en w := by
  have : ¬(en.dir = .opening ∧ t.orderHeld d = true) := by
    rintro ⟨ho, hh⟩
    rcases h with h | h
    · simp [h] at ho
    · simp [h] at hh
  simp [State.admittedAt, this]

/-- An admitted door has no entry left. -/
theorem State.admittedAt_entry (t : State) (d : Slot) (v : DoorRec) (en : Entry) (w : Door) :
    (t.admittedAt d v en w).entry = none := rfl

theorem Ev.admitHead_door (e : Ev) (q : Queued) :
    (e.admitHead q).doors[q.slot] = e.admittedAt q.slot q.record q.entry e.doors[q.slot] := by
  have ho : ∀ f, (e.modDoor q.slot f).orderHeld q.slot = e.orderHeld q.slot := fun f =>
    (e.modDoor_touches q.slot f).orderHeld q.slot
  rw [Ev.admitHead, Ev.toPhase_door, Ev.place_door, Ev.modDoor_same, ho]
  cases hd : q.entry.dir <;> by_cases hz : 0 < q.record.warningLead <;> cases hh : e.orderHeld q.slot <;>
    simp [firstCommand, hd, hz, hh, State.admittedAt, State.admitted, Ev.admission, State.admissionOf]

/-- What the arbiters do: the doors alone change, each by nothing or by the admission of its entry. -/
structure Ev.Arbitrates (e e' : Ev) : Prop where
  rest : e' = { e with doors := e'.doors }
  door : ∀ x : Slot, e'.doors[x] = e.doors[x]
    ∨ ∃ en v, e.doors[x].entry = some en ∧ e.doorRec x = some v
      ∧ e'.doors[x] = e.admittedAt x v en e.doors[x]

namespace Ev.Arbitrates

variable {e e₁ e₂ e₃ : Ev}

theorem refl (e : Ev) : e.Arbitrates e := ⟨rfl, fun _ => .inl rfl⟩

theorem sources (h : e₁.Arbitrates e₂) : e₁.SameSources e₂.toState := by
  rw [h.rest]
  exact ⟨rfl, rfl, fun _ => rfl⟩

theorem admittedAt (h : e₁.Arbitrates e₂) (d : Slot) (v : DoorRec) (en : Entry) (w : Door) :
    e₂.admittedAt d v en w = e₁.admittedAt d v en w := by
  rw [h.rest]
  rfl

theorem trans (h : e₁.Arbitrates e₂) (k : e₂.Arbitrates e₃) : e₁.Arbitrates e₃ := by
  refine ⟨by rw [k.rest, h.rest], fun x => ?_⟩
  rcases h.door x with hx | ⟨en, v, he, hv, hx⟩
  · rcases k.door x with kx | ⟨en, v, ke, kv, kx⟩
    · exact .inl (kx.trans hx)
    · rw [hx] at ke kx
      rw [h.sources.doorRec] at kv
      rw [h.admittedAt] at kx
      exact .inr ⟨en, v, ke, kv, kx⟩
  · refine .inr ⟨en, v, he, hv, ?_⟩
    rcases k.door x with kx | ⟨en', v', ke, -, -⟩
    · rw [kx, hx]
    · rw [hx, State.admittedAt_entry] at ke
      cases ke

theorem foldl {α : Type} (f : Ev → α → Ev) (h : ∀ (e : Ev) (a : α), e.Arbitrates (f e a)) (l : List α) (e : Ev) :
    e.Arbitrates (l.foldl f e) := by
  induction l generalizing e with
  | nil => exact .refl e
  | cons a l ih => exact (h e a).trans (ih _)

end Ev.Arbitrates

theorem Ev.admitHead_arbitrates (e : Ev) (q : Queued) (hv : e.doorRec q.slot = some q.record)
    (he : e.doors[q.slot].entry = some q.entry) : e.Arbitrates (e.admitHead q) := by
  have hr : (e.admitHead q).reqs = e.reqs := by
    simp only [Ev.admitHead, Ev.place]
    split <;> rfl
  refine ⟨?_, fun x => ?_⟩
  · have h := (e.admitHead_touches q).rest
    calc e.admitHead q = { (e.admitHead q).toState with reqs := (e.admitHead q).reqs } := rfl
      _ = { e with doors := (e.admitHead q).doors } := by rw [h, hr]
  · by_cases hx : x = q.slot
    · subst hx
      exact .inr ⟨q.entry, q.record, he, hv, e.admitHead_door q⟩
    · exact .inl ((e.admitHead_touches q).other hx)

theorem Ev.arbiter_arbitrates (g : GroupId) (n : Nat) (e : Ev) : e.Arbitrates (Ev.arbiter g n e) := by
  induction n generalizing e with
  | zero => exact .refl e
  | succ n ih =>
    unfold Ev.arbiter
    split
    · next q hq =>
      obtain ⟨hv, -, he⟩ := State.mem_queue.mp (firstBy_mem hq)
      split
      · exact (e.admitHead_arbitrates q hv he).trans (ih _)
      · exact .refl e
    · exact .refl e

theorem Ev.arbiters_arbitrates (e : Ev) : e.Arbitrates e.arbiters := by
  unfold Ev.arbiters
  split
  · exact .refl e
  · exact Ev.Arbitrates.foldl _ (fun e g => Ev.arbiter_arbitrates g 64 e) _ e

/-- An admission is a chain of changes of the door record. -/
theorem State.admittedAt_chain (t : State) (d : Slot) (v : DoorRec) (en : Entry) (w : Door) (he : w.entry = some en) :
    Door.Chain (t.orderHeld d) w (t.admittedAt d v en w) := by
  have hs : Door.Op (t.orderHeld d) w { w with slot := (t.admittedAt d v en w).slot } ∨ (t.admittedAt d v en w).slot = w.slot := by
    by_cases h : en.dir = .opening ∧ t.orderHeld d = true
    · exact .inr (by simp [State.admittedAt, h])
    · refine .inl (.slot _ _ fun hh => ?_)
      cases hd : en.dir <;> by_cases hz : 0 < v.warningLead <;> simp_all [State.admittedAt, State.admitted]
  have ha : Door.Op (t.orderHeld d) { w with slot := (t.admittedAt d v en w).slot } (t.admittedAt d v en w) := by
    have := Door.Op.grant (held := t.orderHeld d) { w with slot := (t.admittedAt d v en w).slot } en
      (t.admissionOf v en w.report) v.warningLead he rfl
    convert this using 1
    cases hd : en.dir <;> by_cases hz : 0 < v.warningLead <;>
      simp [State.admittedAt, State.admitted, firstCommand, hd, hz]
  rcases hs with hs | hs
  · exact .tail (.single hs) ha
  · rw [hs] at ha
    exact .single ha

theorem Ev.Arbitrates.moves {e e' : Ev} (h : e.Arbitrates e') : e.Moves e' := by
  refine ⟨h.sources, fun x => ?_⟩
  rcases h.door x with hx | ⟨en, v, he, hv, hx⟩
  · exact .inl hx
  · refine .inr ⟨.inl (State.fitted_of_doorRec hv), ?_⟩
    rw [hx]
    exact e.admittedAt_chain x v en _ he

end Sys2Proof.Machine
end

section
/-! SUPPORT. The end and abort of an enrollment run (R146 to R148): each door is bound anew or keeps its record, but
for its conditions; and the queue requests and order changes that can abort a run. -/

namespace Sys2Proof.Machine

open Sys2Proof

/-! ### Doors at the end of a run -/

/-- The record of a door is kept or bound anew (R146), but for its conditions. -/
def Door.Rebound (now : Time) (r r' : Door) : Prop :=
  ∃ c, r' = { r with conds := c } ∨ ∃ a, r' = { r.bind now a with conds := c }

/-- Leaving ONLINE takes no notice of the conditions. -/
theorem Door.leaveOnline_conds (now : Time) (dest : LinkState) (r : Door) (c : Conds) :
    ({ r with conds := c } : Door).leaveOnline now dest = { r.leaveOnline now dest with conds := c } := by
  have h : ({ r with conds := c } : Door).leavePhase now = { r.leavePhase now with conds := c } := by
    obtain ⟨_, _, _, _, p, _, _, _, _, _, mv, _⟩ := r
    cases p <;> cases mv <;> rfl
  unfold Door.leaveOnline
  rw [h]
  split <;> rfl

/-- A binding takes no notice of the conditions. -/
theorem Door.bind_conds (now : Time) (a : Nat) (r : Door) (c : Conds) :
    ({ r with conds := c } : Door).bind now a = { r.bind now a with conds := c } := by
  rw [Door.bind, Door.leaveOnline_conds]
  rfl

/-- A binding of a door just bound gives it the other address. -/
theorem Door.bind_bind (now : Time) (a a' : Nat) (r : Door) : (r.bind now a).bind now a' = r.bind now a' := by
  have h : (r.bind now a).link = .pending := (r.leaveOnline_keeps now .pending).1
  rw [Door.bind, Door.leaveOnline, if_neg (by simp [h])]
  unfold Door.bind
  simp [(r.leaveOnline_keeps now .pending).1]

theorem Door.Rebound.refl (now : Time) (r : Door) : r.Rebound now r := ⟨r.conds, .inl rfl⟩

theorem Door.Rebound.trans {now : Time} {r₁ r₂ r₃ : Door} (h : r₁.Rebound now r₂) (k : r₂.Rebound now r₃) :
    r₁.Rebound now r₃ := by
  obtain ⟨c, rfl | ⟨a, rfl⟩⟩ := h <;> obtain ⟨c', rfl | ⟨a', rfl⟩⟩ := k
  · exact ⟨c', .inl rfl⟩
  · exact ⟨c', .inr ⟨a', by rw [Door.bind_conds]⟩⟩
  · exact ⟨c', .inr ⟨a, rfl⟩⟩
  · exact ⟨c', .inr ⟨a', by rw [Door.bind_conds, Door.bind_bind]⟩⟩

/-- A door that is ONLINE after the end of a run was not bound anew. -/
theorem Door.Rebound.of_online {now : Time} {r r' : Door} (h : r.Rebound now r') (hl : r'.link = .online) :
    ∃ c, r' = { r with conds := c } := by
  obtain ⟨c, h | ⟨a, rfl⟩⟩ := h
  · exact ⟨c, h⟩
  · have : (r.bind now a).link = .pending := (r.leaveOnline_keeps now .pending).1
    rw [this] at hl
    cases hl

theorem Door.Rebound.chain {now : Time} {r r' : Door} (held : Bool) (h : r.Rebound now r') : Door.Chain held r r' := by
  obtain ⟨c, rfl | ⟨a, rfl⟩⟩ := h
  · exact .single (.conds r c)
  · exact .tail (.single (.bind r now a)) (.conds _ c)

/-! ### Events that bind doors -/

/-- The order sources and the uptime stay, and each door keeps its record or, where it is fitted, is bound anew. -/
structure Ev.Rebinds (e e' : Ev) : Prop where
  sources : e.SameSources e'.toState
  uptime : e'.uptime = e.uptime
  door : ∀ x : Slot, e'.doors[x] = e.doors[x] ∨ e.fitted x = true ∧ e.doors[x].Rebound e.uptime e'.doors[x]

namespace Ev.Rebinds

variable {e e₁ e₂ e₃ : Ev}

theorem refl (e : Ev) : e.Rebinds e := ⟨.refl _, rfl, fun _ => .inl rfl⟩

theorem rebound (h : e₁.Rebinds e₂) (x : Slot) : e₁.doors[x].Rebound e₁.uptime e₂.doors[x] := by
  rcases h.door x with hx | ⟨-, hx⟩
  · rw [hx]
    exact .refl _ _
  · exact hx

theorem trans (h : e₁.Rebinds e₂) (k : e₂.Rebinds e₃) : e₁.Rebinds e₃ := by
  refine ⟨h.sources.trans k.sources, k.uptime.trans h.uptime, fun x => ?_⟩
  have kr := k.rebound x
  rw [h.uptime] at kr
  rcases k.door x with kx | ⟨kf, -⟩
  · rw [kx]
    exact h.door x
  · exact .inr ⟨(h.sources.fitted x).symm.trans kf, (h.rebound x).trans kr⟩

theorem foldl {α : Type} (f : Ev → α → Ev) (l : List α) (h : ∀ (e : Ev), ∀ a ∈ l, e.Rebinds (f e a)) (e : Ev) :
    e.Rebinds (l.foldl f e) := by
  induction l generalizing e with
  | nil => exact .refl e
  | cons a l ih => exact (h e a (by simp)).trans (ih (fun e x hx => h e x (by simp [hx])) _)

theorem moves (h : e₁.Rebinds e₂) : e₁.Moves e₂ := by
  refine ⟨h.sources, fun x => (h.door x).imp id fun k => ⟨.inl k.1, k.2.chain _⟩⟩

/-- Where the doors are the same. -/
theorem of_same (hs : e₁.SameSources e₂.toState) (hu : e₂.uptime = e₁.uptime) (hd : e₂.doors = e₁.doors) : e₁.Rebinds e₂ :=
  ⟨hs, hu, fun x => .inl (by rw [hd])⟩

theorem of_touches {d : Slot} (h : Ev.Touches d e₁ e₂) (hf : e₁.fitted d = true)
    (hd : e₁.doors[d].Rebound e₁.uptime e₂.doors[d]) : e₁.Rebinds e₂ := by
  refine ⟨h.sources, h.uptime, fun x => ?_⟩
  by_cases hx : x = d
  · subst hx
    exact .inr ⟨hf, hd⟩
  · exact .inl (h.other hx)

end Ev.Rebinds

theorem Ev.takeForeign_rebinds (e : Ev) (b : BranchId) (f : Foreign) : e.Rebinds (e.takeForeign b f) :=
  .of_same (e.modBranch_sources b (fun r => { r with foreign := foreignList r.foreign f }) rfl) rfl rfl

/-- The door that carries a serial is fitted (R146). -/
theorem State.fitted_of_doorOfSerial {s : State} {b : BranchId} {serial : Serial} {d : Slot}
    (h : s.doorOfSerial b serial = some d) : s.fitted d = true := by
  simp only [State.doorOfSerial, Option.map_eq_some_iff] at h
  obtain ⟨⟨x, v⟩, hf, rfl⟩ := h
  exact State.fitted_of_doorRec ((s.mem_branchDoors b x v).mp (List.mem_of_find?_eq_some hf)).1

theorem Ev.bindPair_rebinds (e : Ev) (b : BranchId) (p : Serial × Nat) : e.Rebinds (e.bindPair b p) := by
  unfold Ev.bindPair
  split
  · next d hd =>
    refine .of_touches (e.modDoor_touches d _) (State.fitted_of_doorOfSerial hd) ?_
    rw [Ev.modDoor_same]
    exact ⟨(e.doors[d].bind e.uptime p.2).conds, .inr ⟨p.2, rfl⟩⟩
  · exact e.takeForeign_rebinds b _

theorem Ev.enterLevel_rebinds (e : Ev) (d : Slot) (k : AlarmKind) (hf : e.fitted d = true) :
    e.Rebinds (e.enterLevel d k) := by
  refine .of_touches (e.enterLevel_touches d k) hf ?_
  rw [Ev.enterLevel_door]
  exact ⟨_, .inl rfl⟩

/-- A fold over the doors of an event, each fitted at its turn. -/
theorem Ev.Rebinds.foldl_fitted {α : Type} (f : Ev → α → Ev) (g : α → Slot) (l : List α) (e : Ev)
    (hl : ∀ a ∈ l, e.fitted (g a) = true) (h : ∀ (e : Ev) (a : α), e.fitted (g a) = true → e.Rebinds (f e a)) :
    e.Rebinds (l.foldl f e) := by
  induction l generalizing e with
  | nil => exact .refl e
  | cons a l ih =>
    have ha := h e a (hl a (by simp))
    exact ha.trans (ih _ fun x hx => (ha.sources.fitted _).trans (hl x (by simp [hx])))

theorem Ev.markUnbound_rebinds (e : Ev) (b : BranchId) : e.Rebinds (e.markUnbound b) := by
  unfold Ev.markUnbound
  refine Ev.Rebinds.foldl_fitted _ Prod.fst _ e ?_ fun e p hp => ?_
  · rintro ⟨d, v⟩ h
    exact State.fitted_of_doorRec ((e.mem_branchDoors b d v).mp h).1
  · split
    · exact e.enterLevel_rebinds p.1 _ hp
    · exact .refl e

theorem Ev.closeRun_rebinds (e : Ev) (b : BranchId) (n : Option Serial) : e.Rebinds (e.closeRun b n) := by
  unfold Ev.closeRun
  split
  · exact .refl e
  · next r _ =>
    have h1 := Ev.Rebinds.foldl (fun e p => e.bindPair b p) r.pairs (fun e p _ => e.bindPair_rebinds b p) e
    have h2 : ∀ e₁ : Ev, e₁.Rebinds (match n with
        | some serial => e₁.takeForeign b ⟨serial, none⟩
        | none => e₁) := by
      intro e₁
      cases n with
      | none => exact .refl _
      | some serial => exact Ev.takeForeign_rebinds _ _ _
    exact ((h1.trans (h2 _)).trans (Ev.markUnbound_rebinds _ b)).trans
      (.of_same (Ev.modBranch_sources _ b Branch.toPolling rfl) rfl rfl)

theorem Ev.setFlag_rebinds (e : Ev) (f : EventFlag) : e.Rebinds (e.setFlag f) :=
  .of_same ⟨rfl, rfl, fun _ => rfl⟩ rfl rfl

theorem Ev.endRun_rebinds (e : Ev) (b : BranchId) (n : Option Serial) : e.Rebinds (e.endRun b n) :=
  (e.closeRun_rebinds b n).trans (Ev.setFlag_rebinds _ _)

theorem Ev.abortRun_rebinds (e : Ev) (b : BranchId) : e.Rebinds (e.abortRun b) :=
  (e.closeRun_rebinds b none).trans (Ev.setFlag_rebinds _ _)

theorem Ev.abortFor_rebinds (e : Ev) (d : Slot) : e.Rebinds (e.abortFor d) := by
  unfold Ev.abortFor
  split
  · split
    · exact e.abortRun_rebinds _
    · exact .refl e
  · exact .refl e

/-! ### Rounds of a run -/

theorem Ev.beginRound_moves (e : Ev) (b : BranchId) (r : Run) : e.Moves (e.beginRound b r) :=
  e.modBranch_moves b _ rfl

theorem Ev.sendAssign_moves (e : Ev) (b : BranchId) (r : Run) (serial : Serial) (a : Nat) :
    e.Moves (e.sendAssign b r serial a) := e.modBranch_moves b _ rfl

theorem Ev.beginAdd_moves (e : Ev) (b : BranchId) : e.Moves (e.beginAdd b) := e.modBranch_moves b _ rfl

/-- A fold over doors of an event, each fitted at its turn. -/
theorem Ev.Moves.foldl_fitted {α : Type} (f : Ev → α → Ev) (g : α → Slot) (l : List α) (e : Ev)
    (hl : ∀ a ∈ l, e.fitted (g a) = true) (h : ∀ (e : Ev), ∀ a ∈ l, e.fitted (g a) = true → e.Moves (f e a)) :
    e.Moves (l.foldl f e) := by
  induction l generalizing e with
  | nil => exact .refl _
  | cons a l ih =>
    have ha := h e a (by simp) (hl a (by simp))
    exact State.Moves.trans ha (ih _ (fun x hx => (ha.sources.fitted _).trans (hl x (by simp [hx])))
      fun e x hx => h e x (by simp [hx]))

theorem Ev.beginFresh_moves (e : Ev) (b : BranchId) : e.Moves (e.beginFresh b) := by
  unfold Ev.beginFresh
  refine State.Moves.trans (Ev.Moves.foldl_fitted _ Prod.fst _ e ?_ fun e p _ hp => ?_) (Ev.modBranch_moves _ b _ rfl)
  · rintro ⟨d, a⟩ h
    obtain ⟨v, hv, -⟩ := (e.mem_bound b d a).mp h
    exact State.fitted_of_doorRec hv
  · refine (e.modDoor_touches p.1 _).moves (.inl hp) ?_
    rw [Ev.modDoor_same]
    exact .single (.unbind _ _)

theorem Ev.noProgress_moves (e : Ev) (b : BranchId) (r : Run) (again : Ev → Run → Ev)
    (h : ∀ e r, Ev.Moves e (again e r)) : e.Moves (e.noProgress b r again) := by
  unfold Ev.noProgress
  dsimp only
  split
  · exact h _ _
  · exact (e.modBranch_moves b _ rfl).trans (Ev.endRun_rebinds _ b none).moves

theorem Ev.takeAnswer_moves (e : Ev) (b : BranchId) (r : Run) (serial : Serial) : e.Moves (e.takeAnswer b r serial) := by
  unfold Ev.takeAnswer
  split
  · exact (e.noProgress_moves b r _ fun e r => e.sendAssign_moves b r _ _).trans (Ev.modBranch_moves _ b _ rfl)
  · split
    · exact e.sendAssign_moves b _ _ _
    · exact (e.endRun_rebinds b _).moves

/-! ### Queue requests (R51, R148) and the need-close check (R16) -/

/-- A queue request: the abort of a run, then an entry made or replaced on an ONLINE door without a move. -/
theorem Ev.request_cases (e : Ev) (d : Slot) (dir : Dir) (o : Origin) (b : Basis) :
    (e.request d dir o b = e.abortFor d
        ∧ ¬((e.abortFor d).doors[d].link = .online ∧ (e.abortFor d).doors[d].move = .none))
      ∨ (e.abortFor d).doors[d].link = .online ∧ (e.abortFor d).doors[d].move = .none
        ∧ Ev.Touches d (e.abortFor d) (e.request d dir o b)
        ∧ (e.request d dir o b).doors[d] =
          { (e.abortFor d).doors[d].enqueued e.uptime dir o b with
            retry := o.retryAfter (e.abortFor d).doors[d].retry } := by
  unfold Ev.request
  generalize hx : e.abortFor d = e₁
  have hu : e₁.uptime = e.uptime := hx ▸ (e.abortFor_rebinds d).uptime
  have hm : e₁.doors[d].stands = false ↔ e₁.doors[d].move = .none := by
    rw [← Bool.not_eq_true, Door.stands_eq_true, not_not]
  simp only [Bool.and_eq_true, decide_eq_true_eq, Bool.not_eq_true', hm]
  split
  · next h =>
    refine .inr ⟨h.1, h.2, (Ev.modDoor_touches _ d _).trans (Ev.toPhase_touches _ d _), ?_⟩
    rw [Ev.toPhase_door, Ev.modDoor_same, hu]
    rfl
  · next h => exact .inl ⟨rfl, h⟩

/-- An ONLINE slot is active. -/
theorem State.active_of_online {s : State} {d : Slot} (h : s.doors[d].link = .online) : s.Active d := by
  refine .inr fun k => ?_
  rw [k] at h
  cases h

/-- A request of an origin other than RETRY zeroes the retry count (R51). -/
theorem Origin.retryAfter_of_ne {o : Origin} (h : o ≠ .retry) (n : Nat) : o.retryAfter n = 0 := by
  cases o
  case retry => exact absurd rfl h
  all_goals rfl

/-- A queue request of an origin other than RETRY. -/
theorem Ev.request_moves (e : Ev) (d : Slot) (dir : Dir) (o : Origin) (b : Basis) (ho : o ≠ .retry) :
    e.Moves (e.request d dir o b) := by
  have ha := (e.abortFor_rebinds d).moves
  rcases e.request_cases d dir o b with ⟨h, -⟩ | ⟨hl, hm, ht, hd⟩
  · rw [h]
    exact ha
  · refine ha.trans (ht.moves (State.active_of_online hl) ?_)
    rw [hd]
    refine .single (.enqueue _ _ _ hl hm (.inl ?_))
    exact Origin.retryAfter_of_ne ho _

theorem Ev.needClose_moves (e : Ev) (d : Slot) (o : Origin) (ho : o ≠ .retry) : e.Moves (e.needClose d o) := by
  unfold Ev.needClose
  dsimp only
  split
  · next h =>
    simp only [Bool.and_eq_true, beq_iff_eq] at h
    obtain ⟨⟨⟨⟨hh, -⟩, -⟩, hp⟩, -⟩ := h
    split
    · refine (e.toPhase_touches d _).moves (.inl (State.fitted_of_orderHeld hh)) ?_
      rw [Ev.toPhase_door]
      exact .single (.rest _ _ _ _ _ rfl rfl nofun fun hf => Door.flowWf_rests hf (by rw [hp]; rfl))
    · exact e.request_moves d _ _ _ ho
  · exact .refl _

end Sys2Proof.Machine
end

section
/-! SUPPORT. Order changes (R37 to R41), the bank swap (R166) and the end of an event: each keeps the invariants of
door records. -/

namespace Sys2Proof.Machine

open Sys2Proof

/-! ### Chains of the operations on one door -/

section Chains

variable (held : Bool) (e : Ev) (d : Slot)

/-- A phase that rests without a timer: IDLE, HELD-LOCAL, FAILED. -/
def Phase.quiet (p : Phase) : Bool := p.rests && p.suits .none

/-- A door comes to rest in a quiet phase. -/
theorem Door.Op.quiet (r : Door) (en : Option Entry) (mv : Move) (p : Phase) (hp : p.quiet = true)
    (hf : r.flowWf = true → en = none ∧ mv = .none) :
    Door.Op held r { r with entry := en, move := mv, phase := p, timer := .none } := by
  simp only [Phase.quiet, Bool.and_eq_true] at hp
  refine .rest r en mv p .none hp.1 hp.2 (fun k => ?_) hf
  simp [k, Phase.suits] at hp

theorem Ev.toPhase_chain (p : Phase) (hp : p.quiet = true) (hr : e.doors[d].phase.rests = true) :
    Door.Chain held e.doors[d] (e.toPhase d p).doors[d] := by
  rw [Ev.toPhase_door]
  exact .single (.quiet held _ _ _ p hp fun hf => Door.flowWf_rests hf hr)

/-- A consistent door in QUEUED has no move. -/
theorem Door.flowWf_queued {r : Door} (hf : r.flowWf = true) (hp : r.phase = .queued) : r.move = .none := by
  rcases r.flowWf_iff.mp hf with ⟨-, -, h⟩ | ⟨h, -⟩ | ⟨h, -⟩ | ⟨-, -, h⟩
  · exact h
  · simp [hp] at h
  · simp [hp] at h
  · exact h

theorem Ev.dropEntry_chain (p : Phase) (hp : p.quiet = true) (hr : e.doors[d].phase = .queued) :
    Door.Chain held e.doors[d] (e.dropEntry d p).doors[d] := by
  rw [Ev.dropEntry_door]
  exact .single (.quiet held _ _ _ p hp fun hf => ⟨rfl, Door.flowWf_queued hf hr⟩)

/-- A consistent door with a move has no entry. -/
theorem Door.flowWf_move {r : Door} (hf : r.flowWf = true) (hm : r.move ≠ .none) : r.entry = none := by
  rcases r.flowWf_iff.mp hf with ⟨-, -, h⟩ | ⟨-, h, -⟩ | ⟨-, h, -⟩ | ⟨-, h, -⟩
  · exact absurd h hm
  all_goals exact h

/-- A consistent door in WARNING or DRIVING has a move and no entry. -/
theorem Door.flowWf_moves {r : Door} (hf : r.flowWf = true) (hp : r.phase = .warning ∨ r.phase = .driving) :
    r.entry = none ∧ r.move ≠ .none := by
  rcases r.flowWf_iff.mp hf with ⟨h, -⟩ | ⟨-, he, a, ha, -⟩ | ⟨-, he, hm⟩ | ⟨h, -⟩
  · simp [h] at hp
  · exact ⟨he, by simp [ha]⟩
  · exact ⟨he, hm⟩
  · rcases hp with hp | hp <;> simp [hp, Phase.rests] at h

theorem Ev.dropMove_chain (p : Phase) (hp : p.quiet = true)
    (hr : e.doors[d].flowWf = true → e.doors[d].entry = none) :
    Door.Chain held e.doors[d] (e.dropMove d p).doors[d] := by
  rw [Ev.dropMove_door]
  exact .single (.quiet held _ _ _ p hp fun hf => ⟨hr hf, rfl⟩)

theorem Ev.place_chain (c : Cmd) (hc : c ≠ .openDoor) : Door.Chain held e.doors[d] (e.place d c).doors[d] := by
  rw [Ev.place_door_of_ne _ _ _ hc]
  exact .single (.slot _ c fun _ => hc)

theorem Ev.zeroRetry_chain : Door.Chain held e.doors[d] (e.zeroRetry d).doors[d] := by
  rw [Ev.zeroRetry_door]
  exact .single (.zeroRetry _)

theorem Ev.enterEnd_chain (k : AlarmKind) (dir : Dir) : Door.Chain held e.doors[d] (e.enterEnd d k dir).doors[d] := by
  rw [Ev.enterEnd_door]
  exact .single (.conds _ _)

theorem Ev.dropCond_chain (k : AlarmKind) : Door.Chain held e.doors[d] (e.dropCond d k).doors[d] := by
  rw [Ev.dropCond_door]
  exact .single (.conds _ _)

theorem Ev.endHalted_chain (hr : e.doors[d].flowWf = true → e.doors[d].entry = none) :
    Door.Chain held e.doors[d] (e.endHalted d).doors[d] := by
  rw [Ev.endHalted_door]
  exact (Relation.ReflTransGen.single (Door.Op.holds _ e.doors[d].haltHolds)).tail (.slot _ .halt fun _ => by decide)
    |>.tail (.quiet held _ _ .none .idle rfl fun hf => ⟨hr hf, rfl⟩)

/-- The door returns to IDLE with retry count 0. -/
theorem Ev.idleZero_chain (hr : e.doors[d].phase.rests = true) :
    Door.Chain held e.doors[d] ((e.toPhase d .idle).zeroRetry d).doors[d] :=
  (e.toPhase_chain held d .idle rfl hr).trans (Ev.zeroRetry_chain held _ d)

end Chains

/-- A WARNING is called off: WARN-OFF is placed and the admission dropped. -/
theorem Ev.callOff_chain (held : Bool) (e : Ev) (d : Slot) (p : Phase) (hp : p.quiet = true)
    (hr : e.doors[d].flowWf = true → e.doors[d].entry = none) :
    Door.Chain held e.doors[d] ((e.place d .warnOff).dropMove d p).doors[d] := by
  refine (e.place_chain held d .warnOff (by decide)).trans (Ev.dropMove_chain held _ d p hp ?_)
  rw [Ev.place_door_of_ne _ _ _ (by decide)]
  exact hr

/-! ### Order set and order release -/

theorem Ev.endHalted_moves (e : Ev) (d : Slot) (ha : e.Active d)
    (hr : e.doors[d].flowWf = true → e.doors[d].entry = none) : e.Moves (e.endHalted d) :=
  (e.endHalted_touches d).moves ha (e.endHalted_chain _ d hr)

theorem Ev.dropEntry_moves (e : Ev) (d : Slot) (p : Phase) (ha : e.Active d) (hp : p.quiet = true)
    (hr : e.doors[d].phase = .queued) : e.Moves (e.dropEntry d p) :=
  (e.dropEntry_touches d p).moves ha (e.dropEntry_chain _ d p hp hr)

theorem Ev.toPhase_moves (e : Ev) (d : Slot) (p : Phase) (ha : e.Active d) (hp : p.quiet = true)
    (hr : e.doors[d].phase.rests = true) : e.Moves (e.toPhase d p) :=
  (e.toPhase_touches d p).moves ha (e.toPhase_chain _ d p hp hr)

theorem Ev.idleZero_moves (e : Ev) (d : Slot) (ha : e.Active d) (hr : e.doors[d].phase.rests = true) :
    e.Moves ((e.toPhase d .idle).zeroRetry d) :=
  ((e.toPhase_touches d _).trans (Ev.zeroRetry_touches _ d)).moves ha (e.idleZero_chain _ d hr)

theorem Ev.callOff_moves (e : Ev) (d : Slot) (p : Phase) (ha : e.Active d) (hp : p.quiet = true)
    (hr : e.doors[d].flowWf = true → e.doors[d].entry = none) : e.Moves ((e.place d .warnOff).dropMove d p) :=
  ((e.place_touches d _).trans (Ev.dropMove_touches _ d _)).moves ha (e.callOff_chain _ d p hp hr)

theorem Ev.withdrawOpen_moves (e : Ev) (d : Slot) (hf : e.fitted d = true) : e.Moves (e.withdrawOpen d) := by
  unfold Ev.withdrawOpen
  dsimp only
  generalize he : (if e.doors[d].goal = some .opening then _ else e : Ev) = e1
  have h1 : e.Moves e1 := by
    subst he
    split
    · split
      · next hp => exact e.dropEntry_moves d _ (.inl hf) rfl hp
      · next hp => exact e.endHalted_moves d (.inl hf) fun k => (Door.flowWf_moves k (.inr hp)).1
      · next hp => exact e.idleZero_moves d (.inl hf) (by rw [hp]; rfl)
      · exact .refl _
    · exact .refl _
  split
  · exact h1.trans ((e1.place_touches d _).moves (.inl ((h1.sources.fitted d).trans hf))
      (e1.place_chain _ d _ (by decide)))
  · exact h1

/-- A door brought into line with an order does not hold OPEN in its slot (R38). -/
theorem Ev.withdrawOpen_slot (e : Ev) (d : Slot) : (e.withdrawOpen d).doors[d].slot ≠ .openDoor := by
  unfold Ev.withdrawOpen
  dsimp only
  generalize (if e.doors[d].goal = some .opening then _ else e : Ev) = e1
  split
  · rw [Ev.place_door_of_ne _ _ _ (by decide)]
    simp
  · assumption

theorem Ev.orderOutcome_moves (e : Ev) (d : Slot) (hf : e.fitted d = true) : e.Moves (e.orderOutcome d) := by
  have h := e.needClose_moves d .order (by decide)
  unfold Ev.orderOutcome
  dsimp only
  split
  · split
    · exact h.trans (Ev.enterLevel_moves _ d _ (.inl ((h.sources.fitted d).trans hf)))
    · exact h
  · exact .refl _

theorem Ev.orderSet_moves (e : Ev) (d : Slot) (hf : e.fitted d = true) : e.Moves (e.orderSet d) := by
  have h1 := (e.abortFor_rebinds d).moves
  have h2 := Ev.withdrawOpen_moves _ d ((h1.sources.fitted d).trans hf)
  have h3 := Ev.orderOutcome_moves _ d (((h1.trans h2).sources.fitted d).trans hf)
  exact (h1.trans h2).trans h3

/-- After its order set a door does not hold OPEN in its slot (R26, R38). -/
theorem Ev.orderSet_slot (e : Ev) (d : Slot) (hh : e.orderHeld d = true) : (e.orderSet d).doors[d].slot ≠ .openDoor := by
  have hf := State.fitted_of_orderHeld hh
  have h1 := (e.abortFor_rebinds d).moves
  have h2 := h1.trans (Ev.withdrawOpen_moves _ d ((h1.sources.fitted d).trans hf))
  have h3 := Ev.orderOutcome_moves _ d ((h2.sources.fitted d).trans hf)
  have hc := h3.chain d
  rw [h2.sources.orderHeld, hh] at hc
  exact hc.keeps_slot (Ev.withdrawOpen_slot _ d)

theorem Ev.releasePhase_moves (e : Ev) (d : Slot) (hf : e.fitted d = true) : e.Moves (e.releasePhase d) := by
  unfold Ev.releasePhase
  dsimp only
  split
  · next hp _ =>
    split
    · exact e.dropEntry_moves d _ (.inl hf) rfl hp
    · exact .refl _
  · next hp _ =>
    split
    · exact e.callOff_moves d _ (.inl hf) rfl fun k => (Door.flowWf_moves k (.inl hp)).1
    · exact .refl _
  case h_7 => exact .refl _
  all_goals
    next hp =>
    exact e.toPhase_moves d _ (.inl hf) rfl (by rw [hp]; rfl)

theorem Ev.orderRelease_moves (e : Ev) (d : Slot) (hf : e.fitted d = true) : e.Moves (e.orderRelease d) := by
  have h := e.releasePhase_moves d hf
  refine h.trans (((((Ev.zeroRetry_touches _ d).trans (Ev.dropCond_touches _ d _)).trans
    (Ev.dropCond_touches _ d _)).trans (Ev.dropCond_touches _ d _)).moves (.inl ((h.sources.fitted d).trans hf)) ?_)
  exact (((Ev.zeroRetry_chain _ _ d).trans (Ev.dropCond_chain _ _ d _)).trans (Ev.dropCond_chain _ _ d _)).trans
    (Ev.dropCond_chain _ _ d _)

/-! ### Recomputation -/

theorem Ev.handOrder_moves (before : State) (e : Ev) (d : Slot) (hf : e.fitted d = true) :
    e.Moves (Ev.handOrder before e d) := by
  unfold Ev.handOrder
  split
  · exact e.orderSet_moves d hf
  · exact e.orderRelease_moves d hf
  · exact .refl _

theorem Ev.recompute_moves (before : State) (e : Ev) : e.Moves (Ev.recompute before e) := by
  unfold Ev.recompute
  refine Ev.Moves.foldl_fitted _ Prod.fst _ e ?_ fun e p _ hp => Ev.handOrder_moves before e p.1 hp
  rintro ⟨d, v⟩ h
  exact State.fitted_of_doorRec ((e.mem_fittedDoors d v).mp h)

/-- A door whose order begins does not hold OPEN in its slot after the recomputation (R26, R37). -/
theorem Ev.recompute_slot (before : State) (e : Ev) (d : Slot) (hb : before.orderHeld d = false)
    (he : e.orderHeld d = true) : (Ev.recompute before e).doors[d].slot ≠ .openDoor := by
  obtain ⟨v, hv⟩ := (e.fitted_iff d).mp (State.fitted_of_orderHeld he)
  have hm : (d, v) ∈ e.fittedDoors := (e.mem_fittedDoors d v).mpr hv
  have hl : ∀ p ∈ e.fittedDoors, e.fitted p.1 = true := fun p hp =>
    State.fitted_of_doorRec ((e.mem_fittedDoors p.1 p.2).mp hp)
  unfold Ev.recompute
  generalize e.fittedDoors = l at hm hl
  induction l generalizing e with
  | nil => cases hm
  | cons p l ih =>
    rw [List.foldl_cons]
    have h := Ev.handOrder_moves before e p.1 (hl p (by simp))
    have hrest : ∀ q ∈ l, (Ev.handOrder before e p.1).fitted q.1 = true := fun q hq =>
      (h.sources.fitted _).trans (hl q (by simp [hq]))
    have he' := (h.sources.orderHeld d).trans he
    rcases List.mem_cons.mp hm with rfl | hm
    · have hs : (Ev.handOrder before e d).doors[d].slot ≠ .openDoor := by
        unfold Ev.handOrder
        rw [hb, he]
        exact e.orderSet_slot d he
      have hc := (Ev.Moves.foldl_fitted (fun e p => Ev.handOrder before e p.1) Prod.fst l _ hrest
        fun e q _ hq => Ev.handOrder_moves before e q.1 hq).chain d
      rw [he'] at hc
      exact hc.keeps_slot hs
    · exact ih _ he' (by rw [h.sources.doorRec]; exact hv) hm hrest

/-- A recomputation after a change of the order sources keeps the invariants, if the change kept those of the
records and put no OPEN into the slot of a door whose order stays. -/
theorem Ev.recompute_keeps {before : State} {e : Ev} (hdoor : ∀ d : Slot, Door.Chain false before.doors[d] e.doors[d])
    (hbare : before.BareWf → e.BareWf)
    (hslot : before.SlotWf → ∀ d : Slot, before.orderHeld d = true → e.orderHeld d = true →
      e.doors[d].slot ≠ .openDoor) : before.Keeps (Ev.recompute before e).toState := by
  have hm := Ev.recompute_moves before e
  refine ⟨fun d => (hdoor d).trans (hm.chain d).free, fun h => hm.keeps.bare (hbare h), fun h d hd => ?_⟩
  have he : e.orderHeld d = true := (hm.sources.orderHeld d).symm.trans hd
  by_cases hb : before.orderHeld d = true
  · have hc := hm.chain d
    rw [he] at hc
    exact hc.keeps_slot (hslot h d hb he)
  · exact Ev.recompute_slot before e d (Bool.eq_false_iff.mpr hb) he

/-! ### Banks that are not ACTIVE -/

theorem Banks.state_of_find {bs : Banks} {st : BankState} {id : BankId} (h : bs.find st = some id) :
    (bs.get id).state = st := by
  unfold Banks.find at h
  split at h
  · cases h
    assumption
  · split at h
    · cases h
      assumption
    · cases h

/-- The set of the ACTIVE bank. -/
def Banks.activeSet (bs : Banks) : Option TableSet := (bs.find .active).map fun id => (bs.get id).set

theorem State.activeSet_eq (s : State) : s.activeSet = s.banks.activeSet := rfl

/-- A change of a bank that is not ACTIVE and does not become so leaves the active set. -/
theorem Banks.put_activeSet (bs : Banks) (id : BankId) (v : Bank) (h : (bs.get id).state ≠ .active)
    (hv : v.state ≠ .active) : (bs.put id v).activeSet = bs.activeSet := by
  cases id with
  | a =>
    simp only [Banks.get] at h
    by_cases hb : bs.b.state = .active <;> simp [Banks.activeSet, Banks.find, Banks.put, Banks.get, h, hv, hb]
  | b =>
    simp only [Banks.get] at h
    by_cases ha : bs.a.state = .active <;> simp [Banks.activeSet, Banks.find, Banks.put, Banks.get, h, hv, ha]

theorem Ev.cancelPending_moves (e : Ev) : e.Moves e.cancelPending := by
  unfold Ev.cancelPending
  split
  · next id h =>
    refine .of_same ⟨?_, rfl, fun _ => rfl⟩ rfl
    have hs := Banks.state_of_find h
    exact Banks.put_activeSet _ id _ (by rw [hs]; decide) (by simp)
  · exact .refl _

/-- Zone modes and line senses have changed, and nothing else that bears on a door. -/
theorem Ev.sourcesChanged_keeps {before : State} {e : Ev} (hd : e.doors = before.doors)
    (hs : e.activeSet = before.activeSet) : before.Keeps (Ev.sourcesChanged before e).toState := by
  have hc : e.Moves (if before.newlyOrdered e.toState then e.cancelPending else e) := by
    split
    · exact e.cancelPending_moves
    · exact .refl _
  have hfit : ∀ d, e.fitted d = before.fitted d := fun d => by
    simp only [State.fitted, State.doorRec, State.activeRecord, hs]
  refine Ev.recompute_keeps (fun d => ?_) (fun hb => hc.keeps.bare fun d hf => ?_) fun hw d hb he => ?_
  · have := (hc.chain d).free
    simpa only [hd] using this
  · rw [hd]
    exact hb d ((hfit d).symm.trans hf)
  · have he' := (hc.sources.orderHeld d).symm.trans he
    have hch := hc.chain d
    rw [he', hd] at hch
    exact hch.keeps_slot (hw d hb)

/-! ### The swap -/

theorem swapDoor_chain (held : Bool) (now : Time) (old new : Option DoorRec) (r : Door) :
    Door.Chain held r (swapDoor now old new r) := by
  have rest : ∀ r₁ : Door, Door.Chain held r₁
      { r₁ with phase := .idle, retry := 0, timer := .none, entry := none, move := .none, holds := [] } := fun r₁ =>
    ((Relation.ReflTransGen.single (Door.Op.zeroRetry r₁)).tail (.holds _ [])).tail
      (.quiet held _ none .none .idle rfl fun _ => ⟨rfl, rfl⟩)
  unfold swapDoor
  split
  · exact .single (.blank r)
  · dsimp only
    split
    · split
      · exact rest r
      · exact (Relation.ReflTransGen.single (Door.Op.unbind r now)).trans (rest _)
    · exact (Relation.ReflTransGen.single (Door.Op.unbind r now)).trans (rest _)

theorem Ev.swapDrop_moves (old : State) (e : Ev) (d : Slot) : e.Moves (Ev.swapDrop old e d) := by
  unfold Ev.swapDrop
  split
  · exact e.push_moves _
  · exact .refl _

theorem Ev.swapLost_moves (old : State) (e : Ev) (d : Slot) : e.Moves (Ev.swapLost old e d) := by
  unfold Ev.swapLost
  split
  · next hn =>
    split
    · exact .refl _
    · exact e.enterLevel_moves d _ (.inl (State.fitted_of_doorRec hn))
  · next hn => exact e.enterLevel_moves d _ (.inl (State.fitted_of_doorRec hn))
  · exact .refl _

/-- The runs in progress are abandoned (R149). -/
def Ev.abortRuns (e : Ev) : Ev :=
  branchIds.foldl (fun e b => if (e.branches[b].run).isSome then e.abortRun b else e) e

/-- The ACTIVE bank becomes RETIRED and the incoming one ACTIVE (R161). -/
def Banks.swapped (bs : Banks) (incoming : BankId) : Banks :=
  let retired := match bs.find .active with
    | some id => bs.setState id .retired
    | none => bs
  retired.setState incoming .active

/-- The banks take the incoming set, and doors and branches are re-derived from it (R4, R134). -/
def Ev.rederive (now : Time) (bs : Banks) (e : Ev) : Ev :=
  let e1 : Ev := { e with banks := bs }
  let e2 := e1.modDoors fun d r => swapDoor now (e.doorRec d) (e1.doorRec d) r
  { e2 with branches := Vector.ofFn fun b => e2.branches[b].restate (e2.enabled b) }

/-- The alarm requests of a swap, and LINK-LOST of the slots that became UNBOUND (R4, R118). -/
def Ev.swapRequests (old : State) (hadNone : Bool) (e : Ev) : Ev :=
  let e1 := slots.foldl (fun e d => Ev.swapDrop old e d) e
  let e2 := if hadNone then e1.push (.clear .device .noTable) else e1
  slots.foldl (fun e d => Ev.swapLost old e d) (e2.push .removalsDone)

/-- The parts of a swap, in their order (R166). -/
theorem Ev.swap_eq (e : Ev) (incoming : BankId) :
    e.swap incoming =
      Ev.recompute e.abortRuns.toState
        (Ev.swapRequests e.abortRuns.toState (e.abortRuns.banks.find .active).isNone
          (e.abortRuns.rederive e.uptime (e.abortRuns.banks.swapped incoming))) := by
  simp only [Ev.swap, Ev.abortRuns, Ev.swapRequests, Ev.rederive, Banks.swapped]
  rfl

theorem Ev.rederive_door (now : Time) (bs : Banks) (e : Ev) (d : Slot) :
    (e.rederive now bs).doors[d] = swapDoor now (e.doorRec d) ((e.rederive now bs).doorRec d) e.doors[d] := by
  have hd : (e.rederive now bs).doors =
      Vector.ofFn fun d => swapDoor now (e.doorRec d) (({ e with banks := bs } : Ev).doorRec d) e.doors[d] := by
    simp only [Ev.rederive, Ev.modDoors]
  have hb : (e.rederive now bs).banks = bs := by simp only [Ev.rederive, Ev.modDoors_banks]
  have hr : (e.rederive now bs).doorRec d = ({ e with banks := bs } : Ev).doorRec d := by
    simp only [State.doorRec, State.activeRecord, State.activeSet, hb]
  rw [hd, hr]
  simp only [Fin.getElem_fin, Vector.getElem_ofFn]

theorem Ev.abortRuns_moves (e : Ev) : e.Moves e.abortRuns := by
  refine Ev.Moves.foldl _ _ (fun e b _ => ?_) e
  split
  · exact (e.abortRun_rebinds b).moves
  · exact .refl _

theorem Ev.swapRequests_moves (old : State) (hadNone : Bool) (e : Ev) : e.Moves (e.swapRequests old hadNone) := by
  have hdrop : e.Moves (slots.foldl (fun e d => Ev.swapDrop old e d) e) :=
    Ev.Moves.foldl _ _ (fun e d _ => Ev.swapDrop_moves old e d) e
  unfold Ev.swapRequests
  refine State.Moves.trans ?_ (Ev.Moves.foldl _ _ (fun e d _ => Ev.swapLost_moves old e d) _)
  refine State.Moves.trans ?_ (Ev.push_moves _ _)
  split
  · exact hdrop.trans (Ev.push_moves _ _)
  · exact hdrop

theorem Ev.swap_keeps (e : Ev) (incoming : BankId) : e.Keeps (e.swap incoming).toState := by
  rw [Ev.swap_eq]
  refine e.abortRuns_moves.keeps.trans ?_
  have hdoor := Ev.rederive_door e.uptime (e.abortRuns.banks.swapped incoming) e.abortRuns
  generalize e.abortRuns.rederive e.uptime (e.abortRuns.banks.swapped incoming) = x at hdoor ⊢
  have hxy := x.swapRequests_moves e.abortRuns.toState (e.abortRuns.banks.find .active).isNone
  refine Ev.recompute_keeps (fun d => ?_) (fun _ => hxy.keeps.bare fun d hf => ?_) fun hw d hh he => ?_
  · refine Relation.ReflTransGen.trans ?_ (hxy.chain d).free
    rw [hdoor]
    exact swapDoor_chain false _ _ _ _
  · have hn : x.doorRec d = none := by simpa [State.fitted] using hf
    rw [hdoor, hn]
    rfl
  · have hs : x.doors[d].slot ≠ .openDoor := by
      rw [hdoor]
      exact (swapDoor_chain true _ _ _ _).keeps_slot (hw d hh)
    have hc := hxy.chain d
    rw [← hxy.sources.orderHeld, he] at hc
    exact hc.keeps_slot hs

/-! ### The end of an event -/

theorem Ev.swapIfQuiescent_keeps (e : Ev) : e.Keeps e.swapIfQuiescent.toState := by
  unfold Ev.swapIfQuiescent
  split
  · split
    · exact e.swap_keeps _
    · exact .refl _
  · exact .refl _

/-- Arbiters, alarm requests and live image. -/
theorem Ev.settled_moves (e : Ev) : State.Moves e.toState (e.arbiters.takeAlarms.updateLive) :=
  (e.arbiters_arbitrates.moves.trans (Ev.takeAlarms_works _).moves).trans (State.updateLive_works _).moves

theorem Ev.settle_keeps (e : Ev) : e.Keeps e.settle :=
  e.swapIfQuiescent_keeps.trans ((Ev.settled_moves _).trans (State.sendPolls_moves _)).keeps

theorem Ev.settleJudging_keeps (e : Ev) : e.Keeps e.settleJudging :=
  e.swapIfQuiescent_keeps.trans
    (((Ev.settled_moves _).trans (State.judgeFreeze_works _).moves).trans (State.sendPolls_moves _)).keeps

theorem Ev.settleReset_moves (e : Ev) : State.Moves e.toState e.settleReset := by
  have h : e.takeAlarms.SameWorks
      (({ e.takeAlarms with ind := { e.takeAlarms.ind with live := e.takeAlarms.picture } } : State).freeze) := rfl
  exact ((Ev.takeAlarms_works e).trans h).moves.trans (State.sendPolls_moves _)

end Sys2Proof.Machine
end

section
/-! SUPPORT. A report as a function of the door record (R11): one function per stage, each tied to the model's
operation by an equation that holds while no run is in progress on the door's branch. -/

namespace Sys2Proof.Machine

open Sys2Proof

/-! ### Queue request and need-close check without a run -/

/-- On a branch without a run there is nothing to abort (R148). -/
theorem Ev.abortFor_of_noRun (e : Ev) (d : Slot) (h : e.NoRunFor d) : e.abortFor d = e := by
  unfold Ev.abortFor
  split
  · next v hv =>
    rw [if_neg]
    simp [-Fin.getElem_fin, h v hv]
  · rfl

/-- A queue request for an ONLINE door without a move makes or replaces its entry (R51). -/
theorem Ev.request_door (e : Ev) (d : Slot) (dir : Dir) (o : Origin) (b : Basis) (h : e.NoRunFor d) :
    (e.request d dir o b).doors[d] =
      if e.doors[d].link = .online ∧ e.doors[d].move = .none then
        { e.doors[d].enqueued e.uptime dir o b with retry := o.retryAfter e.doors[d].retry }
      else e.doors[d] := by
  have ha := e.abortFor_of_noRun d h
  rcases e.request_cases d dir o b with ⟨hr, hn⟩ | ⟨hl, hm, -, hd⟩
  · rw [ha] at hn
    rw [hr, ha, if_neg hn]
  · rw [ha] at hl hm hd
    rw [hd, if_pos ⟨hl, hm⟩]

/-- The need-close check of a door record (R16, R18). -/
def Door.closeChecked (held : Bool) (now : Time) (o : Origin) (x : Door) : Door :=
  if held = true ∧ x.link = .online ∧ x.atClosed = false ∧ x.phase = .idle ∧ x.conds.travelTimeout = none then
    if x.handleOpen = true then { x with phase := .heldLocal, timer := .none }
    else if x.move = .none then
      { x.enqueued now .closing o .order with retry := o.retryAfter x.retry }
    else x
  else x

theorem Ev.needClose_door (e : Ev) (d : Slot) (o : Origin) (h : e.NoRunFor d) :
    (e.needClose d o).doors[d] = e.doors[d].closeChecked (e.orderHeld d) e.uptime o := by
  have hc : (e.orderHeld d && e.doors[d].link == .online && !e.doors[d].atClosed && e.doors[d].phase == .idle
      && e.doors[d].conds.travelTimeout.isNone) = true ↔
      e.orderHeld d = true ∧ e.doors[d].link = .online ∧ e.doors[d].atClosed = false ∧ e.doors[d].phase = .idle
        ∧ e.doors[d].conds.travelTimeout = none := by
    simp only [Bool.and_eq_true, beq_iff_eq, Bool.not_eq_true', Option.isNone_iff_eq_none, and_assoc]
  unfold Ev.needClose Door.closeChecked
  dsimp only
  simp only [hc]
  split
  · next hk =>
    split
    · rw [Ev.toPhase_door]
    · rw [e.request_door d _ _ _ h]
      simp only [hk.2.1, true_and]
  · rfl

theorem Door.closeChecked_chain (held : Bool) (now : Time) (o : Origin) (x : Door) (ho : o ≠ .retry) :
    Door.Chain held x (x.closeChecked held now o) := by
  unfold Door.closeChecked
  split
  · next h =>
    obtain ⟨-, hl, -, hp, -⟩ := h
    split
    · exact .single (.quiet held x _ _ .heldLocal rfl fun hf => Door.flowWf_rests hf (by rw [hp]; rfl))
    · split
      · next hm =>
        refine .single (.enqueue x _ _ hl hm (.inl ?_))
        exact Origin.retryAfter_of_ne ho _
      · exact .refl
  · exact .refl

/-! ### Stages 1 to 4: the report, its echo -/

/-- The record with the report taken (stages 1 to 3 of R11): ONLINE, no miss, LINK-LOST gone where it became ONLINE. -/
def Door.reported (r : Report) (x : Door) : Door :=
  { x with
    report := some r, miss := 0, link := .online
    conds := if x.link = .online then x.conds else x.conds.remove .linkLost }

/-- The echo compared with the slot (stage 4; R27, R67). -/
def Door.echoed (now : Time) (r : Report) (x : Door) : Door :=
  if x.slot ≠ .none ∧ r.echo = x.slot then
    ({ x with slot := .none, holds := x.holds.filter fun h => !h.isHalt } : Door).deliver now x.slot r.position
  else x

theorem Ev.takeEcho_door (e : Ev) (d : Slot) (r : Report) :
    (e.takeEcho d r).doors[d] = e.doors[d].echoed e.uptime r := by
  unfold Ev.takeEcho Door.echoed
  dsimp only
  split
  · exact Ev.modDoor_same e d _
  · rfl

/-- A delivery changes the move only. -/
theorem Door.deliver_eq (now : Time) (c : Cmd) (q0 : Nat) (x : Door) :
    x.deliver now c q0 = { x with move := (x.deliver now c q0).move } := by
  unfold Door.deliver
  split
  · split <;> rfl
  · split <;> rfl
  · rfl

theorem Door.deliver_chain (held : Bool) (now : Time) (c : Cmd) (q0 : Nat) (x : Door) :
    Door.Chain held x (x.deliver now c q0) := by
  unfold Door.deliver
  split
  · next a hp hm =>
    split
    · refine .single (.march x _ (fun _ => by simp [hm]) fun hf => ?_)
      obtain ⟨he, -⟩ := Door.flowWf_moves hf (.inl hp)
      simpa [Door.flowWf, hp, hm, he] using hf
    · exact .refl
  · next a hp hm =>
    split
    · refine .single (.march x _ (fun _ => by simp [hm]) fun hf => ?_)
      obtain ⟨he, -⟩ := Door.flowWf_moves hf (.inr hp)
      simp [Door.flowWf, hp, he]
    · exact .refl
  · exact .refl

theorem Door.echoed_chain (held : Bool) (now : Time) (r : Report) (x : Door) :
    Door.Chain held x (x.echoed now r) := by
  unfold Door.echoed
  split
  · exact ((Relation.ReflTransGen.single (Door.Op.slot x .none fun _ => by decide)).tail (.holds _ _)).trans
      (Door.deliver_chain held now _ _ _)
  · exact .refl

/-! ### Stage 5: motion ends -/

/-- A motion that ends STALL or OBSTRUCTED (R64). -/
def Door.haltedBy (held : Bool) (now : Time) (m : Motion) (k : AlarmKind) (x : Door) : Door :=
  let y : Door :=
    { x with move := .none, phase := .idle, timer := .none, slot := .halt, conds := x.conds.enterEnd k m.dir }
  if x.retry < 3 then { y with phase := .retryWait, timer := .retry (now + 50#32) m.dir m.origin m.basis }
  else
    match m.dir with
    | .closing =>
      { y with conds := y.conds.enterEnd .closeFailed .closing, phase := if held = true then .failed else .idle }
    | .opening => y

theorem Ev.endStopped_door (e : Ev) (d : Slot) (m : Motion) (k : AlarmKind) :
    (e.endStopped d m k).doors[d] = e.doors[d].haltedBy (e.orderHeld d) e.uptime m k := by
  have h1 : (((e.dropMove d .idle).place d .halt).enterEnd d k m.dir).doors[d] =
      { e.doors[d] with
        move := .none, phase := .idle, timer := .none, slot := .halt,
        conds := e.doors[d].conds.enterEnd k m.dir } := by
    rw [Ev.enterEnd_door, Ev.place_door_of_ne _ _ _ (by decide), Ev.dropMove_door]
  unfold Ev.endStopped Door.haltedBy
  dsimp only
  split
  · rw [Ev.modDoor_same, h1]
  · cases hd : m.dir with
    | closing =>
      rw [hd] at h1
      simp only [Ev.toPhase_door, Ev.enterEnd_door, h1]
    | opening =>
      rw [hd] at h1
      exact h1

theorem Door.haltedBy_chain (held : Bool) (now : Time) (m : Motion) (k : AlarmKind) (x : Door)
    (hm : x.flowWf = true → x.entry = none) : Door.Chain held x (x.haltedBy held now m k) := by
  have h1 : Door.Chain held x
      { x with move := .none, phase := .idle, timer := .none, slot := .halt, conds := x.conds.enterEnd k m.dir } :=
    ((Relation.ReflTransGen.single (Door.Op.quiet held x x.entry .none .idle rfl fun hf => ⟨hm hf, rfl⟩)).tail
      (.slot _ .halt fun _ => by decide)).tail (.conds _ _)
  unfold Door.haltedBy
  dsimp only
  split
  · next hr =>
    exact h1.tail (.rest _ _ _ .retryWait _ rfl rfl (fun _ => Nat.le_of_lt_succ hr) fun hf => Door.flowWf_rests hf rfl)
  · split
    · refine (h1.tail (.conds _ _)).tail (.quiet held _ _ _ _ ?_ fun hf => Door.flowWf_rests hf rfl)
      split <;> rfl
    · exact h1

/-- The record of a door whose motion ends REACHED (R14, R62). -/
def Door.reached (dir : Dir) (x : Door) : Door :=
  { x with move := .none, phase := .idle, timer := .none, retry := 0, conds := x.conds.withoutEnds dir }

/-- The record of a door whose motion ends PREEMPTED-LOCAL (R65). -/
def Door.preempted (held : Bool) (x : Door) : Door :=
  { x with slot := .halt, move := .none, phase := if held = true then .heldLocal else .idle, timer := .none }

/-- The end tests of a report of a started motion, with the need-close check after an end (R16, R61, R83 to R86). -/
def Door.endTested (held : Bool) (now : Time) (tolerance : Nat) (m : Motion) (r : Report) (x : Door) : Door :=
  if r.limit m.dir = true ∧ x.state ≠ .disagree then (x.reached m.dir).closeChecked held now .order
  else if r.handleAgainst m.dir = true then (x.preempted held).closeChecked held now .order
  else if m.dir = .closing ∧ r.obstruction = true then (x.haltedBy held now m .obstructed).closeChecked held now .order
  else if m.stalls now r.position tolerance = true then (x.haltedBy held now m .stall).closeChecked held now .order
  else { x with move := .started { m with lag := m.lagAfter now r.position tolerance } }

theorem Ev.testEnd_touches (e : Ev) (d : Slot) (v : DoorRec) (m : Motion) (r : Report) (h : e.NoRunFor d) :
    Ev.Touches d e (e.testEnd d v m r) := by
  have close : ∀ {e' : Ev}, Ev.Touches d e e' → Ev.Touches d e (e'.needClose d .order) := fun h' =>
    h'.trans (Ev.needClose_touches _ d _ (h'.noRunFor h))
  unfold Ev.testEnd
  dsimp only
  split
  · exact close (e.endReached_touches d _)
  split
  · exact close (e.endPreempted_touches d)
  split
  · exact close (e.endStopped_touches d m _)
  split
  · exact close (e.endStopped_touches d m _)
  · exact e.modDoor_touches d _

theorem Ev.testEnd_door (e : Ev) (d : Slot) (v : DoorRec) (m : Motion) (r : Report) (h : e.NoRunFor d) :
    (e.testEnd d v m r).doors[d] =
      e.doors[d].endTested (e.orderHeld d) e.uptime (e.groupRec v.group).lagTolerance m r := by
  have close : ∀ {e' : Ev} (y : Door), Ev.Touches d e e' → e'.doors[d] = y →
      (e'.needClose d .order).doors[d] = y.closeChecked (e.orderHeld d) e.uptime .order := by
    rintro e' y h' rfl
    rw [Ev.needClose_door _ _ _ (h'.noRunFor h), h'.orderHeld, h'.uptime]
  unfold Ev.testEnd Door.endTested
  dsimp only
  simp only [Bool.and_eq_true, bne_iff_ne, beq_iff_eq]
  split
  · refine close _ (e.endReached_touches d _) ?_
    rw [Ev.endReached, Ev.dropEnds_door, Ev.zeroRetry_door, Ev.dropMove_door]
    rfl
  split
  · refine close _ (e.endPreempted_touches d) ?_
    rw [Ev.endPreempted, Ev.dropMove_door, Ev.place_door_of_ne _ _ _ (by decide)]
    rfl
  split
  · exact close _ (e.endStopped_touches d m _) (e.endStopped_door d m _)
  split
  · exact close _ (e.endStopped_touches d m _) (e.endStopped_door d m _)
  · exact Ev.modDoor_same e d _

theorem Door.reached_chain (held : Bool) (dir : Dir) (x : Door) (hm : x.flowWf = true → x.entry = none) :
    Door.Chain held x (x.reached dir) :=
  ((Relation.ReflTransGen.single (Door.Op.quiet held x x.entry .none .idle rfl fun hf => ⟨hm hf, rfl⟩)).tail
    (.zeroRetry _)).tail (.conds _ _)

theorem Door.preempted_chain (held : Bool) (x : Door) (hm : x.flowWf = true → x.entry = none) :
    Door.Chain held x (x.preempted held) := by
  refine (Relation.ReflTransGen.single (Door.Op.slot x .halt fun _ => by decide)).tail
    (.quiet held _ x.entry .none _ ?_ fun hf => ⟨hm hf, rfl⟩)
  split <;> rfl

theorem Door.endTested_chain (held : Bool) (now : Time) (tolerance : Nat) (m : Motion) (r : Report) (x : Door)
    (hx : x.move = .started m) : Door.Chain held x (x.endTested held now tolerance m r) := by
  have hm : x.flowWf = true → x.entry = none := fun hf => Door.flowWf_move hf (by simp [hx])
  have close : ∀ y : Door, Door.Chain held x y → Door.Chain held x (y.closeChecked held now .order) := fun y h =>
    h.trans (y.closeChecked_chain held now .order (by decide))
  unfold Door.endTested
  split
  · exact close _ (x.reached_chain held _ hm)
  split
  · exact close _ (x.preempted_chain held hm)
  split
  · exact close _ (x.haltedBy_chain held now m _ hm)
  split
  · exact close _ (x.haltedBy_chain held now m _ hm)
  · refine .single (.march x _ (fun _ => by simp [hx]) fun hf => ?_)
    rcases x.flowWf_iff.mp hf with ⟨-, -, k⟩ | ⟨-, -, a, k, -⟩ | ⟨hp, he, -⟩ | ⟨-, -, k⟩
    · simp [hx] at k
    · simp [hx] at k
    · simp [Door.flowWf, hp, he]
    · simp [hx] at k

/-- The report handed to Motion Admission (stage 5; R24, R60, R61, R68). -/
def Door.motioned (held : Bool) (now : Time) (tolerance : Nat) (r : Report) (x : Door) : Door :=
  match x.move with
  | .started m => x.endTested held now tolerance m r
  | .admitted a =>
    if x.state = a.dir.endState then
      { x with
        slot := if x.phase = .warning then .warnOff else x.slot
        move := .none, phase := .idle, timer := .none, retry := 0 }
    else x
  | .none =>
    match x.phase with
    | .retryWait =>
      if x.timer.dir.map Dir.endState = some x.state then { x with phase := .idle, timer := .none, retry := 0 } else x
    | .failed => if x.state = .closed then { x with phase := .idle, timer := .none, retry := 0 } else x
    | _ => x

theorem Ev.takeMotion_touches (e : Ev) (d : Slot) (v : DoorRec) (r : Report) (h : e.NoRunFor d) :
    Ev.Touches d e (e.takeMotion d v r) := by
  have idle : ∀ e : Ev, Ev.Touches d e ((e.toPhase d .idle).zeroRetry d) := fun e =>
    (e.toPhase_touches d _).trans (Ev.zeroRetry_touches _ d)
  unfold Ev.takeMotion
  dsimp only
  split
  · exact e.testEnd_touches d v _ r h
  · split
    · refine Ev.Touches.trans (Ev.Touches.trans ?_ (Ev.dropMove_touches _ d _)) (Ev.zeroRetry_touches _ d)
      split
      · exact e.place_touches d _
      · exact .refl d e
    · exact .refl d e
  · split
    · split
      · exact idle e
      · exact .refl d e
    · split
      · exact idle e
      · exact .refl d e
    · exact .refl d e

theorem Ev.takeMotion_door (e : Ev) (d : Slot) (v : DoorRec) (r : Report) (h : e.NoRunFor d) :
    (e.takeMotion d v r).doors[d] =
      e.doors[d].motioned (e.orderHeld d) e.uptime (e.groupRec v.group).lagTolerance r := by
  unfold Ev.takeMotion Door.motioned
  dsimp only
  cases hm : e.doors[d].move with
  | started m => exact e.testEnd_door d v m r h
  | admitted a =>
    simp only
    split
    · rw [Ev.zeroRetry_door, Ev.dropMove_door]
      split
      · rw [Ev.place_door_of_ne _ _ _ (by decide)]
      · rfl
    · rfl
  | none =>
    cases hp : e.doors[d].phase <;> simp only
    case retryWait =>
      split
      · simp only [Ev.zeroRetry_door, Ev.toPhase_door, hm]
      · rfl
    case failed =>
      split
      · simp only [Ev.zeroRetry_door, Ev.toPhase_door, hm]
      · rfl

theorem Door.motioned_chain (held : Bool) (now : Time) (tolerance : Nat) (r : Report) (x : Door) :
    Door.Chain held x (x.motioned held now tolerance r) := by
  have idle : x.phase.rests = true → Door.Chain held x { x with phase := .idle, timer := .none, retry := 0 } := fun hp =>
    (Relation.ReflTransGen.single (Door.Op.quiet held x _ _ .idle rfl fun hf => Door.flowWf_rests hf hp)).tail (.zeroRetry _)
  unfold Door.motioned
  split
  · next m hm => exact x.endTested_chain held now tolerance m r hm
  · next a hm =>
    split
    · have slot : Door.Chain held x { x with slot := if x.phase = .warning then .warnOff else x.slot } := by
        split
        · exact .single (.slot x .warnOff fun _ => by decide)
        · exact .refl
      exact (slot.tail (.quiet held _ x.entry .none .idle rfl fun hf => ⟨Door.flowWf_move hf (by simp [hm]), rfl⟩)).tail
        (.zeroRetry _)
    · exact .refl
  · split
    · next hp =>
      split
      · exact idle (by rw [hp]; rfl)
      · exact .refl
    · next hp =>
      split
      · exact idle (by rw [hp]; rfl)
      · exact .refl
    · exact .refl

/-! ### Stage 6: the handle -/

/-- The record of a door that its handle sends to HELD-LOCAL (R18). -/
def Door.heldBy (x : Door) : Door :=
  match x.phase with
  | .failed | .heldLocal => x
  | .queued => { x with entry := none, phase := .heldLocal, timer := .none }
  | .warning => { x with slot := .warnOff, move := .none, phase := .heldLocal, timer := .none }
  | .driving => { x with slot := .halt, move := .none, phase := .heldLocal, timer := .none }
  | .idle | .dwell | .retryWait => { x with phase := .heldLocal, timer := .none }

/-- The handle rules of a report (stage 6; R18, R20, R22). -/
def Door.handled (held : Bool) (now : Time) (dwell : Nat) (r : Report) (x : Door) : Door :=
  if held = true ∧ r.handle = .openSide then x.heldBy
  else if x.phase = .heldLocal ∧ r.handle = .idle then
    if x.state = .closed then { x with phase := .idle, timer := .none }
    else if dwell = 0 then ({ x with phase := .idle, timer := .none } : Door).closeChecked held now .reclose
    else { x with phase := .dwell, timer := .dwell (now + BitVec.ofNat 32 dwell) }
  else if x.phase = .dwell ∧ x.state = .closed then { x with phase := .idle, timer := .none }
  else x

theorem Ev.holdLocal_door (e : Ev) (d : Slot) : (e.holdLocal d).doors[d] = e.doors[d].heldBy := by
  unfold Ev.holdLocal Door.heldBy
  cases e.doors[d].phase with
  | failed | heldLocal => rfl
  | queued => exact e.dropEntry_door d _
  | warning | driving => simp only [Ev.dropMove_door, Ev.place_door_of_ne, ne_eq, reduceCtorEq, not_false_iff]
  | idle | dwell | retryWait => exact e.toPhase_door d _

theorem Ev.takeHandle_touches (e : Ev) (d : Slot) (v : DoorRec) (r : Report) (h : e.NoRunFor d) :
    Ev.Touches d e (e.takeHandle d v r) := by
  have idle := e.toPhase_touches d .idle
  unfold Ev.takeHandle
  dsimp only
  split
  · exact e.holdLocal_touches d
  split
  · split
    · exact idle
    split
    · exact idle.trans (Ev.needClose_touches _ d _ (idle.noRunFor h))
    · exact e.modDoor_touches d _
  split
  · exact idle
  · exact .refl d e

theorem Ev.takeHandle_door (e : Ev) (d : Slot) (v : DoorRec) (r : Report) (h : e.NoRunFor d) :
    (e.takeHandle d v r).doors[d] = e.doors[d].handled (e.orderHeld d) e.uptime v.recloseDwell r := by
  have idle := e.toPhase_touches d .idle
  unfold Ev.takeHandle Door.handled
  dsimp only
  simp only [Bool.and_eq_true, beq_iff_eq, decide_eq_true_eq]
  split
  · exact e.holdLocal_door d
  split
  · split
    · rw [Ev.toPhase_door]
    split
    · rw [Ev.needClose_door _ _ _ (idle.noRunFor h), idle.orderHeld, idle.uptime, Ev.toPhase_door]
    · exact Ev.modDoor_same e d _
  split
  · rw [Ev.toPhase_door]
  · rfl

theorem Door.heldBy_chain (held : Bool) (x : Door) : Door.Chain held x x.heldBy := by
  have rests : x.phase.rests = true → Door.Chain held x { x with phase := .heldLocal, timer := .none } := fun hp =>
    .single (.quiet held x _ _ .heldLocal rfl fun hf => Door.flowWf_rests hf hp)
  have drop : ∀ c, c ≠ Cmd.openDoor → x.phase = .warning ∨ x.phase = .driving →
      Door.Chain held x { x with slot := c, move := .none, phase := .heldLocal, timer := .none } := fun c hc hp =>
    (Relation.ReflTransGen.single (Door.Op.slot x c fun _ => hc)).tail
      (.quiet held _ x.entry .none .heldLocal rfl fun hf => ⟨(Door.flowWf_moves (r := x) hf hp).1, rfl⟩)
  unfold Door.heldBy
  split
  · exact .refl
  · exact .refl
  · next hp => exact .single (.quiet held x none x.move .heldLocal rfl fun hf => ⟨rfl, Door.flowWf_queued hf hp⟩)
  · next hp => exact drop _ (by decide) (.inl hp)
  · next hp => exact drop _ (by decide) (.inr hp)
  all_goals
    next hp => exact rests (by rw [hp]; rfl)

theorem Door.handled_chain (held : Bool) (now : Time) (dwell : Nat) (r : Report) (x : Door) :
    Door.Chain held x (x.handled held now dwell r) := by
  have idle : x.phase.rests = true → Door.Chain held x { x with phase := .idle, timer := .none } := fun hp =>
    .single (.quiet held x _ _ .idle rfl fun hf => Door.flowWf_rests hf hp)
  unfold Door.handled
  split
  · exact x.heldBy_chain held
  split
  · next h =>
    have hp : x.phase.rests = true := by rw [h.1]; rfl
    split
    · exact idle hp
    split
    · exact (idle hp).trans (Door.closeChecked_chain held now .reclose _ (by decide))
    · exact .single (.rest x _ _ .dwell _ rfl rfl nofun fun hf => Door.flowWf_rests hf hp)
  split
  · next h => exact idle (by rw [h.1]; rfl)
  · exact .refl

/-! ### Stage 7: conditions -/

/-- The conditions that a report leaves (stage 7; R13, R14, R19). -/
def Door.judgedConds (held : Bool) (floor : Nat) (r : Report) (x : Door) : Conds :=
  let c1 := if x.state = .disagree then x.conds.setLevel .disagree true else x.conds.remove .disagree
  let c2 := match r.pressure with
    | some p => if p < floor then c1.setLevel .lowPressure true else c1.remove .lowPressure
    | none => c1
  let c3 :=
    if x.state = .closed then c2.remove .localOpen
    else if held = true ∧ (x.phase = .heldLocal ∨ x.phase = .dwell ∨ x.phase = .failed) then
      c2.setLevel .localOpen true
    else c2
  if x.state = .closed then c3.withoutEnds .closing
  else if x.state = .opened then c3.withoutEnds .opening
  else c3

theorem Ev.Touches.ite {d : Slot} {e a b : Ev} {c : Prop} [Decidable c] (h : Ev.Touches d e a) (k : Ev.Touches d e b) :
    Ev.Touches d e (if c then a else b) := by
  split
  · exact h
  · exact k

theorem Ev.judge_touches (e : Ev) (d : Slot) (v : DoorRec) (r : Report) : Ev.Touches d e (e.judge d v r) := by
  have judge1 := Ev.Touches.ite (c := e.doors[d].state = .disagree) (e.enterLevel_touches d .disagree)
    (e.dropCond_touches d .disagree)
  have pressure : ∀ (e' : Ev) (c : Prop) [Decidable c], Ev.Touches d e e' →
      Ev.Touches d e (if c then e'.enterLevel d .lowPressure else e'.dropCond d .lowPressure) := fun e' c _ t =>
    .ite (t.trans (e'.enterLevel_touches d _)) (t.trans (e'.dropCond_touches d _))
  have rest : ∀ (e' : Ev) (c1 c2 : Prop) [Decidable c1] [Decidable c2], Ev.Touches d e e' →
      Ev.Touches d e (if c1 then e'.dropCond d .localOpen else if c2 then e'.enterLevel d .localOpen else e') :=
    fun e' c1 c2 _ _ t => .ite (t.trans (e'.dropCond_touches d _)) (.ite (t.trans (e'.enterLevel_touches d _)) t)
  have ends : ∀ (e' : Ev) (c1 c2 : Prop) [Decidable c1] [Decidable c2], Ev.Touches d e e' →
      Ev.Touches d e (if c1 then e'.dropEnds d .closing else if c2 then e'.dropEnds d .opening else e') :=
    fun e' c1 c2 _ _ t => .ite (t.trans (e'.dropEnds_touches d _)) (.ite (t.trans (e'.dropEnds_touches d _)) t)
  unfold Ev.judge
  dsimp only
  cases r.pressure with
  | none => exact ends _ _ _ (rest _ _ _ judge1)
  | some p => exact ends _ _ _ (rest _ _ _ (pressure _ _ judge1))

theorem Ev.judge_door (e : Ev) (d : Slot) (v : DoorRec) (r : Report) :
    (e.judge d v r).doors[d] =
      { e.doors[d] with conds := e.doors[d].judgedConds (e.orderHeld d) (e.groupRec v.group).pFloor r } := by
  have ite_door : ∀ (c : Prop) [Decidable c] (a b : Ev), (if c then a else b : Ev).doors[d] =
      if c then a.doors[d] else b.doors[d] := fun c _ a b => by split <;> rfl
  have ite_conds : ∀ (c : Prop) [Decidable c] (x : Door) (a b : Conds),
      (if c then { x with conds := a } else { x with conds := b } : Door) = { x with conds := if c then a else b } :=
    fun c _ x a b => by split <;> rfl
  unfold Ev.judge Door.judgedConds
  dsimp only
  cases r.pressure with
  | none =>
    simp only [ite_door, Ev.dropEnds_door, Ev.enterLevel_door, Ev.dropCond_door, ite_conds, Bool.and_eq_true,
      Bool.or_eq_true, beq_iff_eq, or_assoc]
  | some p =>
    simp only [ite_door, Ev.dropEnds_door, Ev.enterLevel_door, Ev.dropCond_door, ite_conds, Bool.and_eq_true,
      Bool.or_eq_true, beq_iff_eq, or_assoc]

/-! ### The whole report -/

/-- The report is a drift report of the record against the one before it (R17). -/
def Door.drifts (held : Bool) (before : Option Report) (r : Report) (x : Door) : Bool :=
  held && x.phase == .idle && r.handle == .idle && x.state != .closed
    && (match before with
        | some p =>
          p.doorState == .closed || (p.doorState == .movingClose && p.closedLimit) || p.handle != .idle
        | none => false)

theorem Door.drifts_iff (held : Bool) (before : Option Report) (r : Report) (x : Door) :
    x.drifts held before r = true ↔
      held = true ∧ x.phase = .idle ∧ r.handle = .idle ∧ x.state ≠ .closed
        ∧ ∃ p, before = some p ∧ (p.atClosed ∨ p.handle ≠ .idle) := by
  unfold Door.drifts Report.atClosed
  cases before with
  | none => simp
  | some p =>
    simp only [Bool.and_eq_true, Bool.or_eq_true, beq_iff_eq, bne_iff_ne, Option.some.injEq, and_assoc,
      exists_eq_left', or_assoc, ne_eq]

theorem Ev.drifts_eq (e : Ev) (d : Slot) (before : Option Report) (r : Report) :
    e.drifts d before r = e.doors[d].drifts (e.orderHeld d) before r := by
  cases before <;> rfl

/-- The record before the last need-close check: stages 1 to 7 of R11. -/
def Door.judged (held : Bool) (now : Time) (v : DoorRec) (g : GroupRec) (r : Report) (x : Door) : Door :=
  let y := (((x.reported r).echoed now r).motioned held now g.lagTolerance r).handled held now v.recloseDwell r
  { y with conds := y.judgedConds held g.pFloor r }

/-- The record after a valid reply (R11). -/
def Door.replied (held : Bool) (now : Time) (v : DoorRec) (g : GroupRec) (r : Report) (x : Door) : Door :=
  if x.link ≠ .online ∨ (x.judged held now v g r).drifts held x.report r = true then
    (x.judged held now v g r).closeChecked held now .order
  else x.judged held now v g r

/-- The state before the last need-close check. -/
def Ev.takeStages (e : Ev) (d : Slot) (v : DoorRec) (r : Report) : Ev :=
  let e1 := e.modDoor d fun x => { x with report := some r, miss := 0, link := .online }
  let e2 := if e.doors[d].link == .online then e1 else e1.dropCond d .linkLost
  (((e2.takeEcho d r).takeMotion d v r).takeHandle d v r).judge d v r

theorem Ev.takeReport_eq (e : Ev) (d : Slot) (v : DoorRec) (r : Report) :
    e.takeReport d v r =
      if !(e.doors[d].link == .online) || (e.takeStages d v r).drifts d e.doors[d].report r then
        (e.takeStages d v r).needClose d .order
      else e.takeStages d v r := rfl

theorem Ev.takeStages_spec (e : Ev) (d : Slot) (v : DoorRec) (r : Report) (h : e.NoRunFor d) :
    Ev.Touches d e (e.takeStages d v r)
      ∧ (e.takeStages d v r).doors[d] = e.doors[d].judged (e.orderHeld d) e.uptime v (e.groupRec v.group) r := by
  unfold Ev.takeStages
  dsimp only
  generalize h2 : (if e.doors[d].link == .online then _ else _ : Ev) = e2
  have t2 : Ev.Touches d e e2 := by
    subst h2
    split
    · exact e.modDoor_touches d _
    · exact (e.modDoor_touches d _).trans (Ev.dropCond_touches _ d _)
  have d2 : e2.doors[d] = e.doors[d].reported r := by
    subst h2
    unfold Door.reported
    split
    · next hl => rw [Ev.modDoor_same, if_pos (by simpa using hl)]
    · next hl => rw [Ev.dropCond_door, Ev.modDoor_same, if_neg (by simpa using hl)]
  have t3 := t2.trans (e2.takeEcho_touches d r)
  have t4 := t3.trans (Ev.takeMotion_touches _ d v r (t3.noRunFor h))
  have t5 := t4.trans (Ev.takeHandle_touches _ d v r (t4.noRunFor h))
  refine ⟨t5.trans (Ev.judge_touches _ d v r), ?_⟩
  rw [Ev.judge_door, Ev.takeHandle_door _ _ _ _ (t4.noRunFor h), Ev.takeMotion_door _ _ _ _ (t3.noRunFor h),
    Ev.takeEcho_door, d2, t5.orderHeld, t4.orderHeld, t3.orderHeld, t4.uptime, t3.uptime, t2.uptime,
    t5.sources.groupRec, t3.sources.groupRec]
  rfl

/-- A valid reply touches its door only, and leaves it the record of R11. -/
theorem Ev.takeReport_spec (e : Ev) (d : Slot) (v : DoorRec) (r : Report) (h : e.NoRunFor d) :
    Ev.Touches d e (e.takeReport d v r)
      ∧ (e.takeReport d v r).doors[d] = e.doors[d].replied (e.orderHeld d) e.uptime v (e.groupRec v.group) r := by
  obtain ⟨ht, hd⟩ := e.takeStages_spec d v r h
  have hn := ht.noRunFor h
  have hc : (!(e.doors[d].link == .online) || (e.takeStages d v r).drifts d e.doors[d].report r) = true ↔
      e.doors[d].link ≠ .online ∨ (e.doors[d].judged (e.orderHeld d) e.uptime v (e.groupRec v.group) r).drifts
        (e.orderHeld d) e.doors[d].report r = true := by
    rw [Bool.or_eq_true, Ev.drifts_eq, hd, ht.orderHeld, Bool.not_eq_true', beq_eq_false_iff_ne]
  rw [Ev.takeReport_eq]
  unfold Door.replied
  simp only [hc]
  split
  · refine ⟨ht.trans (Ev.needClose_touches _ d _ hn), ?_⟩
    rw [Ev.needClose_door _ _ _ hn, hd, ht.orderHeld, ht.uptime]
  · exact ⟨ht, hd⟩

/-- A valid reply moves a bound door by changes of its record. -/
theorem Door.replied_chain (held : Bool) (now : Time) (v : DoorRec) (g : GroupRec) (r : Report) (x : Door)
    (hb : x.binding ≠ none) : Door.Chain held x (x.replied held now v g r) := by
  have h1 : Door.Chain held x (x.reported r) :=
    (Relation.ReflTransGen.single (Door.Op.report x r hb)).tail (.conds _ _)
  have h7 : Door.Chain held x (x.judged held now v g r) :=
    ((h1.trans (Door.echoed_chain held now r _)).trans (Door.motioned_chain held now _ r _)).trans
      (Door.handled_chain held now _ r _) |>.tail (.conds _ _)
  unfold Door.replied
  split
  · exact h7.trans (Door.closeChecked_chain held now .order _ (by decide))
  · exact h7

end Sys2Proof.Machine
end

section
/-! SUPPORT. Every command keeps the invariants of door records, and so does a tick. -/

namespace Sys2Proof.Machine

open Sys2Proof

/-- `State.Keeps` within an event. -/
abbrev Ev.Keeps (e e' : Ev) : Prop := State.Keeps e.toState e'.toState

/-! ### Expiries -/

/-- A slot whose phase is not IDLE is active. -/
theorem State.active_of_phase {s : State} {d : Slot} (h : s.doors[d].phase ≠ .idle) : s.Active d := by
  refine .inr fun k => h ?_
  rw [k]
  rfl

/-- A slot with an admission or a motion is active. -/
theorem State.active_of_move {s : State} {d : Slot} (h : s.doors[d].move ≠ .none) : s.Active d := by
  refine .inr fun k => h ?_
  rw [k]
  rfl

theorem Ev.dwellExpired_moves (e : Ev) (d : Slot) (hp : e.doors[d].phase = .dwell) : e.Moves (e.dwellExpired d) := by
  have h := e.toPhase_moves d .idle (State.active_of_phase (by rw [hp]; decide)) rfl (by rw [hp]; rfl)
  unfold Ev.dwellExpired
  dsimp only
  split
  · exact h.trans (Ev.request_moves _ d _ _ _ (by decide))
  · exact h

/-- A retry that is queued again: the retry count goes up from RETRY-WAIT, whatever run it aborts (R68, R148). -/
theorem Ev.retryRequest_moves (e : Ev) (d : Slot) (dir : Dir) (b : Basis) (hp : e.doors[d].phase = .retryWait) :
    e.Moves ((e.toPhase d .idle).request d dir .retry b) := by
  have hact := State.active_of_phase (s := e.toState) (d := d) (by rw [hp]; decide)
  have h0 := e.toPhase_moves d .idle hact rfl (by rw [hp]; rfl)
  have h1 := Ev.abortFor_rebinds (e.toPhase d .idle) d
  rcases Ev.request_cases (e.toPhase d .idle) d dir .retry b with ⟨hr, -⟩ | ⟨hl, hm, ht, hd⟩
  · rw [hr]
    exact h0.trans h1.moves
  · refine ⟨(h0.trans h1.moves).sources.trans ht.sources, fun x => ?_⟩
    by_cases hx : x = d
    · subst hx
      refine .inr ⟨hact, ?_⟩
      obtain ⟨c, hc⟩ := (h1.rebound x).of_online hl
      rw [Ev.toPhase_door] at hc
      rw [hc] at hl hm hd
      rw [hd]
      exact (Relation.ReflTransGen.single (Door.Op.conds e.doors[x] c)).tail
        (.enqueue _ ⟨dir, .retry, b, e.uptime⟩ _ hl hm (.inr ⟨hp, rfl⟩))
    · rw [ht.other hx]
      exact (h0.trans h1.moves).door x

theorem Ev.retryExpired_moves (e : Ev) (d : Slot) (dir : Dir) (b : Basis) (hp : e.doors[d].phase = .retryWait) :
    e.Moves (e.retryExpired d dir b) := by
  have idle := e.idleZero_moves d (State.active_of_phase (by rw [hp]; decide)) (by rw [hp]; rfl)
  unfold Ev.retryExpired
  dsimp only
  split
  · exact idle
  · split
    · exact e.retryRequest_moves d _ _ hp
    · exact e.retryRequest_moves d _ _ hp
    · exact e.retryRequest_moves d _ _ hp
    · exact idle

theorem Ev.leadExpired_moves (e : Ev) (d : Slot) (hp : e.doors[d].phase = .warning) : e.Moves (e.leadExpired d) := by
  refine ((e.place_touches d _).trans (Ev.toPhase_touches _ d _)).moves
    (State.active_of_phase (by rw [hp]; decide)) ?_
  rw [Ev.toPhase_door, Ev.place_door_of_ne _ _ _ (by decide)]
  exact (Relation.ReflTransGen.single (Door.Op.slot e.doors[d] .close fun _ => by decide)).tail (.lead _ hp)

theorem Ev.endTimeout_moves (e : Ev) (d : Slot) (dir : Dir) (hm : e.doors[d].move ≠ .none) :
    e.Moves (e.endTimeout d dir) :=
  (e.endTimeout_touches d dir).moves (State.active_of_move hm)
    ((e.dropMove_chain _ d .idle rfl fun hf => Door.flowWf_move hf hm).trans (Ev.enterEnd_chain _ _ d _ _))

theorem Ev.issueExpired_moves (e : Ev) (d : Slot) (a : Admission) (hm : e.doors[d].move = .admitted a) :
    e.Moves (e.issueExpired d a) := by
  have hc : (if e.doors[d].phase = .warning then Cmd.warnOff else .halt) ≠ .openDoor := by split <;> decide
  have hp := (e.place_touches d _).moves (State.active_of_move (by simp [-Fin.getElem_fin, hm])) (e.place_chain _ d _ hc)
  refine hp.trans (Ev.endTimeout_moves _ d _ ?_)
  rw [Ev.place_door_of_ne _ _ _ hc]
  simp [-Fin.getElem_fin, hm]

theorem Ev.holdsExpired_moves (e : Ev) (d : Slot) (h : e.doors[d].holds ≠ []) : e.Moves (e.holdsExpired d) := by
  refine (e.modDoor_touches d _).moves (.inr fun k => h (by rw [k]; rfl)) ?_
  rw [Ev.modDoor_same]
  exact .single (.holds _ _)

theorem Door.phase_of_dwellDue {r : Door} {now : Time} (h : r.dwellDue now = true) : r.phase = .dwell := by
  unfold Door.dwellDue at h
  split at h
  · assumption
  · cases h

theorem Door.phase_of_retryDue {r : Door} {now : Time} {p : Dir × Basis} (h : r.retryDue now = some p) :
    r.phase = .retryWait := by
  unfold Door.retryDue at h
  split at h
  · assumption
  · cases h

theorem State.phase_of_leadDue {s : State} {d : Slot} (h : s.leadDue d = true) : s.doors[d].phase = .warning := by
  unfold State.leadDue Door.leadDue at h
  split at h
  · split at h
    · assumption
    · cases h
  · cases h

theorem Door.move_of_issueDue {r : Door} {now : Time} {a : Admission} (h : r.issueDue now = some a) :
    r.move = .admitted a := by
  unfold Door.issueDue at h
  split at h
  · next hm =>
    split at h
    · cases h
      exact hm
    · cases h
  · cases h

theorem Door.move_of_deadlineDue {r : Door} {now : Time} {m : Motion} (h : r.deadlineDue now = some m) :
    r.move = .started m := by
  unfold Door.deadlineDue at h
  split at h
  · next hm =>
    split at h
    · cases h
      exact hm
    · cases h
  · cases h

/-! ### Panel commands -/

theorem Ev.doorClose_moves (e : Ev) (d : Slot) (hf : e.fitted d = true) : e.Moves (e.doorClose d).1 := by
  have remote : ∀ e : Ev, e.Moves (e.requestRemote d .closing) := fun e => e.request_moves d _ _ _ (by decide)
  unfold Ev.doorClose
  dsimp only
  split
  · exact .refl _
  split
  · exact .refl _
  split
  · exact .refl _
  split
  · exact .refl _
  split
  · next hp => exact (e.endHalted_moves d (.inl hf) fun k => (Door.flowWf_moves k (.inr hp)).1).trans (remote _)
  · next hp => exact (e.idleZero_moves d (.inl hf) (by rw [hp]; rfl)).trans (remote _)
  · exact remote e

theorem Ev.doorOpen_moves (e : Ev) (d : Slot) : e.Moves (e.doorOpen d).1 := by
  unfold Ev.doorOpen
  dsimp only
  repeat' split
  case isFalse.isFalse.isFalse.isFalse.isFalse.isFalse => exact e.request_moves d _ _ _ (by decide)
  all_goals exact .refl _

theorem Ev.doorStop_moves (e : Ev) (d : Slot) (hf : e.fitted d = true) : e.Moves (e.doorStop d).1 := by
  unfold Ev.doorStop
  split
  · exact .refl _
  split
  · next hp => exact e.dropEntry_moves d _ (.inl hf) rfl hp
  · next hp => exact e.callOff_moves d _ (.inl hf) rfl fun k => (Door.flowWf_moves k (.inl hp)).1
  · next hp => exact e.endHalted_moves d (.inl hf) fun k => (Door.flowWf_moves k (.inr hp)).1
  · next hp => exact e.idleZero_moves d (.inl hf) (by rw [hp]; rfl)
  · exact .refl _

theorem Ev.rearm_moves (e : Ev) (d : Slot) : e.Moves (e.rearm d) := by
  unfold Ev.rearm
  split
  · next hp =>
    have hz := (e.zeroRetry_touches d).moves (State.active_of_phase (by rw [hp]; decide)) (e.zeroRetry_chain _ d)
    have hp' : (e.zeroRetry d).doors[d].phase = .failed := by rw [Ev.zeroRetry_door]; exact hp
    have rest : ∀ p : Phase, p.quiet = true → e.Moves ((e.zeroRetry d).toPhase d p) := fun p hq =>
      hz.trans (Ev.toPhase_moves _ d p (State.active_of_phase (by rw [hp']; decide)) hq (by rw [hp']; rfl))
    split
    · exact rest .heldLocal rfl
    · exact (rest .idle rfl).trans (Ev.needClose_moves _ d _ (by decide))
  · exact .refl _

theorem Ev.ackOne_moves (e : Ev) (j : Subject) (k : AlarmKind) (src : Station) : e.Moves (e.ackOne j k src) := by
  unfold Ev.ackOne
  dsimp only
  split
  · exact (e.push_moves _).trans (Ev.rearm_moves _ _)
  · exact e.push_moves _

theorem Ev.ackAll_moves (e : Ev) (p : PanelRec) (src : Station) : e.Moves (e.ackAll p src) := by
  unfold Ev.ackAll
  dsimp only
  have h : e.Moves { e with reqs := e.reqs ++ e.alarms.ackAllReqs p src } := .of_same ⟨rfl, rfl, fun _ => rfl⟩ rfl
  exact h.trans (Ev.Moves.foldl _ _ (fun e d _ => e.rearm_moves d) _)

/-- Doors and banks. -/
def State.doorsAndBanks (s : State) : Vector Door 64 × Banks := (s.doors, s.banks)

theorem Ev.setMode_doorsAndBanks (e : Ev) (z : ZoneId) (c : Bool) (st : Station) :
    (e.setMode z c st).doorsAndBanks = e.doorsAndBanks := by
  unfold Ev.setMode
  split <;> rfl

theorem Ev.setModes_doorsAndBanks (e : Ev) (zs : List ZoneId) (c : Bool) (st : Station) :
    (e.setModes zs c st).doorsAndBanks = e.doorsAndBanks :=
  foldl_keeps (fun e : Ev => e.doorsAndBanks) _ (fun e z => e.setMode_doorsAndBanks z c st) _ _

theorem Ev.setSense_doorsAndBanks (e : Ev) (b : BranchId) (v : Sense) :
    (e.setSense b v).doorsAndBanks = e.doorsAndBanks := by
  unfold Ev.setSense
  dsimp only
  repeat' split
  all_goals rfl

theorem Ev.sample_doorsAndBanks (e : Ev) (b : BranchId) : (e.sample b).doorsAndBanks = e.doorsAndBanks := by
  unfold Ev.sample
  split
  · rfl
  · exact e.setSense_doorsAndBanks b _

theorem Ev.latchSet_doorsAndBanks (e : Ev) (b : BranchId) : (e.latchSet b).doorsAndBanks = e.doorsAndBanks :=
  Ev.setSense_doorsAndBanks _ b _

theorem Ev.latchRelease_doorsAndBanks (e : Ev) (b : BranchId) : (e.latchRelease b).doorsAndBanks = e.doorsAndBanks := by
  unfold Ev.latchRelease
  split
  · exact Ev.sample_doorsAndBanks _ b
  · rfl

/-- Zone modes and line senses change, and the orders follow. -/
theorem Ev.sourcesChanged_keeps' {before : State} {e : Ev} (h : e.doorsAndBanks = before.doorsAndBanks) :
    before.Keeps (Ev.sourcesChanged before e).toState := by
  obtain ⟨hd, hb⟩ := Prod.mk.inj h
  exact Ev.sourcesChanged_keeps hd (by rw [State.activeSet_eq, State.activeSet_eq, hb])

/-- A panel command whose operand is in order keeps the invariants of door records. -/
def PanelCmd.Sound (c : PanelCmd) : Prop :=
  ∀ (src : Station) (p : PanelRec) (e : Ev), c.operand e.toState p = none → e.Keeps (c.act src p e).1

theorem cmdCloseZone_sound (zone : Byte) : (cmdCloseZone zone).Sound := by
  intro src p e _
  dsimp only [cmdCloseZone]
  split
  · unfold Ev.closeZone
    split
    · exact .refl _
    · exact Ev.sourcesChanged_keeps' (e.setMode_doorsAndBanks _ _ _)
  · exact .refl _

theorem cmdReleaseZone_sound (zone : Byte) : (cmdReleaseZone zone).Sound := by
  intro src p e _
  dsimp only [cmdReleaseZone]
  split
  · exact Ev.sourcesChanged_keeps' (e.setMode_doorsAndBanks _ _ _)
  · exact .refl _

/-- The latches of all branches change where the panel holds the right. -/
theorem Ev.latches_doorsAndBanks (f : Ev → BranchId → Ev) (h : ∀ (e : Ev) b, (f e b).doorsAndBanks = e.doorsAndBanks)
    (c : Bool) (e : Ev) : (if c then branchIds.foldl f e else e : Ev).doorsAndBanks = e.doorsAndBanks := by
  split
  · exact foldl_keeps (fun e : Ev => e.doorsAndBanks) _ h _ _
  · rfl

theorem cmdCloseAll_sound : cmdCloseAll.Sound := by
  intro src p e _
  exact Ev.sourcesChanged_keeps' ((Ev.latches_doorsAndBanks _ Ev.latchSet_doorsAndBanks _ _).trans
    (e.setModes_doorsAndBanks _ _ _))

theorem cmdReleaseAll_sound : cmdReleaseAll.Sound := by
  intro src p e _
  exact Ev.sourcesChanged_keeps' ((Ev.latches_doorsAndBanks _ Ev.latchRelease_doorsAndBanks _ _).trans
    (e.setModes_doorsAndBanks _ _ _))

/-- A door command acts on a fitted door (R30). -/
theorem cmdDoor_sound (slot : Byte) (f : Ev → Slot → Ev × Answer)
    (hf : ∀ (e : Ev) (d : Slot), e.fitted d = true → e.Moves (f e d).1) : (cmdDoor slot f).Sound := by
  intro src p e ho
  dsimp only [cmdDoor] at ho ⊢
  unfold doorOperand at ho
  split
  · next d hd =>
    rw [hd] at ho
    dsimp only at ho
    unfold doorScope at ho
    split at ho
    · cases ho
    · next hfit => exact (hf e d (by simpa using hfit)).keeps
  · exact .refl _

theorem cmdAck_sound (subject kind : Byte) : (cmdAck subject kind).Sound := by
  intro src p e _
  dsimp only [cmdAck]
  split
  · exact (e.ackOne_moves _ _ _).keeps
  · exact .refl _

theorem cmdAckAll_sound : cmdAckAll.Sound := fun src p e _ => (e.ackAll_moves p src).keeps

/-- Every command of Table 9-4. -/
theorem panelCmd_sound {code operand kind : Byte} {c : PanelCmd} (h : panelCmd code operand kind = some c) : c.Sound := by
  unfold panelCmd at h
  split at h <;> cases h
  · exact cmdCloseZone_sound _
  · exact cmdCloseAll_sound
  · exact cmdReleaseZone_sound _
  · exact cmdReleaseAll_sound
  · exact cmdDoor_sound _ _ fun e d hf => e.doorClose_moves d hf
  · exact cmdDoor_sound _ _ fun e d _ => e.doorOpen_moves d
  · exact cmdDoor_sound _ _ fun e d hf => e.doorStop_moves d hf
  · exact cmdAck_sound _ _
  · exact cmdAckAll_sound

theorem Ev.answer_moves (e : Ev) (src : Station) (tag code : Byte) (a : Answer) : e.Moves (e.answer src tag code a) :=
  .of_same ⟨rfl, rfl, fun _ => rfl⟩ rfl

theorem Ev.orderUnit_keeps (e : Ev) (src : Station) (tag code : Byte) (c : Option PanelCmd)
    (hc : ∀ x, c = some x → x.Sound) : e.Keeps (e.orderUnit src tag code c) := by
  unfold Ev.orderUnit
  split
  · exact (e.answer_moves _ _ _ _).keeps
  · next p x hx =>
    have hop : c = some x ∧ x.operand e.toState p = none := by
      unfold State.checkCommand at hx
      split at hx
      · cases hx
      · split at hx
        · cases hx
        · cases hx
        · split at hx
          · cases hx
          · split at hx
            · cases hx
            · next ho =>
              cases hx
              exact ⟨rfl, ho⟩
    exact (hc x hop.1 src p e hop.2).trans (Ev.answer_moves _ _ _ _ _).keeps

theorem State.rxDiscard_keeps (s : State) : s.Keeps s.rxDiscard :=
  (State.Moves.of_same (s := s) (t := s.rxDiscard) ⟨rfl, rfl, fun _ => rfl⟩ rfl).keeps

theorem State.commandFrame_keeps (s : State) (route : Route) (payload : List Byte) (tag code : Byte)
    (c : PanelCmd) (hc : c.Sound) : s.Keeps (s.commandFrame route payload tag code (some c)) := by
  unfold State.commandFrame
  split
  · exact (s.begin.orderUnit_keeps _ _ _ _ (by rintro x h; cases h; exact hc)).trans (Ev.settle_keeps _)
  · exact s.rxDiscard_keeps
  · exact .refl s

end Sys2Proof.Machine
end

section
/-! SUPPORT. Management requests, heel, transmission, polls, resets and the tick keep the invariants of door records;
so every step does. -/

namespace Sys2Proof.Machine

open Sys2Proof

/-! ### Management requests -/

/-- Where neither doors nor order sources change. -/
theorem State.keeps_of_same {s t : State} (hd : t.doors = s.doors) (ha : t.activeSet = s.activeSet)
    (hz : t.zones = s.zones) (hb : t.branches = s.branches) : s.Keeps t :=
  (State.Moves.of_same ⟨ha, hz, fun b => by rw [hb]⟩ hd).keeps

/-- A request whose service keeps the invariants of door records. -/
def Serves (f : Ev → Ev × Reply) : Prop := ∀ e : Ev, e.Keeps (f e).1

theorem identify_serves (part : Byte) : Serves fun e => e.identify part := by
  intro e
  dsimp only [Ev.identify]
  split <;> exact .refl _

theorem readStatus_serves (page : Byte) : Serves fun e => e.readStatus page := by
  intro e
  dsimp only [Ev.readStatus]
  split
  · exact .refl _
  · dsimp only
    split
    · exact State.keeps_of_same rfl rfl rfl rfl
    split
    · exact State.keeps_of_same rfl rfl rfl rfl
    · exact .refl _

theorem readDoor_serves (slot part : Byte) : Serves fun e => e.readDoor slot part := by
  intro e
  dsimp only [Ev.readDoor]
  split
  · exact .refl _
  · split <;> exact .refl _

theorem readRecord_serves (bank table index part : Byte) : Serves fun e => e.readRecord bank table index part := by
  intro e
  dsimp only [Ev.readRecord]
  split
  · exact .refl _
  · split
    · exact .refl _
    · split <;> exact .refl _

theorem readAlarms_serves (chunk : Byte) : Serves fun e => e.readAlarms chunk := by
  intro e
  dsimp only [Ev.readAlarms]
  split
  · exact State.keeps_of_same rfl rfl rfl rfl
  · split
    · exact .refl _
    · split
      · exact .refl _
      · split
        · exact .refl _
        · exact State.keeps_of_same rfl rfl rfl rfl

/-- A change of a bank that is not ACTIVE. -/
theorem Ev.putBank_keeps (e : Ev) (id : BankId) (v : Bank) (h : (e.banks.get id).state ≠ .active)
    (hv : v.state ≠ .active) : State.Keeps e.toState { e.toState with banks := e.banks.put id v } :=
  State.keeps_of_same rfl (Banks.put_activeSet _ id v h hv) rfl rfl

/-- The load target takes no part in the active set (R162). -/
theorem Banks.loadTarget_activeSet (bs : Banks) :
    (bs.put bs.loadTarget ⟨.loading, [], 0⟩).activeSet = bs.activeSet := by
  by_cases ha : bs.a.state = .active <;>
    simp [Banks.loadTarget, Banks.activeSet, Banks.find, Banks.put, Banks.get, ha]

theorem loadBegin_serves : Serves fun e => e.loadBegin := by
  intro e
  dsimp only [Ev.loadBegin]
  split
  · exact .refl _
  · split
    · exact .refl _
    · exact State.keeps_of_same rfl (Banks.loadTarget_activeSet _) rfl rfl

theorem loadChunk_serves (table index : Byte) (bytes : List Byte) : Serves fun e => e.loadChunk table index bytes := by
  intro e
  dsimp only [Ev.loadChunk]
  split
  · exact .refl _
  · next id h =>
    have hs := Banks.state_of_find h
    split
    · exact .refl _
    · exact e.putBank_keeps id _ (by rw [hs]; decide) (by simp [hs])

theorem loadEnd_serves (check : BitVec 16) : Serves fun e => e.loadEnd check := by
  intro e
  dsimp only [Ev.loadEnd]
  split
  · exact .refl _
  · next id h =>
    have hs : (e.banks.get id).state ≠ .active := by rw [Banks.state_of_find h]; decide
    split
    · exact e.putBank_keeps id _ hs (by simp)
    · exact e.putBank_keeps id _ hs (by simp [Bank.blank])

theorem activateBank_serves (from_ : BankState) (hf : from_ ≠ .active) : Serves fun e => e.activateBank from_ := by
  intro e
  dsimp only [Ev.activateBank]
  split
  · exact .refl _
  · next id h =>
    split
    · exact .refl _
    · split
      · exact e.swap_keeps id
      · exact e.putBank_keeps id _ (by rw [Banks.state_of_find h]; exact hf) (by simp)

theorem startStore_serves : Serves fun e => e.startStore := by
  intro e
  dsimp only [Ev.startStore]
  split
  · exact .refl _
  · split
    · exact .refl _
    · exact State.keeps_of_same rfl rfl rfl rfl

theorem enroll_serves (branch mode : Byte) : Serves fun e => e.enroll branch mode := by
  intro e
  dsimp only [Ev.enroll]
  split
  · exact .refl _
  · split
    · exact .refl _
    · split
      · exact .refl _
      · exact .refl _
      · split
        · exact .refl _
        · dsimp only
          split
          · exact (e.beginFresh_moves _).keeps
          · exact (e.beginAdd_moves _).keeps

theorem forgetForeign_serves (branch : Byte) : Serves fun e => e.forgetForeign branch := by
  intro e
  dsimp only [Ev.forgetForeign]
  split
  · exact .refl _
  · exact ((e.modBranch_moves _ _ rfl).trans (Ev.push_moves _ _)).keeps

theorem askRestart_serves : Serves fun e => e.askRestart := fun _ => .refl _

/-- Every request of Table 10-3. -/
theorem requestOf_serves (code : Byte) (ops : List Byte) : Serves (Ev.requestOf code ops) := by
  intro e
  unfold Ev.requestOf
  split
  · exact .refl _
  · unfold Ev.request_
    split
    · exact identify_serves _ e
    · exact readStatus_serves _ e
    · exact readDoor_serves _ _ e
    · exact readRecord_serves _ _ _ _ e
    · exact readAlarms_serves _ e
    · exact loadBegin_serves e
    · exact loadChunk_serves _ _ _ e
    · exact loadEnd_serves _ e
    · exact activateBank_serves _ (by decide) e
    · exact activateBank_serves _ (by decide) e
    · exact startStore_serves e
    · exact enroll_serves _ _ e
    · exact forgetForeign_serves _ e
    · exact askRestart_serves e
    · exact .refl _

theorem Ev.manager_keeps (e : Ev) (src : Station) (tag code : Byte) (f : Ev → Ev × Reply) (hf : Serves f) :
    e.Keeps (e.manager src tag code f) :=
  (hf e).trans (State.keeps_of_same rfl rfl rfl rfl)

theorem State.requestFrame_keeps (s : State) (route : Route) (payload : List Byte) (tag code : Byte)
    (f : Ev → Ev × Reply) (hf : Serves f) : s.Keeps (s.requestFrame route payload tag code f) := by
  unfold State.requestFrame
  split
  · exact (s.begin.manager_keeps _ _ _ f hf).trans (Ev.settle_keeps _)
  · exact s.rxDiscard_keeps
  · exact .refl s

/-! ### Heel, frames, transmission -/

theorem Ev.takeHeel_keeps (e : Ev) (src : HeelSrc) (v : BitVec 16) : e.Keeps (e.takeHeel src v) := by
  unfold Ev.takeHeel
  dsimp only
  split <;> exact State.keeps_of_same rfl rfl rfl rfl

theorem Ev.judgeHeel_keeps (e : Ev) : e.Keeps e.judgeHeel := by
  unfold Ev.judgeHeel
  split
  · exact (e.push_moves _).keeps
  · exact .refl _

/-- A change of the heel, judged. -/
theorem Ev.heelJudged_keeps (e : Ev) (h : Heel) : e.Keeps ({ e with heel := h } : Ev).judgeHeel := by
  have h1 : e.Keeps { e with heel := h } := State.keeps_of_same rfl rfl rfl rfl
  exact h1.trans (Ev.judgeHeel_keeps _)

theorem Ev.heelStale_keeps (e : Ev) (src : HeelSrc) : e.Keeps (e.heelStale src) := e.heelJudged_keeps _

theorem Ev.firstJudge_keeps (e : Ev) : e.Keeps e.firstJudge := e.heelJudged_keeps _

theorem State.takeFrame_keeps (s : State) (f : RxFrame) : s.Keeps (s.takeFrame f) := by
  unfold State.takeFrame
  split
  · exact .refl s
  · exact s.rxDiscard_keeps
  · unfold State.takeCommand
    split
    · exact .refl s
    · exact (s.begin.orderUnit_keeps _ _ _ _ fun _ h => panelCmd_sound h).trans (Ev.settle_keeps _)
  · unfold State.takeHeelFrame
    split
    · exact .refl s
    · exact (s.begin.takeHeel_keeps _ _).trans (Ev.settle_keeps _)
  · unfold State.takeRequest
    split
    · exact .refl s
    · exact (s.begin.manager_keeps _ _ _ _ (requestOf_serves _ _)).trans (Ev.settle_keeps _)

theorem State.hear_keeps (s : State) (bytes : List Byte) : s.Keeps (s.hear bytes) := by
  unfold State.hear
  split
  · exact s.takeFrame_keeps _
  · exact .refl s

theorem Ev.transmitError_keeps (e : Ev) : e.Keeps e.transmitError := by
  unfold Ev.transmitError
  dsimp only
  split <;> exact State.keeps_of_same rfl rfl rfl rfl

theorem Ev.transmitDone_keeps (e : Ev) (c : TxClass) : e.Keeps (e.transmitDone c) := by
  unfold Ev.transmitDone
  dsimp only
  split <;> exact State.keeps_of_same rfl rfl rfl rfl

/-! ### Resets -/

/-- Where no door record is left. -/
theorem State.keeps_of_blank {s t : State} (h : ∀ d : Slot, t.doors[d] = Door.blank) : s.Keeps t := by
  refine ⟨fun d => ?_, fun _ d _ => h d, fun _ d _ => ?_⟩
  · rw [h]
    exact .single (.blank _)
  · rw [h]
    decide

theorem State.losePower_keeps (s : State) : s.Keeps s.losePower :=
  State.keeps_of_blank fun d => by simp [State.losePower, State.off]

theorem Ev.raiseNoTable_moves (e : Ev) : e.Moves e.raiseNoTable := by
  unfold Ev.raiseNoTable
  split
  · exact e.push_moves _
  · exact .refl _

theorem Ev.freshRuns_moves (e : Ev) : e.Moves e.freshRuns := by
  refine Ev.Moves.foldl _ _ (fun e b _ => ?_) e
  split
  · exact e.beginFresh_moves b
  · exact .refl _

theorem Ev.powerOnLoad_doors (e : Ev) : e.powerOnLoad.doors = e.doors := by
  unfold Ev.powerOnLoad
  split <;> rfl

theorem State.powerOn_keeps (s : State) (pins : Pins) : s.Keeps (s.powerOn pins) := by
  unfold State.powerOn
  dsimp only
  generalize he : branchIds.foldl Ev.sample _ = e
  have hd : e.doors = Vector.replicate 64 Door.blank := by
    rw [← he, foldl_keeps (fun e : Ev => e.doors) _ fun e b => congrArg Prod.fst (e.sample_doorsAndBanks b),
      Ev.powerOnLoad_doors]
    rfl
  refine State.Keeps.trans (t := e.toState) (State.keeps_of_blank fun d => by simp [hd]) ?_
  exact ((e.raiseNoTable_moves.trans (Ev.freshRuns_moves _)).trans (Ev.settleReset_moves _)).keeps

theorem Ev.abandonRuns_moves (e : Ev) : e.Moves e.abandonRuns := by
  refine Ev.Moves.foldl _ _ (fun e b _ => ?_) e
  split
  · exact (e.closeRun_rebinds b none).moves
  · exact .refl _

/-- A restart keeps the active set (R161). -/
theorem Banks.restarted_activeSet (bs : Banks) :
    (⟨bs.a.restarted, bs.b.restarted⟩ : Banks).activeSet = bs.activeSet := by
  have hs : ∀ b : Bank, b.restarted.state = .active ↔ b.state = .active := by
    intro b
    unfold Bank.restarted
    split <;> simp_all [Bank.blank]
  have hv : ∀ b : Bank, b.state = .active → b.restarted = b := by
    intro b h
    unfold Bank.restarted
    split <;> simp_all
  by_cases ha : bs.a.state = .active <;> by_cases hb : bs.b.state = .active <;>
    simp [Banks.activeSet, Banks.find, Banks.get, hs, ha, hb, hv]

theorem State.restartState_keeps (s : State) (flag : EventFlag) (pins : Pins) :
    s.Keeps (s.restartState flag pins) := by
  have hd : ∀ d : Slot, (s.restartState flag pins).doors[d] = s.doors[d].restarted := fun d => by
    simp [State.restartState]
  refine ⟨fun d => ?_, fun hb d hf => ?_, fun _ d _ => ?_⟩
  · rw [hd]
    exact .single (.restart _)
  · have hf' : s.fitted d = false := by
      have ha : (s.restartState flag pins).activeSet = s.activeSet := Banks.restarted_activeSet s.banks
      simpa only [State.fitted, State.doorRec, State.activeRecord, ha] using hf
    rw [hd, hb d hf']
    rfl
  · rw [hd]
    simp [Door.restarted, Door.blank]

theorem Ev.raiseBranch_moves (e : Ev) (b : BranchId) : e.Moves (e.raiseBranch b) := by
  have h : e.Moves (if e.branches[b].sense = .external then e.push (.raise (.branch b) .lineExternal) else e) := by
    split
    · exact e.push_moves _
    · exact .refl _
  unfold Ev.raiseBranch
  dsimp only
  split
  · exact h
  · exact h.trans (Ev.push_moves _ _)

theorem Ev.raiseAnew_moves (e : Ev) : e.Moves e.raiseAnew := by
  have h : e.Moves e.raiseUnbound := by
    refine Ev.Moves.foldl_fitted _ Prod.fst _ e ?_ fun e p _ hp => ?_
    · rintro ⟨d, v⟩ h
      exact State.fitted_of_doorRec ((e.mem_fittedDoors d v).mp h)
    · split
      · exact e.enterLevel_moves p.1 _ (.inl hp)
      · exact .refl _
  exact (h.trans (Ev.Moves.foldl _ _ (fun e b _ => e.raiseBranch_moves b) _)).trans (Ev.raiseNoTable_moves _)

theorem State.restart_keeps (s : State) (flag : EventFlag) (pins : Pins) : s.Keeps (s.restart flag pins) := by
  have h1 : s.Keeps (s.begin.abandonRuns.restartState flag pins) :=
    s.begin.abandonRuns_moves.keeps.trans (State.restartState_keeps _ flag pins)
  unfold State.restart
  generalize State.restartState flag pins s.begin.abandonRuns.toState = u at h1 ⊢
  exact h1.trans (u.begin.raiseAnew_moves.trans (Ev.settleReset_moves _)).keeps

theorem State.transmitted_keeps (s : State) (c : TxClass) (pins : Pins) : s.Keeps (s.transmitted c pins) := by
  have hd := s.begin.transmitDone_keeps c
  unfold State.transmitted
  split
  · exact s.restart_keeps _ pins
  · split
    · have hp : s.Keeps (s.begin.transmitDone .part).partSent.toState := hd.trans (State.keeps_of_same rfl rfl rfl rfl)
      dsimp only
      split
      · exact hp.trans (Ev.settleJudging_keeps _)
      · exact hp.trans (Ev.settle_keeps _)
    · exact hd.trans (Ev.settle_keeps _)

/-! ### Polls -/

/-- The poll in flight is that of a POLLING branch, which has no run. -/
theorem Branch.poll?_some {r : Branch} {p : Poll} (h : r.poll? = some p) :
    r.isPolling = true ∧ r.inFlight = some p := by
  unfold Branch.poll? at h
  split at h
  · exact ⟨‹_›, h⟩
  · cases h

theorem Branch.run_of_isPolling {r : Branch} (h : r.isPolling = true) : r.run = none := by
  unfold Branch.isPolling at h
  unfold Branch.run
  split at h
  · next hs => simp [hs]
  · cases h

/-- A door of a POLLING branch has no run. -/
theorem State.noRunFor_of_polling {s : State} {d : Slot} {v : DoorRec} (hv : s.doorRec d = some v)
    (h : s.branches[v.branch].isPolling = true) : s.NoRunFor d := by
  intro v' hv'
  obtain rfl : v = v' := Option.some.inj (hv.symm.trans hv')
  exact Branch.run_of_isPolling h

theorem Ev.pollAnswered_moves (e : Ev) (b : BranchId) (p : Poll) (r : Report) (hb : e.branches[b].isPolling = true) :
    e.Moves (e.pollAnswered b p r) := by
  have h1 := e.modBranch_moves b (Branch.afterPoll p) rfl
  unfold Ev.pollAnswered
  dsimp only
  split
  · next d hd =>
    obtain ⟨v, hv, rfl, ha⟩ := State.doorAt_some hd
    rw [hv]
    have hn : (e.modBranch v.branch (Branch.afterPoll p)).NoRunFor d := by
      refine State.noRunFor_of_polling hv ?_
      rw [Ev.modBranch_same]
      exact hb
    obtain ⟨ht, hr⟩ := Ev.takeReport_spec _ d v r hn
    refine h1.trans (ht.moves (.inl (State.fitted_of_doorRec hv)) ?_)
    rw [hr]
    refine Door.replied_chain _ _ _ _ _ _ ?_
    rw [Ev.modBranch_doors, ha]
    simp
  · exact h1

theorem Ev.takeMiss_moves (e : Ev) (d : Slot) (hf : e.fitted d = true) : e.Moves (e.takeMiss d) := by
  have hc : Door.Chain (e.orderHeld d) e.doors[d] (e.modDoor d fun x => { x with miss := min 3 (x.miss + 1) }).doors[d] := by
    rw [Ev.modDoor_same]
    exact .single (.miss _ _ (Nat.min_le_left 3 _))
  unfold Ev.takeMiss
  generalize he : (e.modDoor d fun x => { x with miss := min 3 (x.miss + 1) }) = e1
  have h1 : e.Moves e1 := he ▸ (e.modDoor_touches d _).moves (.inl hf) hc
  have hf1 := (h1.sources.fitted d).trans hf
  dsimp only
  split
  · next hl =>
    have hu : e1.doors[d].link ≠ .unbound := by
      intro k
      simp [-Fin.getElem_fin, k] at hl
    have h2 : e1.Moves (e1.modDoor d (Door.leaveOnline e.uptime .lost)) := by
      refine (e1.modDoor_touches d _).moves (.inl hf1) ?_
      rw [Ev.modDoor_same]
      exact .single (.lose _ _ hu)
    exact (h1.trans h2).trans (Ev.enterLevel_moves _ d _ (.inl ((h2.sources.fitted d).trans hf1)))
  · exact h1

theorem Ev.pollMissed_moves (e : Ev) (b : BranchId) (p : Poll) : e.Moves (e.pollMissed b p) := by
  have h1 := e.modBranch_moves b (Branch.afterPoll p) rfl
  unfold Ev.pollMissed
  dsimp only
  split
  · next d hd =>
    obtain ⟨v, hv, -⟩ := State.doorAt_some hd
    exact h1.trans (Ev.takeMiss_moves _ d ((h1.sources.fitted d).trans (State.fitted_of_doorRec hv)))
  · exact h1

/-! ### Every command -/

/-- An outcome whose next state has the invariants of door records where this one has them. -/
def State.KeptBy (s : State) (o : Host.Outcome State Fault Refusal) : Prop := ∀ t, o = .next t → s.Keeps t

/-- A command of a powered part, or nothing (log entry 4). -/
theorem State.live_kept {s : State} {f : State → State} (hf : s.Keeps (f s)) : s.KeptBy (s.live f) := by
  intro t h
  unfold State.live at h
  injection h with h
  subst h
  split
  · exact hf
  · exact .refl s

/-- A move within an event, and the end of the event. -/
theorem State.Moves.settled {s : State} {e : Ev} (h : s.Moves e.toState) : s.Keeps e.settle :=
  h.keeps.trans e.settle_keeps

section Commands

variable (s : State)

theorem execPowerOnReset_kept (pins : Pins) :
    s.KeptBy (execPowerOnReset pins s) := by
  intro t h
  have h' : s.powerOn pins = t := Host.Outcome.next.inj h
  rw [← h']
  exact s.powerOn_keeps pins

theorem execRestartPin_kept (pins : Pins) :
    s.KeptBy (execRestartPin pins s) :=
  State.live_kept (s.restart_keeps _ pins)

theorem execPowerLoss_kept :
    s.KeptBy (execPowerLoss s) :=
  State.live_kept s.losePower_keeps

theorem execTrunkFrame_kept (bytes : List Byte) :
    s.KeptBy (execTrunkFrame bytes s) :=
  State.live_kept (s.hear_keeps bytes)

theorem execCloseZone_kept (route : Route) (zone tag : Byte) :
    s.KeptBy (execCloseZone route zone tag s) :=
  State.live_kept (s.commandFrame_keeps _ _ _ _ _ (cmdCloseZone_sound _))

theorem execCloseAll_kept (route : Route) (tag : Byte) :
    s.KeptBy (execCloseAll route tag s) :=
  State.live_kept (s.commandFrame_keeps _ _ _ _ _ cmdCloseAll_sound)

theorem execReleaseZone_kept (route : Route) (zone tag : Byte) :
    s.KeptBy (execReleaseZone route zone tag s) :=
  State.live_kept (s.commandFrame_keeps _ _ _ _ _ (cmdReleaseZone_sound _))

theorem execReleaseAll_kept (route : Route) (tag : Byte) :
    s.KeptBy (execReleaseAll route tag s) :=
  State.live_kept (s.commandFrame_keeps _ _ _ _ _ cmdReleaseAll_sound)

theorem execDoorClose_kept (route : Route) (slot tag : Byte) :
    s.KeptBy (execDoorClose route slot tag s) :=
  State.live_kept (s.commandFrame_keeps _ _ _ _ _ (cmdDoor_sound _ _ fun e d hf => e.doorClose_moves d hf))

theorem execDoorOpen_kept (route : Route) (slot tag : Byte) :
    s.KeptBy (execDoorOpen route slot tag s) :=
  State.live_kept (s.commandFrame_keeps _ _ _ _ _ (cmdDoor_sound _ _ fun e d _ => e.doorOpen_moves d))

theorem execDoorStop_kept (route : Route) (slot tag : Byte) :
    s.KeptBy (execDoorStop route slot tag s) :=
  State.live_kept (s.commandFrame_keeps _ _ _ _ _ (cmdDoor_sound _ _ fun e d hf => e.doorStop_moves d hf))

theorem execAck_kept (route : Route) (subject kind tag : Byte) :
    s.KeptBy (execAck route subject kind tag s) :=
  State.live_kept (s.commandFrame_keeps _ _ _ _ _ (cmdAck_sound _ _))

theorem execAckAll_kept (route : Route) (tag : Byte) :
    s.KeptBy (execAckAll route tag s) :=
  State.live_kept (s.commandFrame_keeps _ _ _ _ _ cmdAckAll_sound)

theorem execHeel_kept (route : Route) (value : BitVec 16) :
    s.KeptBy (execHeel route value s) := by
  refine State.live_kept ?_
  split
  · exact (s.begin.takeHeel_keeps _ _).trans (Ev.settle_keeps _)
  · exact .refl s

theorem execIdentify_kept (route : Route) (tag part : Byte) :
    s.KeptBy (execIdentify route tag part s) :=
  State.live_kept (s.requestFrame_keeps _ _ _ _ _ (identify_serves _))

theorem execReadStatus_kept (route : Route) (tag page : Byte) :
    s.KeptBy (execReadStatus route tag page s) :=
  State.live_kept (s.requestFrame_keeps _ _ _ _ _ (readStatus_serves _))

theorem execReadDoor_kept (route : Route) (tag slot part : Byte) :
    s.KeptBy (execReadDoor route tag slot part s) :=
  State.live_kept (s.requestFrame_keeps _ _ _ _ _ (readDoor_serves _ _))

theorem execReadRecord_kept (route : Route) (tag bank table index part : Byte) :
    s.KeptBy (execReadRecord route tag bank table index part s) :=
  State.live_kept (s.requestFrame_keeps _ _ _ _ _ (readRecord_serves _ _ _ _))

theorem execReadAlarms_kept (route : Route) (tag chunk : Byte) :
    s.KeptBy (execReadAlarms route tag chunk s) :=
  State.live_kept (s.requestFrame_keeps _ _ _ _ _ (readAlarms_serves _))

theorem execLoadBegin_kept (route : Route) (tag : Byte) :
    s.KeptBy (execLoadBegin route tag s) :=
  State.live_kept (s.requestFrame_keeps _ _ _ _ _ loadBegin_serves)

theorem execLoadChunk_kept (route : Route) (tag table index : Byte) (bytes : List Byte) :
    s.KeptBy (execLoadChunk route tag table index bytes s) :=
  State.live_kept (s.requestFrame_keeps _ _ _ _ _ (loadChunk_serves _ _ _))

theorem execLoadEnd_kept (route : Route) (tag : Byte) (check : BitVec 16) :
    s.KeptBy (execLoadEnd route tag check s) :=
  State.live_kept (s.requestFrame_keeps _ _ _ _ _ (loadEnd_serves _))

theorem execActivate_kept (route : Route) (tag : Byte) :
    s.KeptBy (execActivate route tag s) :=
  State.live_kept (s.requestFrame_keeps _ _ _ _ _ (activateBank_serves _ (by decide)))

theorem execRollback_kept (route : Route) (tag : Byte) :
    s.KeptBy (execRollback route tag s) :=
  State.live_kept (s.requestFrame_keeps _ _ _ _ _ (activateBank_serves _ (by decide)))

theorem execStore_kept (route : Route) (tag : Byte) :
    s.KeptBy (execStore route tag s) :=
  State.live_kept (s.requestFrame_keeps _ _ _ _ _ startStore_serves)

theorem execEnroll_kept (route : Route) (tag branch mode : Byte) :
    s.KeptBy (execEnroll route tag branch mode s) :=
  State.live_kept (s.requestFrame_keeps _ _ _ _ _ (enroll_serves _ _))

theorem execForgetForeign_kept (route : Route) (tag branch : Byte) :
    s.KeptBy (execForgetForeign route tag branch s) :=
  State.live_kept (s.requestFrame_keeps _ _ _ _ _ (forgetForeign_serves _))

theorem execRestartRequest_kept (route : Route) (tag : Byte) :
    s.KeptBy (execRestartRequest route tag s) :=
  State.live_kept (s.requestFrame_keeps _ _ _ _ _ askRestart_serves)

theorem execStoreEnd_kept (readBack : NvImage) :
    s.KeptBy (execStoreEnd readBack s) := by
  refine State.live_kept ?_
  split
  · split
    · exact State.keeps_of_same rfl rfl rfl rfl
    · exact .refl s
  · exact .refl s

theorem execTransmitStart_kept :
    s.KeptBy (execTransmitStart s) :=
  State.live_kept (State.keeps_of_same rfl rfl rfl rfl)

theorem execArbitrationLost_kept (winner : List Byte) :
    s.KeptBy (execArbitrationLost winner s) := by
  refine State.live_kept ?_
  split
  · exact State.Keeps.trans (t := s.stopSending) (State.keeps_of_same rfl rfl rfl rfl) (s.stopSending.hear_keeps winner)
  · exact .refl s

theorem execTransmitError_kept :
    s.KeptBy (execTransmitError s) := by
  refine State.live_kept ?_
  split
  · exact s.begin.transmitError_keeps.trans (Ev.settle_keeps _)
  · exact .refl s

theorem execTransmitSuccess_kept (pins : Pins) :
    s.KeptBy (execTransmitSuccess pins s) := by
  refine State.live_kept ?_
  split
  · exact s.transmitted_keeps _ pins
  · exact .refl s

theorem execStatusReply_kept (b : BranchId) (bytes : List Byte) :
    s.KeptBy (execStatusReply b bytes s) := by
  refine State.live_kept ?_
  split
  · next p hp =>
    split
    · exact (s.begin.pollAnswered_moves b p _ (Branch.poll?_some hp).1).settled
    · exact .refl s
  · exact .refl s

theorem execPollMiss_kept (b : BranchId) :
    s.KeptBy (execPollMiss b s) := by
  refine State.live_kept ?_
  split
  · exact (s.begin.pollMissed_moves b _).settled
  · exact .refl s

theorem execLineSample_kept (b : BranchId) (low : Bool) :
    s.KeptBy (execLineSample b low s) := by
  refine State.live_kept ?_
  have h1 : s.Keeps (s.setLine b low) := State.keeps_of_same rfl rfl rfl rfl
  exact (h1.trans (Ev.sourcesChanged_keeps' (Ev.sample_doorsAndBanks _ b))).trans (Ev.settle_keeps _)

theorem execDwellExpiry_kept (d : Slot) :
    s.KeptBy (execDwellExpiry d s) := by
  refine State.live_kept ?_
  split
  · next hd => exact (s.begin.dwellExpired_moves d (Door.phase_of_dwellDue hd)).settled
  · exact .refl s

theorem execRetryExpiry_kept (d : Slot) :
    s.KeptBy (execRetryExpiry d s) := by
  refine State.live_kept ?_
  split
  · next hd => exact (s.begin.retryExpired_moves d _ _ (Door.phase_of_retryDue hd)).settled
  · exact .refl s

theorem execWarningLeadExpiry_kept (d : Slot) :
    s.KeptBy (execWarningLeadExpiry d s) := by
  refine State.live_kept ?_
  split
  · next hd => exact (s.begin.leadExpired_moves d (State.phase_of_leadDue hd)).settled
  · exact .refl s

theorem execIssueDeadlineExpiry_kept (d : Slot) :
    s.KeptBy (execIssueDeadlineExpiry d s) := by
  refine State.live_kept ?_
  split
  · next hd => exact (s.begin.issueExpired_moves d _ (Door.move_of_issueDue hd)).settled
  · exact .refl s

theorem execDeadlineExpiry_kept (d : Slot) :
    s.KeptBy (execDeadlineExpiry d s) := by
  refine State.live_kept ?_
  split
  · next hd =>
    have hm := Door.move_of_deadlineDue hd
    exact (s.begin.endTimeout_moves d _ fun k => Move.noConfusion (hm.symm.trans k)).settled
  · exact .refl s

theorem execLinkLostHoldExpiry_kept (d : Slot) :
    s.KeptBy (execLinkLostHoldExpiry d s) := by
  refine State.live_kept ?_
  split
  · next hd =>
    refine (s.begin.holdsExpired_moves d fun k => ?_).settled
    have k' : s.doors[d].holds = [] := k
    simp [-Fin.getElem_fin, Door.holdDue, k'] at hd
  · exact .refl s

theorem execHeelSourceStale_kept (src : HeelSrc) :
    s.KeptBy (execHeelSourceStale src s) := by
  refine State.live_kept ?_
  split
  · exact (s.begin.heelStale_keeps _).trans (Ev.settle_keeps _)
  · exact .refl s

theorem execHeelStaleFirstJudge_kept :
    s.KeptBy (execHeelStaleFirstJudge s) := by
  refine State.live_kept ?_
  split
  · exact s.begin.firstJudge_keeps.trans (Ev.settle_keeps _)
  · exact .refl s

theorem execReannounceExpiry_kept :
    s.KeptBy (execReannounceExpiry s) := by
  refine State.live_kept ?_
  split
  · unfold State.reannounced State.reannounce
    repeat' split
    all_goals exact State.keeps_of_same rfl rfl rfl rfl
  · exact .refl s

theorem execSpacingPoint_kept :
    s.KeptBy (execSpacingPoint s) := by
  refine State.live_kept ?_
  split
  · exact s.judgeFreeze_works.moves.keeps
  · exact .refl s

theorem execRefreshPoint_kept :
    s.KeptBy (execRefreshPoint s) := by
  refine State.live_kept ?_
  split
  · exact s.judgeFreeze_works.moves.keeps
  · exact .refl s

theorem execSnapshotRelease_kept :
    s.KeptBy (execSnapshotRelease s) := by
  refine State.live_kept ?_
  split
  · exact State.keeps_of_same rfl rfl rfl rfl
  · exact .refl s

theorem execCallAnswer_kept (b : BranchId) (serial : Serial) :
    s.KeptBy (execCallAnswer b serial s) := by
  refine State.live_kept ?_
  split
  · exact (s.begin.takeAnswer_moves b _ serial).settled
  · exact .refl s

theorem execAssignSent_kept (b : BranchId) :
    s.KeptBy (execAssignSent b s) := by
  refine State.live_kept ?_
  split
  · exact (s.begin.beginRound_moves b _).settled
  · exact .refl s

theorem execCallAnswerFault_kept (b : BranchId) :
    s.KeptBy (execCallAnswerFault b s) := by
  refine State.live_kept ?_
  split
  · exact (s.begin.noProgress_moves b _ _ fun e r => e.beginRound_moves b r).settled
  · exact .refl s

theorem execCallNoAnswer_kept (b : BranchId) :
    s.KeptBy (execCallNoAnswer b s) := by
  refine State.live_kept ?_
  split
  · exact (s.begin.endRun_rebinds b none).moves.settled
  · exact .refl s

end Commands

/-- Every command. -/
theorem exec_kept (c : Instr) (s : State) : s.KeptBy (exec c s) := by
  cases c with
  | powerOnReset => exact execPowerOnReset_kept s _
  | restartPin => exact execRestartPin_kept s _
  | powerLoss => exact execPowerLoss_kept s
  | trunkFrame => exact execTrunkFrame_kept s _
  | closeZone => exact execCloseZone_kept s _ _ _
  | closeAll => exact execCloseAll_kept s _ _
  | releaseZone => exact execReleaseZone_kept s _ _ _
  | releaseAll => exact execReleaseAll_kept s _ _
  | doorClose => exact execDoorClose_kept s _ _ _
  | doorOpen => exact execDoorOpen_kept s _ _ _
  | doorStop => exact execDoorStop_kept s _ _ _
  | ack => exact execAck_kept s _ _ _ _
  | ackAll => exact execAckAll_kept s _ _
  | heel => exact execHeel_kept s _ _
  | identify => exact execIdentify_kept s _ _ _
  | readStatus => exact execReadStatus_kept s _ _ _
  | readDoor => exact execReadDoor_kept s _ _ _ _
  | readRecord => exact execReadRecord_kept s _ _ _ _ _ _
  | readAlarms => exact execReadAlarms_kept s _ _ _
  | loadBegin => exact execLoadBegin_kept s _ _
  | loadChunk => exact execLoadChunk_kept s _ _ _ _ _
  | loadEnd => exact execLoadEnd_kept s _ _ _
  | activate => exact execActivate_kept s _ _
  | rollback => exact execRollback_kept s _ _
  | store => exact execStore_kept s _ _
  | enroll => exact execEnroll_kept s _ _ _ _
  | forgetForeign => exact execForgetForeign_kept s _ _ _
  | restartRequest => exact execRestartRequest_kept s _ _
  | storeEnd => exact execStoreEnd_kept s _
  | transmitStart => exact execTransmitStart_kept s
  | arbitrationLost => exact execArbitrationLost_kept s _
  | transmitError => exact execTransmitError_kept s
  | transmitSuccess => exact execTransmitSuccess_kept s _
  | statusReply => exact execStatusReply_kept s _ _
  | pollMiss => exact execPollMiss_kept s _
  | lineSample => exact execLineSample_kept s _ _
  | dwellExpiry => exact execDwellExpiry_kept s _
  | retryExpiry => exact execRetryExpiry_kept s _
  | warningLeadExpiry => exact execWarningLeadExpiry_kept s _
  | issueDeadlineExpiry => exact execIssueDeadlineExpiry_kept s _
  | deadlineExpiry => exact execDeadlineExpiry_kept s _
  | linkLostHoldExpiry => exact execLinkLostHoldExpiry_kept s _
  | heelSourceStale => exact execHeelSourceStale_kept s _
  | heelStaleFirstJudge => exact execHeelStaleFirstJudge_kept s
  | reannounceExpiry => exact execReannounceExpiry_kept s
  | spacingPoint => exact execSpacingPoint_kept s
  | refreshPoint => exact execRefreshPoint_kept s
  | snapshotRelease => exact execSnapshotRelease_kept s
  | callAnswer => exact execCallAnswer_kept s _ _
  | assignSent => exact execAssignSent_kept s _
  | callAnswerFault => exact execCallAnswerFault_kept s _
  | callNoAnswer => exact execCallNoAnswer_kept s _

/-- A step: a command, or a tick. -/
theorem step_keeps (s t : State) (h : step s = .next t) : s.Keeps t := by
  unfold step at h
  split at h
  · injection h with h
    subst h
    unfold State.tick
    split <;> exact State.keeps_of_same rfl rfl rfl rfl
  · next c rest _ =>
    exact State.Keeps.trans (t := { s with pending := rest }) (State.keeps_of_same rfl rfl rfl rfl)
      (exec_kept c _ t h)

/-- Settles O8: each step moves each door by a chain of `Door.Op`s, which keep phase, entry, move and link consistent. -/
theorem everyStepKeepsPhasesAndLinks : Obligations.EveryStepKeepsPhasesAndLinks := by
  intro s t hs h d
  exact ((step_keeps s t h).chain d).keeps_flow (hs d)

/-- Settles O7: each step keeps the records of slots that are not fitted, the slots under an order, and the counts. -/
theorem everyStepKeepsDoorRecords : Obligations.EveryStepKeepsDoorRecords := by
  intro s t h
  have hk := step_keeps s t h
  exact ⟨hk.bare, hk.slot, fun hc d => (hk.chain d).keeps_counts (hc d)⟩

end Sys2Proof.Machine
end

section
/-! SUPPORT. What the end of an event leaves where no bank is swapped: each door as the event left it, or admitted
(R56), and the next poll on each branch (R137 to R139). -/

namespace Sys2Proof.Machine

open Sys2Proof

/-! ### Doors at the end of an event -/

/-- With no bank PENDING nothing is swapped. -/
theorem Ev.swapIfQuiescent_of_not_pending (e : Ev) (h : e.bankPending = false) : e.swapIfQuiescent = e := by
  unfold Ev.swapIfQuiescent
  split
  · next id hid => simp [State.bankPending, hid] at h
  · rfl

/-- While a door waits in its queue nothing is swapped (R70, R165). -/
theorem Ev.swapIfQuiescent_of_queued (e : Ev) (d : Slot) {v : DoorRec} {en : Entry} (hv : e.doorRec d = some v)
    (he : e.doors[d].entry = some en) : e.swapIfQuiescent = e := by
  have hq : (⟨d, v, en⟩ : Queued) ∈ e.queue v.group := State.mem_queue.mpr ⟨hv, rfl, he⟩
  have hn : e.quiescent v.group = false := by
    have hne : (e.queue v.group).isEmpty = false := List.isEmpty_eq_false_iff.mpr (List.ne_nil_of_mem hq)
    simp only [State.quiescent, hne, Bool.and_false]
  have ha : e.allQuiescent = false := by
    refine Bool.eq_false_iff.mpr fun k => ?_
    have := List.all_eq_true.mp k v.group (List.mem_finRange _)
    rw [hn] at this
    cases this
  unfold Ev.swapIfQuiescent
  split
  · rw [ha]
    rfl
  · rfl

/-- The doors' part of the end of an event is over; polls are yet to be sent. -/
def Ev.arbitrated (e : Ev) : State := e.arbiters.takeAlarms.updateLive

theorem Ev.settle_eq (e : Ev) (h : e.swapIfQuiescent = e) : e.settle = e.arbitrated.sendPolls := by
  unfold Ev.settle
  rw [h]
  rfl

theorem Ev.arbitrated_rest (e : Ev) :
    e.arbitrated = { e.toState with
      doors := e.arbiters.doors, alarms := e.arbitrated.alarms, trunk := e.arbitrated.trunk, ind := e.arbitrated.ind } := by
  have hw := (Ev.takeAlarms_works e.arbiters).trans (State.updateLive_works _)
  have ha := congrArg Ev.toState e.arbiters_arbitrates.rest
  unfold State.SameWorks at hw
  rw [ha] at hw
  exact hw

/-- Polls change branches only. -/
theorem State.sendPolls_rest (s : State) : s.sendPolls = { s with branches := s.sendPolls.branches } := by
  have step : ∀ (s : State) (b : BranchId), s.sendPoll b = { s with branches := (s.sendPoll b).branches } := fun s b => by
    rcases s.sendPoll_cases b with h | ⟨a, turn, -, h⟩ <;> rw [h]
  unfold State.sendPolls
  generalize branchIds = bs
  induction bs generalizing s with
  | nil => rfl
  | cons b bs ih =>
    rw [List.foldl_cons, ih, step]

/-- A door as the arbiters leave it: the record `w`, or `w` admitted from its entry. -/
def State.Admits (t : State) (d : Slot) (w : Door) : Prop :=
  t.doors[d] = w ∨ ∃ en v, w.entry = some en ∧ t.doorRec d = some v ∧ t.doors[d] = t.admittedAt d v en w

namespace State.Admits

variable {t : State} {d : Slot} {w : Door}

theorem of_no_entry (h : t.Admits d w) (he : w.entry = none) : t.doors[d] = w := by
  rcases h with h | ⟨en, v, k, -, -⟩
  · exact h
  · rw [he] at k
    cases k

/-- What an admission leaves of a record. -/
theorem keeps (h : t.Admits d w) :
    t.doors[d].report = w.report ∧ t.doors[d].link = w.link ∧ t.doors[d].miss = w.miss
      ∧ t.doors[d].binding = w.binding ∧ t.doors[d].conds = w.conds ∧ t.doors[d].holds = w.holds
      ∧ t.doors[d].retry = w.retry := by
  rcases h with h | ⟨en, v, -, -, h⟩ <;> rw [h] <;> exact ⟨rfl, rfl, rfl, rfl, rfl, rfl, rfl⟩

theorem keptOrAdmitted (h : t.Admits d w)
    (hd : ∀ en, w.entry = some en → en.dir = .closing ∨ t.orderHeld d = false) : t.KeptOrAdmitted d w := by
  rcases h with h | ⟨en, v, he, hv, h⟩
  · exact .inl h
  · rw [State.admittedAt_eq _ _ _ _ _ (hd en he)] at h
    exact .inr ⟨en, he, v, hv, h⟩

/-- A queued door waits, or was admitted within the event (R51, R56). -/
theorem worksOn (h : t.Admits d w) {en : Entry} (hp : w.phase = .queued) (he : w.entry = some en)
    (hm : w.move = .none) (ht : w.timer = .none) (hd : en.dir = .closing ∨ t.orderHeld d = false) : t.WorksOn d en := by
  rcases h with h | ⟨en', v, he', hv, h⟩
  · rw [← h] at hp he hm ht
    exact .inl ⟨hp, he, hm, ht⟩
  · obtain rfl : en = en' := Option.some.inj (he.symm.trans he')
    rw [State.admittedAt_eq _ _ _ _ _ hd] at h
    refine .inr ⟨v, hv, ?_⟩
    rw [h]
    rfl

end State.Admits

theorem Ev.settle_sources (e : Ev) (h : e.swapIfQuiescent = e) : e.SameSources e.settle := by
  rw [e.settle_eq h]
  exact ((e.arbiters_arbitrates.sources.trans (Ev.takeAlarms_works _).sources).trans
    (State.updateLive_works _).sources).trans (State.sendPolls_moves _).sources

/-- Each door at the end of an event is as the event left it, or admitted from its entry. -/
theorem Ev.settle_admits (e : Ev) (h : e.swapIfQuiescent = e) (d : Slot) : e.settle.Admits d e.doors[d] := by
  have hs := e.settle_sources h
  have hd : e.settle.doors = e.arbiters.doors := by
    rw [e.settle_eq h, State.sendPolls_rest, Ev.arbitrated_rest]
  have ha : ∀ v en w, e.settle.admitted v en w = e.admitted v en w := fun v en w => by
    rw [e.settle_eq h, State.sendPolls_rest, Ev.arbitrated_rest]
    rfl
  have hg : ∀ v en w, e.settle.admittedAt d v en w = e.admittedAt d v en w := fun v en w => by
    simp only [State.admittedAt, ha, hs.orderHeld]
  rw [State.Admits, hd]
  rcases e.arbiters_arbitrates.door d with k | ⟨en, v, he, hv, k⟩
  · exact .inl k
  · exact .inr ⟨en, v, he, (hs.doorRec d).trans hv, by rw [k, hg]⟩

/-! ### The next poll (R137 to R139) -/

/-- The branch once its poll, if one is due, has gone out. -/
def State.polled (s : State) (b : BranchId) : Branch :=
  if s.branches[b].isPolling && s.branches[b].inFlight.isNone then
    match s.nextPoll b with
    | some (a, turn) => s.branches[b].poll s.uptime a (s.slotOf b a) turn
    | none => s.branches[b]
  else s.branches[b]

theorem State.sendPoll_same (s : State) (b : BranchId) : (s.sendPoll b).branches[b] = s.polled b := by
  unfold State.sendPoll State.polled
  dsimp only
  split
  · cases s.nextPoll b with
    | none => rfl
    | some p => exact Ev.modBranch_same s.begin b fun r => r.poll s.uptime p.1 (s.slotOf b p.1) p.2
  · rfl

theorem State.sendPoll_other (s : State) (b x : BranchId) (h : b ≠ x) :
    (s.sendPoll b).branches[x] = s.branches[x] := by
  rcases s.sendPoll_cases b with k | ⟨a, turn, -, k⟩
  · rw [k]
  · rw [k]
    exact Ev.modBranch_other s.begin b x (fun r => r.poll s.uptime a (s.slotOf b a) turn) h

/-- The poll of a branch depends on no other branch. -/
theorem State.polled_sendPoll (s : State) (b x : BranchId) (h : b ≠ x) : (s.sendPoll b).polled x = s.polled x := by
  have hb := s.sendPoll_other b x h
  have hr : s.sendPoll b = { s with branches := (s.sendPoll b).branches } := by
    rcases s.sendPoll_cases b with k | ⟨a, turn, -, k⟩ <;> rw [k]
  generalize (s.sendPoll b).branches = br at hb hr
  rw [hr]
  unfold State.polled State.nextPoll
  simp only [hb]
  rfl

theorem State.sendPolls_branch (s : State) (b : BranchId) : s.sendPolls.branches[b] = s.polled b := by
  have other : ∀ (l : List BranchId) (s : State), b ∉ l → (l.foldl State.sendPoll s).branches[b] = s.branches[b] := by
    intro l
    induction l with
    | nil => exact fun _ _ => rfl
    | cons x l ih =>
      intro s hb
      simp only [List.mem_cons, not_or] at hb
      rw [List.foldl_cons, ih _ hb.2, State.sendPoll_other _ _ _ (Ne.symm hb.1)]
  have fold : ∀ (l : List BranchId) (s : State), l.Nodup → b ∈ l →
      (l.foldl State.sendPoll s).branches[b] = s.polled b := by
    intro l
    induction l with
    | nil => exact fun _ _ h => by cases h
    | cons x l ih =>
      intro s hn hb
      simp only [List.nodup_cons] at hn
      rw [List.foldl_cons]
      by_cases hx : x = b
      · subst hx
        rw [other l _ hn.1, State.sendPoll_same]
      · have hb' : b ∈ l := (List.mem_cons.mp hb).resolve_left (Ne.symm hx)
        rw [ih _ hn.2 hb', State.polled_sendPoll _ _ _ hx]
  exact fold branchIds s (List.nodup_finRange 4) (List.mem_finRange b)

/-- The next address of a rotation over bound addresses (R137). -/
theorem nextAddress_spec (position : Nat) (l : List Nat) (h : l ≠ []) :
    ∃ a, nextAddress position l = some a ∧ a ∈ l
      ∧ ((position < a ∧ ∀ x ∈ l, position < x → a ≤ x)
        ∨ ((∀ x ∈ l, x ≤ position) ∧ ∀ x ∈ l, a ≤ x)) := by
  have least : ∀ l : List Nat, l ≠ [] → ∃ a, l.min? = some a ∧ a ∈ l ∧ ∀ x ∈ l, a ≤ x := fun l hl => by
    obtain ⟨a, ha⟩ := Option.ne_none_iff_exists'.mp (mt List.min?_eq_none_iff.mp hl)
    exact ⟨a, ha, List.min?_eq_some_iff.mp ha⟩
  unfold nextAddress
  split
  · next hf =>
    obtain ⟨a, ha, hm, hl⟩ := least l h
    refine ⟨a, ha, hm, .inr ⟨fun x hx => ?_, hl⟩⟩
    have := List.filter_eq_nil_iff.mp hf x hx
    simpa using this
  · next x xs hf =>
    obtain ⟨a, ha, hm, hl⟩ := least (x :: xs) (by simp)
    rw [← hf] at hm hl
    obtain ⟨hm, hpos⟩ := List.mem_filter.mp hm
    refine ⟨a, ha, hm, .inl ⟨by simpa using hpos, fun x hx hp => hl x ?_⟩⟩
    exact List.mem_filter.mpr ⟨hx, by simpa using hp⟩

/-- A door qualifies for a priority poll while it has something in hand (R138). -/
theorem Door.qualifies_iff (r : Door) : r.qualifies = true ↔ r.InHand := by
  unfold Door.qualifies Door.InHand
  cases r.report <;> simp [or_assoc]

/-- The addresses that a priority poll may serve are the urgent ones. -/
theorem State.urgent_iff (s : State) (b : BranchId) (a : Nat) :
    s.Urgent b a ↔ a ∈ ((s.bound b).filter fun p => s.doors[p.1].qualifies).map Prod.snd := by
  simp only [State.Urgent, List.mem_map, List.mem_filter, Door.qualifies_iff]
  constructor
  · rintro ⟨q, hq, rfl, hi⟩
    exact ⟨q, ⟨hq, hi⟩, rfl⟩
  · rintro ⟨q, ⟨hq, hi⟩, rfl⟩
    exact ⟨q, hq, rfl, hi⟩

/-- The address that a priority poll goes to: polled longest ago, and among equals the lowest (R138). -/
theorem Branch.pollBefore_first {now : Time} {r : Branch} {l : List Nat} {m : Nat}
    (h : firstBy (r.pollBefore now) l = some m) :
    ∀ a ∈ l, elapsed now (r.lastPollOf a) < elapsed now (r.lastPollOf m)
      ∨ (elapsed now (r.lastPollOf a) = elapsed now (r.lastPollOf m) ∧ m ≤ a) := by
  have hb : ∀ x y, r.pollBefore now x y = false ↔
      elapsed now (r.lastPollOf x) < elapsed now (r.lastPollOf y)
        ∨ (elapsed now (r.lastPollOf x) = elapsed now (r.lastPollOf y) ∧ y ≤ x) := fun x y => by
    unfold Branch.pollBefore
    split
    · next hne =>
      have hne' : elapsed now (r.lastPollOf x) ≠ elapsed now (r.lastPollOf y) := by simpa using hne
      simp only [decide_eq_false_iff_not, not_lt]
      omega
    · next heq =>
      have heq' : elapsed now (r.lastPollOf x) = elapsed now (r.lastPollOf y) := by simpa using heq
      simp only [decide_eq_false_iff_not, not_lt]
      omega
  have ht : ∀ x y, r.pollBefore now x y = true → r.pollBefore now y x = false := fun x y k => by
    have := mt (hb x y).mpr (by simp [k])
    rw [hb]
    omega
  refine fun a ha => (hb a m).mp (firstBy_first (fun x => (hb x x).mpr (.inr ⟨rfl, le_rfl⟩)) (fun x y z hx hy => ?_) ht h a ha)
  rw [hb] at *
  omega

/-- The next poll of a branch with a bound door, after the outcome of poll `q` (R137, R138). -/
theorem State.nextPoll_spec (s : State) (b : BranchId) (hne : s.bound b ≠ []) :
    ∃ a turn, s.nextPoll b = some (a, turn) ∧ a ∈ (s.bound b).map Prod.snd
      ∧ ((s.branches[b].due = .priority ∧ (∃ x, s.Urgent b x) ∧ turn = .priority ∧ s.Urgent b a
          ∧ ∀ x, s.Urgent b x →
            elapsed s.uptime (s.branches[b].lastPollOf x) < elapsed s.uptime (s.branches[b].lastPollOf a)
              ∨ (elapsed s.uptime (s.branches[b].lastPollOf x) = elapsed s.uptime (s.branches[b].lastPollOf a) ∧ a ≤ x))
        ∨ ((s.branches[b].due = .regular ∨ ¬∃ x, s.Urgent b x) ∧ turn = .regular
          ∧ ((s.branches[b].rotation < a ∧ ∀ x ∈ s.bound b, s.branches[b].rotation < x.2 → a ≤ x.2)
            ∨ ((∀ x ∈ s.bound b, x.2 ≤ s.branches[b].rotation) ∧ ∀ x ∈ s.bound b, a ≤ x.2)))) := by
  obtain ⟨a, ha, hm, hr⟩ := nextAddress_spec s.branches[b].rotation ((s.bound b).map Prod.snd) (by simpa using hne)
  have hreg : (s.branches[b].rotation < a ∧ ∀ x ∈ s.bound b, s.branches[b].rotation < x.2 → a ≤ x.2)
      ∨ ((∀ x ∈ s.bound b, x.2 ≤ s.branches[b].rotation) ∧ ∀ x ∈ s.bound b, a ≤ x.2) := by
    simpa only [List.forall_mem_map] using hr
  unfold State.nextPoll
  dsimp only
  rw [ha]
  cases hd : s.branches[b].due with
  | regular => exact ⟨a, .regular, rfl, hm, .inr ⟨.inl rfl, rfl, hreg⟩⟩
  | priority =>
    dsimp only
    split
    · next u hu =>
      have hmem := firstBy_mem hu
      have hurg := (s.urgent_iff b u).mpr hmem
      obtain ⟨q, hq, hqu, -⟩ := hurg
      refine ⟨u, .priority, rfl, List.mem_map.mpr ⟨q, hq, hqu⟩,
        .inl ⟨rfl, ⟨u, (s.urgent_iff b u).mpr hmem⟩, rfl, (s.urgent_iff b u).mpr hmem, fun x hx => ?_⟩⟩
      exact Branch.pollBefore_first hu x ((s.urgent_iff b x).mp hx)
    · next hu =>
      refine ⟨a, .regular, rfl, hm, .inr ⟨.inr ?_, rfl, hreg⟩⟩
      rintro ⟨x, hx⟩
      rw [s.urgent_iff, (firstBy_eq_none _ _).mp hu] at hx
      cases hx

/-- An address of a bound door has its door. -/
theorem State.doorAt_of_mem (s : State) (b : BranchId) (a : Nat) (h : a ∈ (s.bound b).map Prod.snd) :
    ∃ d, s.doorAt b a = some d := by
  obtain ⟨p, hp, rfl⟩ := List.mem_map.mp h
  have : ((s.bound b).find? fun q => q.2 == p.2).isSome := List.find?_isSome.mpr ⟨p, hp, by simp⟩
  obtain ⟨q, hq⟩ := Option.isSome_iff_exists.mp this
  exact ⟨q.1, by simp [State.doorAt, hq]⟩

/-- The poll that follows the outcome of a poll, once the polls that are due have gone out. -/
theorem State.pollFollows {s u : State} {b : BranchId} {q : Poll} (hb : u.branches[b] = s.branches[b].afterPoll q)
    (hp : s.branches[b].isPolling = true) (hu : u.uptime = s.uptime) (hne : u.bound b ≠ []) :
    s.PollFollows u.sendPolls b q := by
  obtain ⟨a, turn, hn, hm, hcase⟩ := u.nextPoll_spec b hne
  obtain ⟨d, hd⟩ := u.doorAt_of_mem b a hm
  have hpol : u.branches[b].isPolling = true := by
    rw [hb]
    exact hp
  have hfl : u.branches[b].inFlight = none := by rw [hb]; rfl
  have hbr : u.sendPolls.branches[b] = u.branches[b].poll s.uptime a (u.doors[d].slot) turn := by
    rw [State.sendPolls_branch]
    unfold State.polled State.slotOf
    simp only [hpol, hfl, Option.isNone_none, Bool.and_self, if_true, hn, hd, hu]
  have hdoors : u.sendPolls = { u with branches := u.sendPolls.branches } := u.sendPolls_rest
  have hurg : ∀ x, u.sendPolls.Urgent b x ↔ u.Urgent b x := fun x => by rw [hdoors]; rfl
  have hbound : u.sendPolls.bound b = u.bound b := by rw [hdoors]; rfl
  have hdoor : u.sendPolls.doors = u.doors := by rw [hdoors]
  refine ⟨⟨a, u.doors[d].slot, turn⟩, d, ?_, ?_, ?_, ?_, ?_, ?_, ?_, ?_⟩
  · rw [hbr]
    rfl
  · rw [hbr]
    exact hpol
  · rw [hdoors]
    exact hd
  · rw [hdoor]
  · rw [hbr]
    by_cases h0 : u.branches[b].rotation = 0 <;> simp [-Fin.getElem_fin, Branch.poll, Branch.send, h0]
  · rw [hbr, hb]
    rfl
  · rintro ⟨ht, hx⟩
    simp only [hurg] at hx ⊢
    rcases hcase with ⟨-, -, rfl, ha, hfirst⟩ | ⟨hdue | hno, -⟩
    · rw [hbr, hb] at *
      rw [hu] at hfirst
      exact ⟨rfl, rfl, ha, hfirst⟩
    · rw [hb] at hdue
      simp [Branch.afterPoll, ht] at hdue
    · exact absurd hx hno
  · intro hx
    simp only [hurg] at hx
    rw [hbound, hbr]
    rcases hcase with ⟨hdue, hex, -⟩ | ⟨-, rfl, hreg⟩
    · rcases hx with hx | hx
      · rw [hb] at hdue
        simp [Branch.afterPoll, hx] at hdue
      · exact absurd hex hx
    · rw [hb] at hreg ⊢
      exact ⟨rfl, rfl, hreg⟩

end Sys2Proof.Machine
end

section
/-! SUPPORT. DWELL_EXPIRY (R21): what it leaves in the record of its door. -/

namespace Sys2Proof.Machine

open Sys2Proof

/-- DWELL ends in a reclose, or in IDLE (R21). -/
theorem Ev.dwellExpired_door (e : Ev) (d : Slot) (h : e.NoRunFor d) (hm : e.doors[d].move = .none) :
    (e.dwellExpired d).doors[d] =
      if e.doors[d].link = .online ∧ e.doors[d].state ≠ .closed ∧ e.doors[d].conds.travelTimeout = none then
        { e.doors[d].enqueued e.uptime .closing .reclose .order with retry := 0 }
      else { e.doors[d] with phase := .idle, timer := .none } := by
  have hi := e.toPhase_touches d .idle
  unfold Ev.dwellExpired
  dsimp only
  split
  · next hc =>
    rw [Ev.request_door _ _ _ _ _ (hi.noRunFor h), hi.uptime, Ev.toPhase_door, if_pos ⟨hc.1, hm⟩]
    rfl
  · rw [Ev.toPhase_door]

theorem Ev.dwellExpired_touches (e : Ev) (d : Slot) (h : e.NoRunFor d) : Ev.Touches d e (e.dwellExpired d) := by
  have hi := e.toPhase_touches d .idle
  unfold Ev.dwellExpired
  dsimp only
  split
  · exact hi.trans (Ev.request_touches _ d _ _ _ (hi.noRunFor h))
  · exact hi

theorem Ev.dwellExpired_outer (e : Ev) (d : Slot) : (e.dwellExpired d).outer = e.outer := by
  unfold Ev.dwellExpired
  dsimp only
  split
  · rw [Ev.request_outer, Ev.toPhase_outer]
  · rw [Ev.toPhase_outer]

theorem exec_dwellExpiry (s : State) (d : Slot) (hp : s.powered = true) (hd : s.doors[d].dwellDue s.uptime = true) :
    exec (.dwellExpiry d) s = .next (s.begin.dwellExpired d).settle := by
  show execDwellExpiry d s = _
  simp only [execDwellExpiry, State.live, hp, hd, if_true]

/-- Settles O55: a reclose keeps its entry or is admitted, and the bank stays PENDING while the door is queued. -/
theorem dwellsEndInAReclose : Obligations.DwellsEndInAReclose := by
  intro s d hpow hflow hrun hfit hphase htimer
  have hdue : s.doors[d].dwellDue s.uptime = true := by simp [-Fin.getElem_fin, Door.dwellDue, hphase, htimer]
  obtain ⟨he, hm⟩ := Door.flowWf_rests hflow (by rw [hphase]; rfl)
  have hdoor := s.begin.dwellExpired_door d hrun hm
  have ht := s.begin.dwellExpired_touches d hrun
  refine ⟨_, exec_dwellExpiry s d hpow hdue, ?_, fun hl hs hk => ?_, fun hn hb => ?_⟩
  · rw [Ev.settle_outer, Ev.dwellExpired_outer, State.begin_outer]
  · replace hdoor := hdoor.trans (if_pos ⟨hl, hs, hk⟩)
    obtain ⟨v, hv⟩ := (s.fitted_iff d).mp hfit
    have hq := Ev.swapIfQuiescent_of_queued (s.begin.dwellExpired d) d ((ht.doorRec d).trans hv) (by rw [hdoor]; rfl)
    have ha := Ev.settle_admits _ hq d
    rw [hdoor] at ha
    refine ha.keptOrAdmitted fun en hen => .inl ?_
    cases hen
    rfl
  · have hc : ¬(s.doors[d].link = .online ∧ s.doors[d].state ≠ .closed ∧ s.doors[d].conds.travelTimeout = none) := by
      rintro ⟨hl, hs, hk⟩
      rcases hn with hn | hn | hn
      · exact hn hl
      · exact hs hn
      · exact hn hk
    replace hdoor := hdoor.trans (if_neg hc)
    have hq := Ev.swapIfQuiescent_of_not_pending (s.begin.dwellExpired d) (by
      rw [State.bankPending, ht.banks]
      exact hb)
    have ha := Ev.settle_admits _ hq d
    rw [hdoor] at ha
    exact ha.of_no_entry he

end Sys2Proof.Machine
end

section
/-! SUPPORT. The outcome of a poll (R137 to R140): what the end of its event leaves, and what a miss leaves in the
record of its door (R8, R10, R66). -/

namespace Sys2Proof.Machine

open Sys2Proof

/-! ### The end of the event -/

/-- A door that keeps its binding, or is admitted, stays among the bound doors of its branch. -/
theorem State.Admits.mem_bound {t : State} {d : Slot} {w : Door} (h : t.Admits d w) {v : DoorRec} {a : Nat}
    (hv : t.doorRec d = some v) (ha : w.binding = some a) : (d, a) ∈ t.bound v.branch := by
  obtain ⟨-, -, -, hb, -⟩ := h.keeps
  exact (t.mem_bound _ d a).mpr ⟨v, hv, rfl, hb.trans ha⟩

/-- Polls bind no door. -/
theorem State.sendPolls_bound (s : State) (b : BranchId) : s.sendPolls.bound b = s.bound b := by
  rw [State.sendPolls_rest]
  rfl

/-- From `s` to `t` the outcome of poll `q` was taken, of the doors only `d` was at work, and it was left the record
`w`, perhaps admitted from its queue since. -/
structure State.TakesPoll (s t : State) (b : BranchId) (q : Poll) (d : Slot) (w : Door) : Prop where
  outer : t.outer = s.outer
  uptime : t.uptime = s.uptime
  orderHeld : t.orderHeld d = s.orderHeld d
  door : t.Admits d w
  follows : s.PollFollows t b q
  other : ∀ x : Slot, x ≠ d → s.doors[x].entry = none → t.doors[x] = s.doors[x]

theorem State.settle_takesPoll {s : State} {b : BranchId} {q : Poll} {d : Slot} {e : Ev}
    (hp : s.branches[b].isPolling = true) (hd : s.doorAt b q.address = some d) (hb : s.bankPending = false)
    (ht : Ev.Touches d (s.begin.modBranch b (Branch.afterPoll q)) e) (ho : e.outer = s.outer)
    (hbind : e.doors[d].binding = s.doors[d].binding) : s.TakesPoll e.settle b q d e.doors[d] := by
  obtain ⟨v, hv, rfl, ha⟩ := State.doorAt_some hd
  have hs0 : s.SameSources (s.begin.modBranch v.branch (Branch.afterPoll q)).toState := s.begin.modBranch_sources v.branch _ rfl
  have hq : e.swapIfQuiescent = e := e.swapIfQuiescent_of_not_pending (by
    rw [State.bankPending, ht.banks]
    exact hb)
  have hs : s.SameSources e.settle := (hs0.trans ht.sources).trans (e.settle_sources hq)
  have hadm := e.settle_admits hq
  have heq := e.settle_eq hq
  have hu : e.arbitrated.uptime = s.uptime := by
    rw [e.arbitrated_rest]
    exact ht.uptime
  refine ⟨?_, ?_, hs.orderHeld d, hadm d, ?_, fun x hx he => ?_⟩
  · rw [Ev.settle_outer, ho]
  · rw [heq, State.sendPolls_rest]
    exact hu
  · have hbr : e.arbitrated.branches[v.branch] = s.branches[v.branch].afterPoll q := by
      rw [e.arbitrated_rest]
      show e.branches[v.branch] = _
      rw [ht.branches, Ev.modBranch_same]
      rfl
    have hmem := (hadm d).mem_bound ((hs.doorRec d).trans hv) (hbind.trans ha)
    rw [heq] at hmem ⊢
    refine State.pollFollows hbr hp hu fun hnil => ?_
    rw [State.sendPolls_bound, hnil] at hmem
    cases hmem
  · have hex : e.doors[x] = s.doors[x] := (ht.other hx).trans (by rw [Ev.modBranch_doors]; rfl)
    have := (hadm x).of_no_entry (by rw [hex]; exact he)
    rw [this, hex]

/-! ### A miss (R8, R10, R66) -/

/-- The record after a miss: at the third one the link is LOST. -/
def Door.missed (now : Time) (x : Door) : Door :=
  let y : Door := { x with miss := min 3 (x.miss + 1) }
  if 2 ≤ x.miss ∧ (x.link = .pending ∨ x.link = .online) then
    { y.leaveOnline now .lost with conds := x.conds.setLevel .linkLost true }
  else y

theorem Ev.takeMiss_spec (e : Ev) (d : Slot) :
    Ev.Touches d e (e.takeMiss d) ∧ (e.takeMiss d).doors[d] = e.doors[d].missed e.uptime := by
  have h1 := e.modDoor_touches d fun x => { x with miss := min 3 (x.miss + 1) }
  have hc : ∀ x : Door, (decide (min 3 (x.miss + 1) = 3) && (x.link == .pending || x.link == .online)) = true ↔
      2 ≤ x.miss ∧ (x.link = .pending ∨ x.link = .online) := fun x => by
    simp only [Bool.and_eq_true, decide_eq_true_eq, Bool.or_eq_true, beq_iff_eq]
    refine and_congr_left fun _ => ?_
    omega
  unfold Ev.takeMiss Door.missed
  dsimp only
  simp only [Ev.modDoor_same, hc]
  split
  · refine ⟨(h1.trans (Ev.modDoor_touches _ d _)).trans (Ev.enterLevel_touches _ d _), ?_⟩
    rw [Ev.enterLevel_door, Ev.modDoor_same, Ev.modDoor_same]
    obtain ⟨-, -, -, -, -, -, hk⟩ := Door.leaveOnline_keeps e.uptime .lost
      { e.doors[d] with miss := min 3 (e.doors[d].miss + 1) }
    rw [hk]
  · exact ⟨h1, Ev.modDoor_same e d _⟩

/-- What a miss keeps of any record. -/
theorem Door.missed_keeps (now : Time) (x : Door) :
    (x.missed now).miss = min 3 (x.miss + 1) ∧ (x.missed now).binding = x.binding
      ∧ (x.missed now).timer = x.timer ∧ (x.miss < 2 → (x.missed now).link = x.link) := by
  unfold Door.missed
  dsimp only
  split
  · next h =>
    obtain ⟨-, hb, -, hm, -, ht, -⟩ := Door.leaveOnline_keeps now .lost { x with miss := min 3 (x.miss + 1) }
    exact ⟨hm, hb, ht, fun k => absurd h.1 (by omega)⟩
  · exact ⟨rfl, rfl, rfl, fun _ => rfl⟩

/-- A consistent door with an entry or a move is ONLINE. -/
theorem Door.online_of_busy {x : Door} (hf : x.flowWf = true) (hl : x.LinkWf)
    (hp : x.phase = .queued ∨ x.phase = .warning ∨ x.phase = .driving) : x.link = .online := by
  refine hl.1 ?_
  rcases x.flowWf_iff.mp hf with ⟨-, he, -⟩ | ⟨-, -, a, hm, -⟩ | ⟨-, -, hm⟩ | ⟨hr, -⟩
  · exact .inl (Option.isSome_iff_ne_none.mpr he)
  · exact .inr (Door.stands_eq_true.mpr (by simp [hm]))
  · exact .inr (Door.stands_eq_true.mpr hm)
  · rcases hp with hp | hp | hp <;> simp [hp, Phase.rests] at hr

theorem Door.leavePhase_of_rests (now : Time) (x : Door) (h : x.phase.rests = true) : x.leavePhase now = x := by
  unfold Door.leavePhase
  split <;> simp_all [Phase.rests]

/-- Phase and slot of a consistent door that leaves ONLINE (R10, R66). -/
theorem Door.leaveOnline_phaseSlot (now : Time) (dest : LinkState) (x : Door) (hf : x.flowWf = true) (hl : x.LinkWf) :
    (x.leaveOnline now dest).phase =
        (if x.phase = .queued ∨ x.phase = .warning ∨ x.phase = .driving then .idle else x.phase)
      ∧ (x.leaveOnline now dest).slot =
        (match x.phase, x.move with
          | .warning, _ => .warnOff
          | .driving, .admitted _ => .halt
          | _, _ => x.slot) := by
  have hon := Door.online_of_busy hf hl
  rcases x.flowWf_iff.mp hf with ⟨hp, -, hm⟩ | ⟨hp, -, a, hm, -⟩ | ⟨hp, -, hm⟩ | ⟨hp, -, hm⟩
  · simp [Door.leaveOnline, Door.leavePhase, Door.convertHalts, hp, hon (.inl hp)]
  · simp [Door.leaveOnline, Door.leavePhase, Door.convertHalts, hp, hon (.inr (.inl hp))]
  · cases hmv : x.move
    · exact absurd hmv hm
    all_goals simp [Door.leaveOnline, Door.leavePhase, Door.convertHalts, hp, hmv, hon (.inr (.inr hp))]
  · have hkeep : (x.leaveOnline now dest).phase = x.phase ∧ (x.leaveOnline now dest).slot = x.slot := by
      unfold Door.leaveOnline
      rw [x.leavePhase_of_rests now hp]
      split <;> exact ⟨rfl, rfl⟩
    rw [hkeep.1, hkeep.2]
    cases hx : x.phase <;> simp_all [Phase.rests]

/-- A started motion becomes a LINK-LOST hold of its draw (R66). -/
theorem Door.leaveOnline_hold (now : Time) (dest : LinkState) (x : Door) (m : Motion) (hf : x.flowWf = true)
    (hm : x.move = .started m) (hl : x.link = .online) (hh : x.holds = []) (ha : elapsed now m.start < m.allowance) :
    (x.leaveOnline now dest).holds = [⟨m.draw, .linkLost (m.start + BitVec.ofNat 32 m.allowance)⟩] := by
  have hp : x.phase = .driving := by
    rcases x.flowWf_iff.mp hf with ⟨-, -, k⟩ | ⟨-, -, a, k, -⟩ | ⟨k, -⟩ | ⟨-, -, k⟩
    · simp [hm] at k
    · simp [hm] at k
    · exact k
    · simp [hm] at k
  have hs : linkLostHold now m.draw m.start m.allowance =
      [⟨m.draw, .linkLost (m.start + BitVec.ofNat 32 m.allowance)⟩] := if_neg (Nat.not_le.mpr ha)
  simp [Door.leaveOnline, Door.leavePhase, Door.convertHalts, hs, Hold.convert, hp, hm, hl, hh]

/-- The record of a consistent door that loses its link at the third miss (R8, R10, R66). -/
theorem Door.missed_third (now : Time) (x : Door) (h2 : 2 ≤ x.miss) (hlink : x.link = .pending ∨ x.link = .online)
    (hf : x.flowWf = true) (hl : x.LinkWf) :
    (x.missed now).link = .lost ∧ (x.missed now).conds.linkLost = true ∧ (x.missed now).entry = none
      ∧ (x.missed now).move = .none
      ∧ (x.missed now).phase =
          (if x.phase = .queued ∨ x.phase = .warning ∨ x.phase = .driving then .idle else x.phase)
      ∧ (x.missed now).slot =
          (match x.phase, x.move with
            | .warning, _ => .warnOff
            | .driving, .admitted _ => .halt
            | _, _ => x.slot)
      ∧ ∀ m, x.move = .started m → x.link = .online → x.holds = [] → elapsed now m.start < m.allowance →
          (x.missed now).holds = [⟨m.draw, .linkLost (m.start + BitVec.ofNat 32 m.allowance)⟩] := by
  obtain ⟨y, hy⟩ : ∃ y : Door, y = { x with miss := min 3 (x.miss + 1) } := ⟨_, rfl⟩
  have hx : x.missed now = { y.leaveOnline now .lost with conds := x.conds.setLevel .linkLost true } := by
    subst hy
    exact if_pos ⟨h2, hlink⟩
  have hyf : y.flowWf = true ∧ y.LinkWf := hy ▸ ⟨hf, hl⟩
  obtain ⟨-, he, hm⟩ := Door.leaveOnline_flow now .lost y hyf
  obtain ⟨hp, hs⟩ := Door.leaveOnline_phaseSlot now .lost y hyf.1 hyf.2
  obtain ⟨hlk, -⟩ := Door.leaveOnline_keeps now .lost y
  have hh := fun m => Door.leaveOnline_hold now .lost y m hyf.1
  rw [hx]
  subst hy
  exact ⟨hlk, rfl, he, hm, hp, hs, hh⟩

theorem exec_pollMiss {s : State} {b : BranchId} {q : Poll} {d : Slot} (hpow : s.powered = true)
    (hp : s.branches[b].isPolling = true) (hq : s.branches[b].inFlight = some q) (hd : s.doorAt b q.address = some d) :
    exec (.pollMiss b) s = .next ((s.begin.modBranch b (Branch.afterPoll q)).takeMiss d).settle := by
  have hpoll : s.branches[b].poll? = some q := by rw [Branch.poll?, if_pos hp, hq]
  have hmiss : s.begin.pollMissed b q = (s.begin.modBranch b (Branch.afterPoll q)).takeMiss d := by
    unfold Ev.pollMissed
    have : s.begin.doorAt b q.address = some d := hd
    rw [this]
  show execPollMiss b s = _
  simp only [execPollMiss, State.live, hpow, hpoll, hmiss, if_true]

/-- Settles O51: the door at the polled address takes the miss, and the poll that follows goes out. -/
theorem missedPollsLoseTheLink : Obligations.MissedPollsLoseTheLink := by
  intro s b q d hpow hp hq hd hb hmiss hf hl
  obtain ⟨ht, hdoor⟩ := (s.begin.modBranch b (Branch.afterPoll q)).takeMiss_spec d
  rw [Ev.modBranch_doors] at hdoor
  obtain ⟨km, kb, kt, kl⟩ := Door.missed_keeps s.uptime s.doors[d]
  have hT := State.settle_takesPoll hp hd hb ht
    (by rw [Ev.takeMiss_outer, Ev.modBranch_outer _ _ (Branch.afterPoll q) (fun _ => ⟨rfl, rfl⟩), State.begin_outer])
    (by rw [hdoor]; exact kb)
  replace hT : s.TakesPoll _ b q d (s.doors[d].missed s.uptime) := hdoor ▸ hT
  obtain ⟨-, klk, kms, -⟩ := hT.door.keeps
  refine ⟨_, exec_pollMiss hpow hp hq hd, hT.outer, kms.trans km, fun h => klk.trans (kl h), hT.follows,
    fun h2 hlink => ?_, hT.other⟩
  obtain ⟨xl, xc, xe, xm, xp, xs, xh⟩ := Door.missed_third s.uptime s.doors[d] h2 hlink hf hl
  rw [hT.door.of_no_entry xe]
  exact ⟨xl, xc, xe, xm, xp, kt, xs, xh⟩

end Sys2Proof.Machine
end

section
/-! SUPPORT. What the stages of a report keep, and what each leaves in the cases that the statements name (R11 to
R22, R27, R60 to R67). -/

namespace Sys2Proof.Machine

open Sys2Proof

/-! ### What stays through the stages -/

/-- The record shows a report: it is the last one, and the link is ONLINE. -/
structure Door.Shows (r : Report) (x : Door) : Prop where
  link : x.link = .online
  report : x.report = some r

namespace Door.Shows

variable {r : Report} {x : Door}

theorem state (h : x.Shows r) : x.state = r.doorState := by simp [Door.state, h.link, h.report]

theorem atClosed (h : x.Shows r) : x.atClosed = true ↔ r.atClosed := by
  unfold Door.atClosed Report.atClosed
  rw [h.state, h.report]
  cases r.doorState <;> simp

theorem handleOpen (h : x.Shows r) : x.handleOpen = true ↔ r.handle = .openSide := by
  simp [Door.handleOpen, h.report]

end Door.Shows

/-- What no stage after the echo touches: the link, the report, the counts of polls, the holds, and two of the level
conditions. -/
structure Door.Carries (x y : Door) : Prop where
  link : y.link = x.link
  report : y.report = x.report
  miss : y.miss = x.miss
  binding : y.binding = x.binding
  holds : y.holds = x.holds
  linkLost : y.conds.linkLost = x.conds.linkLost
  lowPressure : y.conds.lowPressure = x.conds.lowPressure

namespace Door.Carries

variable {x y z : Door}

theorem refl (x : Door) : x.Carries x := ⟨rfl, rfl, rfl, rfl, rfl, rfl, rfl⟩

theorem trans (h : x.Carries y) (k : y.Carries z) : x.Carries z :=
  ⟨k.link.trans h.link, k.report.trans h.report, k.miss.trans h.miss, k.binding.trans h.binding,
    k.holds.trans h.holds, k.linkLost.trans h.linkLost, k.lowPressure.trans h.lowPressure⟩

theorem shows (h : x.Carries y) {r : Report} (k : x.Shows r) : y.Shows r := ⟨h.link.trans k.link, h.report.trans k.report⟩

end Door.Carries

theorem Door.closeChecked_carries (held : Bool) (now : Time) (o : Origin) (x : Door) :
    x.Carries (x.closeChecked held now o) := by
  unfold Door.closeChecked
  repeat' split
  all_goals exact ⟨rfl, rfl, rfl, rfl, rfl, rfl, rfl⟩

theorem Conds.enterEnd_levels (c : Conds) (k : AlarmKind) (dir : Dir) :
    (c.enterEnd k dir).linkLost = c.linkLost ∧ (c.enterEnd k dir).lowPressure = c.lowPressure := by
  cases k <;> exact ⟨rfl, rfl⟩

theorem Door.haltedBy_carries (held : Bool) (now : Time) (m : Motion) (k : AlarmKind) (x : Door) :
    x.Carries (x.haltedBy held now m k) := by
  obtain ⟨hl, hp⟩ := x.conds.enterEnd_levels k m.dir
  unfold Door.haltedBy
  dsimp only
  split
  · exact ⟨rfl, rfl, rfl, rfl, rfl, hl, hp⟩
  · split
    · obtain ⟨hl', hp'⟩ := (x.conds.enterEnd k m.dir).enterEnd_levels .closeFailed .closing
      exact ⟨rfl, rfl, rfl, rfl, rfl, hl'.trans hl, hp'.trans hp⟩
    · exact ⟨rfl, rfl, rfl, rfl, rfl, hl, hp⟩

theorem Door.reached_carries (dir : Dir) (x : Door) : x.Carries (x.reached dir) := by
  refine ⟨rfl, rfl, rfl, rfl, rfl, ?_, ?_⟩ <;> simp only [Door.reached, Conds.withoutEnds_eq]

theorem Door.preempted_carries (held : Bool) (x : Door) : x.Carries (x.preempted held) :=
  ⟨rfl, rfl, rfl, rfl, rfl, rfl, rfl⟩

theorem Door.endTested_carries (held : Bool) (now : Time) (tolerance : Nat) (m : Motion) (r : Report) (x : Door) :
    x.Carries (x.endTested held now tolerance m r) := by
  have close : ∀ y : Door, x.Carries y → x.Carries (y.closeChecked held now .order) := fun y h =>
    h.trans (y.closeChecked_carries held now .order)
  unfold Door.endTested
  split
  · exact close _ (x.reached_carries _)
  split
  · exact close _ (x.preempted_carries held)
  split
  · exact close _ (x.haltedBy_carries held now m _)
  split
  · exact close _ (x.haltedBy_carries held now m _)
  · exact ⟨rfl, rfl, rfl, rfl, rfl, rfl, rfl⟩

theorem Door.motioned_carries (held : Bool) (now : Time) (tolerance : Nat) (r : Report) (x : Door) :
    x.Carries (x.motioned held now tolerance r) := by
  unfold Door.motioned
  split
  · exact x.endTested_carries held now tolerance _ r
  all_goals
    repeat' split
    all_goals exact ⟨rfl, rfl, rfl, rfl, rfl, rfl, rfl⟩

theorem Door.heldBy_carries (x : Door) : x.Carries x.heldBy := by
  unfold Door.heldBy
  split <;> exact ⟨rfl, rfl, rfl, rfl, rfl, rfl, rfl⟩

theorem Door.handled_carries (held : Bool) (now : Time) (dwell : Nat) (r : Report) (x : Door) :
    x.Carries (x.handled held now dwell r) := by
  have idle : x.Carries { x with phase := .idle, timer := .none } := ⟨rfl, rfl, rfl, rfl, rfl, rfl, rfl⟩
  unfold Door.handled
  split
  · exact x.heldBy_carries
  split
  · split
    · exact idle
    split
    · exact idle.trans (Door.closeChecked_carries held now _ _)
    · exact ⟨rfl, rfl, rfl, rfl, rfl, rfl, rfl⟩
  split
  · exact idle
  · exact .refl x

/-! ### The conditions of stage 7 -/

/-- A motion-end kind, gone where the door stands at the end position of its direction (R14). -/
def DoorState.drops (st : DoorState) (k : Option Dir) : Option Dir :=
  if k.map Dir.endState = some st then none else k

/-- The pressure of a report against a floor; the failed-sensor mark keeps what stood (R13). -/
def Report.lowBelow (r : Report) (floor : Nat) (before : Bool) : Bool :=
  match r.pressure with
  | some p => p < floor
  | none => before

/-- LOCAL-OPEN after a report (R19). -/
def Door.localAfter (held : Bool) (x : Door) : Bool :=
  if x.state = .closed then false
  else if held = true ∧ (x.phase = .heldLocal ∨ x.phase = .dwell ∨ x.phase = .failed) then true
  else x.conds.localOpen

/-- What a report leaves of each condition (R13, R14, R19). -/
theorem Door.judgedConds_eq (held : Bool) (floor : Nat) (r : Report) (x : Door) :
    x.judgedConds held floor r =
      { travelTimeout := x.state.drops x.conds.travelTimeout
        stall := x.state.drops x.conds.stall
        obstructed := x.state.drops x.conds.obstructed
        closeFailed := x.state.drops x.conds.closeFailed
        disagree := decide (x.state = .disagree)
        linkLost := x.conds.linkLost
        lowPressure := r.lowBelow floor x.conds.lowPressure
        localOpen := x.localAfter held } := by
  have h1 : ∀ c : Conds, (if x.state = .disagree then c.setLevel .disagree true else c.remove .disagree) =
      { c with disagree := decide (x.state = .disagree) } := fun c => by
    split <;> simp_all [Conds.setLevel, Conds.remove]
  have h2 : ∀ (p : Nat) (c : Conds), (if p < floor then c.setLevel .lowPressure true else c.remove .lowPressure) =
      { c with lowPressure := decide (p < floor) } := fun p c => by
    split <;> simp_all [Conds.setLevel, Conds.remove]
  have h3 : ∀ c : Conds, c.localOpen = x.conds.localOpen →
      (if x.state = .closed then c.remove .localOpen
        else if held = true ∧ (x.phase = .heldLocal ∨ x.phase = .dwell ∨ x.phase = .failed) then
          c.setLevel .localOpen true
        else c) = { c with localOpen := x.localAfter held } := fun c hc => by
    unfold Door.localAfter
    split
    · rfl
    split
    · rfl
    · rw [← hc]
  have h4 : ∀ c : Conds, (if x.state = .closed then c.withoutEnds .closing
        else if x.state = .opened then c.withoutEnds .opening else c) =
      { c with
        travelTimeout := x.state.drops c.travelTimeout, stall := x.state.drops c.stall
        obstructed := x.state.drops c.obstructed, closeFailed := x.state.drops c.closeFailed } := fun c => by
    have hd : ∀ k, x.state.drops k =
        if x.state = .closed then (if k = some .closing then none else k)
        else if x.state = .opened then (if k = some .opening then none else k) else k := fun k => by
      rcases k with _ | _ | _ <;> cases x.state <;> rfl
    simp only [Conds.withoutEnds_eq, hd]
    split
    · rfl
    split <;> rfl
  unfold Door.judgedConds
  dsimp only
  rw [h1]
  unfold Report.lowBelow
  cases r.pressure with
  | none =>
    dsimp only
    refine (h4 _).trans ?_
    rw [h3 { x.conds with disagree := decide (x.state = .disagree) } rfl]
  | some p =>
    dsimp only
    rw [h2]
    refine (h4 _).trans ?_
    rw [h3 { x.conds with disagree := decide (x.state = .disagree), lowPressure := decide (p < floor) } rfl]

/-- Of the motion-end kinds a report drops those of the end position that it shows (R14), and enters none. -/
theorem Door.judgedConds_dirOf (held : Bool) (floor : Nat) (r : Report) (x : Door) (k : AlarmKind) :
    (x.judgedConds held floor r).dirOf k = x.state.drops (x.conds.dirOf k) := by
  rw [Door.judgedConds_eq]
  cases k <;> rfl

theorem DoorState.drops_ne {st : DoorState} {k : Option Dir} {dir : Dir} (h : k ≠ some dir) : st.drops k ≠ some dir := by
  unfold DoorState.drops
  split
  · nofun
  · exact h

end Sys2Proof.Machine
end

section
/-! SUPPORT. A valid reply as a whole (R11): the record after the echo, after motion and handle, and at the end. -/

namespace Sys2Proof.Machine

open Sys2Proof

/-! ### After the echo -/

/-- The move of a record once the report's echo is taken (R27, R57, R60). -/
def Door.moveAfter (now : Time) (r : Report) (x : Door) : Move :=
  if x.Delivers r then (x.deliver now x.slot r.position).move else x.move

theorem Door.moveAfter_none {now : Time} {r : Report} {x : Door} (h : x.move = .none) : x.moveAfter now r = .none := by
  unfold Door.moveAfter Door.deliver
  simp [h]

theorem Door.moveAfter_started {now : Time} {r : Report} {x : Door} {m : Motion} (h : x.move = .started m) :
    x.moveAfter now r = .started m := by
  unfold Door.moveAfter Door.deliver
  simp [h]

theorem Door.moveAfter_of_not_delivers {now : Time} {r : Report} {x : Door} (h : ¬x.Delivers r) :
    x.moveAfter now r = x.move := if_neg h

/-- A delivery in WARNING starts the lead or leaves it running. -/
theorem Door.moveAfter_warning {now : Time} {r : Report} {x : Door} {a : Admission} (hp : x.phase = .warning)
    (hm : x.move = .admitted a) :
    x.moveAfter now r = .admitted a
      ∨ x.moveAfter now r = .admitted { a with leadStart := some now } := by
  unfold Door.moveAfter Door.deliver
  simp only [hp, hm]
  split_ifs
  · exact .inr rfl
  · exact .inl hm
  · exact .inl rfl

/-- A delivery in DRIVING starts the motion or leaves the admission. -/
theorem Door.moveAfter_driving {now : Time} {r : Report} {x : Door} {a : Admission} (hp : x.phase = .driving)
    (hm : x.move = .admitted a) :
    x.moveAfter now r = .admitted a ∨ x.moveAfter now r = .started (a.toMotion now r.position) := by
  unfold Door.moveAfter Door.deliver
  simp only [hp, hm]
  split_ifs
  · exact .inr rfl
  · exact .inl hm
  · exact .inl rfl

/-- The move that a delivery leaves depends on phase and move alone. -/
theorem Door.deliver_move_congr {x y : Door} (now : Time) (c : Cmd) (q0 : Nat) (hp : y.phase = x.phase)
    (hm : y.move = x.move) : (y.deliver now c q0).move = (x.deliver now c q0).move := by
  unfold Door.deliver
  rw [hp, hm]
  split
  · split
    · rfl
    · exact hm
  · split
    · rfl
    · exact hm
  · exact hm

/-- An echo that delivers nothing leaves the slot. -/
theorem Door.slot_of_not_delivers {r : Report} {x : Door} (h : ¬x.Delivers r) :
    (if x.slot = r.echo then .none else x.slot) = x.slot := by
  split
  · next he =>
    by_contra k
    exact h ⟨fun h0 => k h0.symm, he.symm⟩
  · rfl

/-- The record after stages 1 to 4 of R11. -/
def Door.heard (now : Time) (r : Report) (x : Door) : Door := (x.reported r).echoed now r

theorem Door.heard_eq (now : Time) (r : Report) (x : Door) :
    x.heard now r =
      { x.reported r with
        slot := if x.slot = r.echo then .none else x.slot
        holds := if x.Delivers r then x.holds.filter fun h => !h.isHalt else x.holds
        move := x.moveAfter now r } := by
  unfold Door.heard Door.echoed Door.moveAfter Door.Delivers
  by_cases h : x.slot ≠ .none ∧ r.echo = x.slot
  · have hd : (x.reported r).slot ≠ .none ∧ r.echo = (x.reported r).slot := h
    rw [if_pos hd, Door.deliver_eq]
    simp only [if_pos h, if_pos h.2.symm]
    congr 1
    exact Door.deliver_move_congr now x.slot r.position rfl rfl
  · have hd : ¬((x.reported r).slot ≠ .none ∧ r.echo = (x.reported r).slot) := h
    rw [if_neg hd]
    simp only [if_neg h]
    rw [Door.slot_of_not_delivers h]
    rfl

@[simp] theorem Door.heard_phase (now : Time) (r : Report) (x : Door) : (x.heard now r).phase = x.phase := by
  rw [x.heard_eq, Door.reported]

@[simp] theorem Door.heard_entry (now : Time) (r : Report) (x : Door) : (x.heard now r).entry = x.entry := by
  rw [x.heard_eq, Door.reported]

@[simp] theorem Door.heard_timer (now : Time) (r : Report) (x : Door) : (x.heard now r).timer = x.timer := by
  rw [x.heard_eq, Door.reported]

@[simp] theorem Door.heard_retry (now : Time) (r : Report) (x : Door) : (x.heard now r).retry = x.retry := by
  rw [x.heard_eq, Door.reported]

@[simp] theorem Door.heard_move (now : Time) (r : Report) (x : Door) : (x.heard now r).move = x.moveAfter now r := by
  rw [x.heard_eq]

@[simp] theorem Door.heard_slot (now : Time) (r : Report) (x : Door) :
    (x.heard now r).slot = if x.slot = r.echo then .none else x.slot := by
  rw [x.heard_eq]

theorem Door.heard_shows (now : Time) (r : Report) (x : Door) : (x.heard now r).Shows r := by
  rw [x.heard_eq]
  exact ⟨rfl, rfl⟩

theorem Door.heard_dirOf (now : Time) (r : Report) (x : Door) (k : AlarmKind) :
    (x.heard now r).conds.dirOf k = x.conds.dirOf k := by
  rw [x.heard_eq]
  unfold Door.reported
  dsimp only
  split
  · rfl
  · cases k <;> rfl

/-! ### Motion and handle where they leave the record -/

theorem Door.closeChecked_of_done {held : Bool} {now : Time} {o : Origin} {x : Door}
    (h : held = false ∨ x.phase ≠ .idle ∨ x.atClosed = true ∨ x.conds.travelTimeout ≠ none) :
    x.closeChecked held now o = x := by
  unfold Door.closeChecked
  refine if_neg ?_
  rintro ⟨h1, -, h2, h3, h4⟩
  rcases h with h | h | h | h
  · simp [h] at h1
  · exact h h3
  · simp [h] at h2
  · exact h h4

theorem Door.closeChecked_conds (held : Bool) (now : Time) (o : Origin) (x : Door) :
    (x.closeChecked held now o).conds = x.conds := by
  unfold Door.closeChecked
  repeat' split
  all_goals rfl

theorem Door.motioned_of_still {held : Bool} {now : Time} {tolerance : Nat} {r : Report} {x : Door}
    (hm : x.move = .none) (hr : x.phase ≠ .retryWait) (hf : x.phase ≠ .failed) :
    x.motioned held now tolerance r = x := by
  unfold Door.motioned
  rw [hm]
  cases hp : x.phase <;> simp_all

theorem Door.motioned_of_admitted {held : Bool} {now : Time} {tolerance : Nat} {r : Report} {x : Door} {a : Admission}
    (hm : x.move = .admitted a) (hs : x.state ≠ a.dir.endState) : x.motioned held now tolerance r = x := by
  unfold Door.motioned
  rw [hm]
  exact if_neg hs

theorem Door.motioned_of_started {held : Bool} {now : Time} {tolerance : Nat} {r : Report} {x : Door} {m : Motion}
    (hm : x.move = .started m) : x.motioned held now tolerance r = x.endTested held now tolerance m r := by
  unfold Door.motioned
  rw [hm]

theorem Door.handled_of_free {held : Bool} {now : Time} {dwell : Nat} {r : Report} {x : Door}
    (hh : ¬(held = true ∧ r.handle = .openSide)) (hl : x.phase = .heldLocal → r.handle ≠ .idle)
    (hd : x.phase = .dwell → x.state ≠ .closed) : x.handled held now dwell r = x := by
  unfold Door.handled
  rw [if_neg hh, if_neg fun k => hl k.1 k.2, if_neg fun k => hd k.1 k.2]

theorem Door.handled_of_held {held : Bool} {now : Time} {dwell : Nat} {r : Report} {x : Door}
    (hh : held = true ∧ r.handle = .openSide) : x.handled held now dwell r = x.heldBy := if_pos hh

/-! ### The end of the report -/

/-- The record after stages 1 to 6 of R11. -/
def Door.worked (held : Bool) (now : Time) (v : DoorRec) (g : GroupRec) (r : Report) (x : Door) : Door :=
  ((x.heard now r).motioned held now g.lagTolerance r).handled held now v.recloseDwell r

section

variable (held : Bool) (now : Time) (v : DoorRec) (g : GroupRec) (r : Report) (x : Door)

theorem Door.judged_eq : x.judged held now v g r =
    { x.worked held now v g r with conds := (x.worked held now v g r).judgedConds held g.pFloor r } := rfl

theorem Door.worked_carries : (x.heard now r).Carries (x.worked held now v g r) :=
  (Door.motioned_carries held now g.lagTolerance r _).trans (Door.handled_carries held now v.recloseDwell r _)

theorem Door.worked_shows : (x.worked held now v g r).Shows r := (x.worked_carries held now v g r).shows (x.heard_shows now r)

theorem Door.judged_shows : (x.judged held now v g r).Shows r :=
  ⟨(x.worked_shows held now v g r).link, (x.worked_shows held now v g r).report⟩

theorem Door.replied_cases : x.replied held now v g r = x.judged held now v g r
    ∨ x.replied held now v g r = (x.judged held now v g r).closeChecked held now .order := by
  unfold Door.replied
  split
  · exact .inr rfl
  · exact .inl rfl

/-- The conditions at the end are those of stage 7. -/
theorem Door.replied_conds :
    (x.replied held now v g r).conds = (x.worked held now v g r).judgedConds held g.pFloor r := by
  rcases x.replied_cases held now v g r with h | h <;> rw [h]
  · rfl
  · exact Door.closeChecked_conds _ _ _ _

/-- What a valid reply leaves of link, report, counts, binding and holds (R7, R11, R67). -/
theorem Door.replied_keeps :
    (x.replied held now v g r).report = some r ∧ (x.replied held now v g r).link = .online
      ∧ (x.replied held now v g r).miss = 0 ∧ (x.replied held now v g r).binding = x.binding
      ∧ (x.replied held now v g r).holds =
          if x.Delivers r then x.holds.filter fun h => !h.isHalt else x.holds := by
  have hw := x.worked_carries held now v g r
  have hj : ∀ y : Door, y = x.judged held now v g r
      ∨ y = (x.judged held now v g r).closeChecked held now .order →
        y.report = (x.worked held now v g r).report ∧ y.link = (x.worked held now v g r).link
          ∧ y.miss = (x.worked held now v g r).miss ∧ y.binding = (x.worked held now v g r).binding
          ∧ y.holds = (x.worked held now v g r).holds := by
    rintro y (rfl | rfl)
    · exact ⟨rfl, rfl, rfl, rfl, rfl⟩
    · have hc := Door.closeChecked_carries held now .order (x.judged held now v g r)
      exact ⟨hc.report, hc.link, hc.miss, hc.binding, hc.holds⟩
  obtain ⟨h1, h2, h3, h4, h5⟩ := hj _ (x.replied_cases held now v g r)
  rw [h1, h2, h3, h4, h5, hw.report, hw.link, hw.miss, hw.binding, hw.holds, x.heard_eq]
  exact ⟨rfl, rfl, rfl, rfl, rfl⟩

/-- The level conditions that a valid reply leaves (R7, R13). -/
theorem Door.replied_levels :
    (x.link ≠ .online → (x.replied held now v g r).conds.linkLost = false)
      ∧ (x.replied held now v g r).conds.disagree = decide (r.doorState = .disagree)
      ∧ (x.replied held now v g r).conds.lowPressure = r.lowBelow g.pFloor x.conds.lowPressure := by
  have hw := x.worked_carries held now v g r
  have hs := (x.worked_shows held now v g r).state
  have hh : (x.heard now r).conds = (x.reported r).conds := by rw [x.heard_eq]
  have hl : (x.reported r).conds.lowPressure = x.conds.lowPressure := by
    unfold Door.reported
    dsimp only
    split <;> rfl
  rw [Door.replied_conds, Door.judgedConds_eq, hs, hw.linkLost, hw.lowPressure, hh, hl]
  refine ⟨fun hlk => ?_, rfl, rfl⟩
  simp only [Door.reported, if_neg hlk]
  rfl

end

/-- The last need-close check changes nothing where there is nothing to close. -/
theorem Door.replied_of_done {held : Bool} {now : Time} {v : DoorRec} {g : GroupRec} {r : Report} {x : Door}
    (h : held = false ∨ (x.worked held now v g r).phase ≠ .idle ∨ r.atClosed
      ∨ (x.replied held now v g r).conds.travelTimeout ≠ none) :
    x.replied held now v g r = x.judged held now v g r := by
  rcases x.replied_cases held now v g r with k | k
  · exact k
  · rw [k]
    refine Door.closeChecked_of_done ?_
    rcases h with h | h | h | h
    · exact .inl h
    · exact .inr (.inl h)
    · exact .inr (.inr (.inl ((x.judged_shows held now v g r).atClosed.mpr h)))
    · rw [Door.replied_conds] at h
      exact .inr (.inr (.inr h))

end Sys2Proof.Machine
end

section
/-! SUPPORT. STATUS_REPLY: a valid reply handed to its door (R11, R13, R16, R17, R137 to R140). -/

namespace Sys2Proof.Machine

open Sys2Proof

/-- A valid reply to the poll in flight: its event, and the record that it leaves its door. -/
theorem State.reply_takesPoll {s : State} {b : BranchId} {bytes : List Byte} {q : Poll} {r : Report} {d : Slot}
    {v : DoorRec} (hpow : s.powered = true) (hp : s.branches[b].isPolling = true) (hq : s.branches[b].inFlight = some q)
    (hr : parseStatus q.address s.uptime bytes = some r) (hd : s.doorAt b q.address = some d)
    (hv : s.doorRec d = some v) (hb : s.bankPending = false) :
    ∃ t, exec (.statusReply b bytes) s = .next t
      ∧ s.TakesPoll t b q d (s.doors[d].replied (s.orderHeld d) s.uptime v (s.groupRec v.group) r) := by
  have hpoll : s.branches[b].poll? = some q := by rw [Branch.poll?, if_pos hp, hq]
  have hans : s.begin.pollAnswered b q r = (s.begin.modBranch b (Branch.afterPoll q)).takeReport d v r := by
    unfold Ev.pollAnswered
    rw [show s.begin.doorAt b q.address = some d from hd]
    dsimp only
    rw [show s.begin.doorRec d = some v from hv]
  have hexec : exec (.statusReply b bytes) s =
      .next ((s.begin.modBranch b (Branch.afterPoll q)).takeReport d v r).settle := by
    show execStatusReply b bytes s = _
    simp only [execStatusReply, State.live, hpow, hpoll, hr, hans, if_true]
  have hs := s.begin.modBranch_sources b (Branch.afterPoll q) rfl
  have hrun : (s.begin.modBranch b (Branch.afterPoll q)).NoRunFor d := by
    obtain ⟨v', hv', rfl, -⟩ := State.doorAt_some hd
    refine State.noRunFor_of_polling ((hs.doorRec d).trans hv') ?_
    rw [Ev.modBranch_same]
    exact hp
  obtain ⟨ht, hdoor⟩ := Ev.takeReport_spec _ d v r hrun
  rw [hs.orderHeld, hs.groupRec] at hdoor
  replace hdoor : ((s.begin.modBranch b (Branch.afterPoll q)).takeReport d v r).doors[d] =
      s.doors[d].replied (s.orderHeld d) s.uptime v (s.groupRec v.group) r := hdoor
  obtain ⟨-, -, -, hbind, -⟩ := Door.replied_keeps (s.orderHeld d) s.uptime v (s.groupRec v.group) r s.doors[d]
  refine ⟨_, hexec, hdoor ▸ State.settle_takesPoll hp hd hb ht ?_ ((congrArg Door.binding hdoor).trans hbind)⟩
  rw [Ev.takeReport_outer, Ev.modBranch_outer _ _ (Branch.afterPoll q) (fun _ => ⟨rfl, rfl⟩), State.begin_outer]

/-! ### An IDLE door -/

section

variable {held : Bool} {now : Time} {v : DoorRec} {g : GroupRec} {r : Report} {x : Door}

/-- Without a move, retry wait and FAILED, stage 5 leaves the record alone. -/
theorem Door.worked_of_still (hm : x.move = .none) (hr : x.phase ≠ .retryWait) (hf : x.phase ≠ .failed) :
    x.worked held now v g r = (x.heard now r).handled held now v.recloseDwell r := by
  unfold Door.worked
  rw [Door.motioned_of_still (by rw [Door.heard_move, Door.moveAfter_none hm]) (by rwa [Door.heard_phase])
    (by rwa [Door.heard_phase])]

/-- An IDLE door whose handle does not hold it stays as the echo left it until the last need-close check. -/
theorem Door.worked_of_idle (hp : x.phase = .idle) (hm : x.move = .none) (hh : ¬(held = true ∧ r.handle = .openSide)) :
    x.worked held now v g r = x.heard now r := by
  rw [Door.worked_of_still hm (by simp [hp]) (by simp [hp])]
  exact Door.handled_of_free hh (by simp [hp]) (by simp [hp])

theorem Door.worked_idle_fields (hp : x.phase = .idle) (hm : x.move = .none)
    (hh : ¬(held = true ∧ r.handle = .openSide)) :
    (x.worked held now v g r).phase = .idle ∧ (x.worked held now v g r).entry = x.entry
      ∧ (x.worked held now v g r).move = .none
      ∧ (x.worked held now v g r).conds.travelTimeout = x.conds.travelTimeout := by
  rw [Door.worked_of_idle hp hm hh]
  exact ⟨(x.heard_phase now r).trans hp, x.heard_entry now r, (x.heard_move now r).trans (Door.moveAfter_none hm),
    x.heard_dirOf now r .travelTimeout⟩

/-- A drift report of a record that stays IDLE is the drift report of R17. -/
theorem Door.drifts_judged_iff (hp : (x.worked held now v g r).phase = .idle) (before : Option Report) :
    (x.judged held now v g r).drifts held before r = true ↔
      held = true ∧ r.handle = .idle ∧ r.doorState ≠ .closed
        ∧ ∃ p, before = some p ∧ (p.atClosed ∨ p.handle ≠ .idle) := by
  rw [Door.drifts_iff, (x.judged_shows held now v g r).state]
  simp [x.judged_eq held now v g r, hp]

/-- The need-close check queues a close where the door must be closed and may be (R16). -/
theorem Door.closeChecked_of_needed {o : Origin} (hs : x.Shows r) (hheld : held = true) (hc : ¬r.atClosed)
    (hp : x.phase = .idle) (ht : x.conds.travelTimeout = none) (hh : r.handle ≠ .openSide) (hm : x.move = .none) :
    x.closeChecked held now o = { x.enqueued now .closing o .order with retry := o.retryAfter x.retry } := by
  have hac : x.atClosed = false := Bool.eq_false_iff.mpr fun k => hc (hs.atClosed.mp k)
  unfold Door.closeChecked
  rw [if_pos ⟨hheld, hs.link, hac, hp, ht⟩, if_neg fun k => hh (hs.handleOpen.mp k), if_pos hm]

/-- The close that an IDLE record is queued for at the end of a report (R16, R17). -/
theorem Door.replied_of_needsClose (hw : (x.worked held now v g r).phase = .idle)
    (hm : (x.worked held now v g r).move = .none)
    (ht : (x.worked held now v g r).conds.travelTimeout = none) (hheld : held = true) (hc : ¬r.atClosed)
    (hh : r.handle ≠ .openSide)
    (hn : x.link ≠ .online ∨ (x.judged held now v g r).drifts held x.report r = true) :
    x.replied held now v g r =
      { (x.judged held now v g r).enqueued now .closing .order .order with retry := 0 } := by
  have ht' : (x.judged held now v g r).conds.travelTimeout = none := by
    rw [x.judged_eq, Door.judgedConds_eq, ht]
    rfl
  unfold Door.replied
  rw [if_pos hn, Door.closeChecked_of_needed (x.judged_shows held now v g r) hheld hc hw ht' hh hm]
  rfl

end

/-- Settles O47: the record is that of `Door.replied`, and the next poll goes out with the slot it has then. -/
theorem validRepliesAreTaken : Obligations.ValidRepliesAreTaken := by
  intro s b bytes q r d v hpow hp hq hr hd hv hb
  obtain ⟨t, hexec, hT⟩ := State.reply_takesPoll hpow hp hq hr hd hv hb
  obtain ⟨kr, kl, km, kb, kc, -, -⟩ := hT.door.keeps
  obtain ⟨xr, xl, xm, xb, -⟩ := Door.replied_keeps (s.orderHeld d) s.uptime v (s.groupRec v.group) r s.doors[d]
  obtain ⟨xll, xd, xlp⟩ := Door.replied_levels (s.orderHeld d) s.uptime v (s.groupRec v.group) r s.doors[d]
  refine ⟨t, hexec, hT.outer, kr.trans xr, kl.trans xl, km.trans xm, kb.trans xb, fun hl => ?_, ?_, fun p hpr => ?_,
    fun hpr => ?_, fun hidle hflow => ?_, hT.follows, hT.other⟩
  · rw [kc, xll hl]
  · rw [kc, xd, decide_eq_true_iff]
  · rw [kc, xlp]
    unfold Report.lowBelow
    rw [hpr]
    exact decide_eq_true_iff
  · rw [kc, xlp]
    simp only [Report.lowBelow, hpr]
  · obtain ⟨he, hm⟩ := Door.flowWf_rests hflow (by rw [hidle]; rfl)
    refine ⟨fun hh ht hc ho hn => ?_, fun hl hh hn => ?_⟩
    · obtain ⟨wp, -, wm, wt⟩ := Door.worked_idle_fields (v := v) (g := s.groupRec v.group) (now := s.uptime)
        hidle hm (fun k : s.orderHeld d = true ∧ r.handle = .openSide => ho k.2)
      have hx := Door.replied_of_needsClose wp wm (wt.trans ht) hh hc ho
        (hn.imp_right fun k => (Door.drifts_judged_iff wp _).mpr ⟨k.1, k.2.2⟩)
      have hdoor := hT.door
      rw [hx] at hdoor
      rw [State.WorksNow, hT.uptime]
      exact hdoor.worksOn rfl rfl wm rfl (.inl rfl)
    · obtain ⟨wp, we, wm, -⟩ := Door.worked_idle_fields (v := v) (g := s.groupRec v.group) (now := s.uptime)
        hidle hm hh
      have hx : s.doors[d].replied (s.orderHeld d) s.uptime v (s.groupRec v.group) r =
          s.doors[d].judged (s.orderHeld d) s.uptime v (s.groupRec v.group) r := by
        unfold Door.replied
        refine if_neg ?_
        rintro (k | k)
        · exact k hl
        · obtain ⟨k1, k2⟩ := (Door.drifts_judged_iff wp _).mp k
          exact hn ⟨k1, hidle, k2⟩
      have hdoor := hT.door
      rw [hx] at hdoor
      rw [hdoor.of_no_entry (we.trans he)]
      exact ⟨wp, we.trans he, wm⟩

end Sys2Proof.Machine
end

section
/-! SUPPORT. The local handle in a report (R18, R20, R22, R23, R61, R65). -/

namespace Sys2Proof.Machine

open Sys2Proof

/-! ### The record at the end, where no close follows -/

theorem Report.doorState_ne_closed {r : Report} (h : r.closedLimit = false) : r.doorState ≠ .closed := by
  unfold Report.doorState
  rw [h]
  split
  · nofun
  · cases r.motion
    case still =>
      cases r.openLimit <;> nofun
    all_goals nofun

/-- A motion that starts with the report is in its start grace. -/
theorem Admission.toMotion_since (a : Admission) (now : Time) (q0 : Nat) : (a.toMotion now q0).since now = 0 := by
  simp [Motion.since, Admission.toMotion, elapsed]

theorem Admission.toMotion_stalls (a : Admission) (now : Time) (q0 q tolerance : Nat) :
    (a.toMotion now q0).stalls now q tolerance = false := by
  simp [Motion.stalls, a.toMotion_since]

section

variable {held : Bool} {now : Time} {v : DoorRec} {g : GroupRec} {r : Report} {x : Door}

/-! ### HELD-LOCAL (R18) -/

/-- The handle takes every phase but FAILED to HELD-LOCAL; WARN-OFF follows a warning, and HALT a drive. -/
theorem Door.heldBy_fields (hf : x.phase ≠ .failed) :
    x.heldBy.phase = .heldLocal ∧ (x.phase ≠ .heldLocal → x.heldBy.timer = .none)
      ∧ (x.phase = .heldLocal → x.heldBy = x)
      ∧ (x.phase = .warning → x.heldBy.slot = .warnOff) ∧ (x.phase = .driving → x.heldBy.slot = .halt) := by
  unfold Door.heldBy
  cases hp : x.phase <;> simp_all

/-- The need-close check of an IDLE record with the handle at OPEN-SIDE leaves it IDLE or HELD-LOCAL. -/
theorem Door.closeChecked_of_open {o : Origin} (hs : x.Shows r) (hh : r.handle = .openSide) (hp : x.phase = .idle)
    (ht : x.timer = .none) :
    ((x.closeChecked held now o).phase = .idle ∨ (x.closeChecked held now o).phase = .heldLocal)
      ∧ (x.closeChecked held now o).timer = .none := by
  have ho := hs.handleOpen.mpr hh
  unfold Door.closeChecked
  split
  · exact ⟨.inr rfl, rfl⟩
  · exact ⟨.inl hp, ht⟩

/-- A report with the handle against a motion short of its limit ends it PREEMPTED-LOCAL (R61, R65). -/
theorem Door.endTested_of_against {tolerance : Nat} {m : Motion} (hs : x.Shows r)
    (hl : r.limit m.dir = false ∨ r.doorState = .disagree) (ha : r.handleAgainst m.dir = true) :
    x.endTested held now tolerance m r = (x.preempted held).closeChecked held now .order := by
  unfold Door.endTested
  rw [if_neg, if_pos ha]
  rintro ⟨h1, h2⟩
  rcases hl with hl | hl
  · simp [hl] at h1
  · exact h2 (hs.state.trans hl)

/-- A close preempted under an order is HELD-LOCAL at once. -/
theorem Door.endTested_of_open {tolerance : Nat} {m : Motion} (hs : x.Shows r) (hheld : held = true)
    (hh : r.handle = .openSide) (hd : m.dir = .closing) (hl : r.closedLimit = false) :
    x.endTested held now tolerance m r = x.preempted true := by
  rw [Door.endTested_of_against hs (.inl (by rw [hd]; exact hl)) (by simp [hd, Report.handleAgainst, hh]), hheld]
  exact Door.closeChecked_of_done (.inr (.inl (by simp [Door.preempted])))

/-- A move that starts with the report and opens ends at its limit, or runs on. -/
theorem Door.endTested_of_opening {tolerance : Nat} {a : Admission} (hs : x.Shows r) (hh : r.handle = .openSide)
    (hd : a.dir = .opening) :
    ((x.endTested held now tolerance (a.toMotion now r.position) r).phase = x.phase)
      ∨ (((x.endTested held now tolerance (a.toMotion now r.position) r).phase = .idle
          ∨ (x.endTested held now tolerance (a.toMotion now r.position) r).phase = .heldLocal)
        ∧ (x.endTested held now tolerance (a.toMotion now r.position) r).timer = .none) := by
  have hmd : (a.toMotion now r.position).dir = .opening := hd
  unfold Door.endTested
  split
  · exact .inr (Door.closeChecked_of_open ((x.reached_carries _).shows hs) hh rfl rfl)
  rw [if_neg (by simp [hmd, Report.handleAgainst, hh]), if_neg (by simp [hmd]), if_neg (by simp [a.toMotion_stalls])]
  exact .inl rfl

/-- Without a move a report ends only the wait for a retry and FAILED. -/
theorem Door.motioned_of_none {tolerance : Nat} (hm : x.move = .none) :
    x.motioned held now tolerance r = x
      ∨ ((x.phase = .retryWait ∨ x.phase = .failed)
        ∧ x.motioned held now tolerance r = { x with phase := .idle, timer := .none, retry := 0 }) := by
  by_cases hp : x.phase = .retryWait ∨ x.phase = .failed
  · unfold Door.motioned
    rw [hm]
    rcases hp with hp | hp <;> simp only [hp] <;> split <;> simp_all
  · exact .inl (Door.motioned_of_still hm (fun k => hp (.inl k)) fun k => hp (.inr k))

/-- What motion leaves of a record, of phase `p` and with a move in direction `dir`, under a handle that is about to
hold it: it is not FAILED, and a close is still under way or HALTED. -/
structure Door.ReadyToHold (p : Phase) (dir : Option Dir) (y : Door) : Prop where
  phase : y.phase ≠ .failed
  timer : y.phase = .heldLocal → p = .heldLocal ∨ y.timer = .none
  warning : p = .warning → y.phase = .warning
  driving : p = .driving → dir = some .closing → y.phase = .driving ∨ (y.phase = .heldLocal ∧ y.slot = .halt)

theorem Door.ReadyToHold.of_idle {p : Phase} {dir : Option Dir} {y : Door} (h : y.phase = .idle) (hw : p ≠ .warning)
    (hd : p = .driving → dir ≠ some .closing) : y.ReadyToHold p dir :=
  ⟨by simp [h], fun k => by simp [h] at k, fun k => absurd k hw, fun k1 k2 => absurd k2 (hd k1)⟩

theorem Door.ReadyToHold.of_same {p : Phase} {dir : Option Dir} {y : Door} (h : y.phase = p) (hf : p ≠ .failed) :
    y.ReadyToHold p dir :=
  ⟨h ▸ hf, fun k => .inl (h ▸ k), fun k => h.trans k, fun k _ => .inl (h.trans k)⟩

theorem Door.motioned_readyToHold {tolerance : Nat} (hflow : x.flowWf = true) (hheld : held = true)
    (hh : r.handle = .openSide) (hcl : ∀ m, x.move = .started m → m.dir = .closing) (hlim : r.closedLimit = false)
    (hf : x.phase ≠ .failed) :
    ((x.heard now r).motioned held now tolerance r).ReadyToHold x.phase x.move.dir := by
  have hs := x.heard_shows now r
  have hphase := x.heard_phase now r
  have hmove := x.heard_move now r
  have hnc := Report.doorState_ne_closed hlim
  have same : (x.heard now r).ReadyToHold x.phase x.move.dir := .of_same hphase hf
  have stop : ∀ m, x.moveAfter now r = .started m → m.dir = .closing → x.phase = .driving →
      ((x.heard now r).motioned held now tolerance r).ReadyToHold x.phase x.move.dir := fun m hm hd hp => by
    rw [Door.motioned_of_started (hmove.trans hm), Door.endTested_of_open hs hheld hh hd hlim]
    exact ⟨nofun, fun _ => .inr rfl, fun k => by simp [hp] at k, fun _ _ => .inr ⟨rfl, rfl⟩⟩
  rcases x.flowWf_iff.mp hflow with ⟨hp, -, hm⟩ | ⟨hp, -, a, hm, hd⟩ | ⟨hp, -, hm⟩ | ⟨hp, -, hm⟩
  · rw [Door.motioned_of_still (hmove.trans (Door.moveAfter_none hm)) (by simp [hp]) (by simp [hp])]
    exact same
  · have hst : (x.heard now r).state ≠ a.dir.endState := by
      rw [hs.state, hd]
      exact hnc
    rcases Door.moveAfter_warning (now := now) (r := r) hp hm with k | k
    · rw [Door.motioned_of_admitted (hmove.trans k) hst]
      exact same
    · rw [Door.motioned_of_admitted (hmove.trans k) hst]
      exact same
  · cases hmv : x.move with
    | none => exact absurd hmv hm
    | started m =>
      rw [← hmv]
      exact stop m (Door.moveAfter_started hmv) (hcl m hmv) hp
    | admitted a =>
      rcases Door.moveAfter_driving (now := now) (r := r) hp hmv with k | k
      · by_cases hst : (x.heard now r).state = a.dir.endState
        · refine .of_idle ?_ (by simp [hp]) fun _ hd => ?_
          · unfold Door.motioned
            rw [hmove, k]
            exact congrArg Door.phase (if_pos hst)
          · obtain hd : a.dir = .closing := Option.some.inj hd
            rw [hs.state, hd] at hst
            exact hnc hst
        · rw [Door.motioned_of_admitted (hmove.trans k) hst]
          exact hmv ▸ same
      · cases hd : a.dir with
        | closing =>
          rw [← hmv]
          exact stop _ k hd hp
        | opening =>
          rw [Door.motioned_of_started (hmove.trans k)]
          have hno : ∀ {c : Prop}, (Move.admitted a).dir = some .closing → c := fun k' => by simp [Move.dir, hd] at k'
          rcases Door.endTested_of_opening (held := held) (now := now) (tolerance := tolerance) hs hh hd with e | ⟨e, et⟩
          · exact .of_same (e.trans hphase) hf
          · refine ⟨?_, fun _ => .inr et, fun k' => by simp [hp] at k', fun _ => hno⟩
            rcases e with e | e <;> simp [e]
  · rcases Door.motioned_of_none (held := held) (now := now) (tolerance := tolerance) (r := r)
      (hmove.trans (Door.moveAfter_none hm)) with k | ⟨k', k⟩
    · rw [k]
      exact same
    · rw [k]
      refine .of_idle rfl (fun e => ?_) fun e => ?_
      all_goals
        rw [hphase, e] at k'
        simp at k'

/-- Stages 1 to 6 keep phase, entry and move consistent. -/
theorem Door.worked_flow (hf : x.flowWf = true) (hl : x.LinkWf) (hb : x.binding ≠ none) :
    (x.worked held now v g r).flowWf = true := by
  have h1 : Door.Chain held x (x.reported r) :=
    (Relation.ReflTransGen.single (Door.Op.report x r hb)).tail (.conds _ _)
  have h6 : Door.Chain held x (x.worked held now v g r) :=
    ((h1.trans (Door.echoed_chain held now r _)).trans (Door.motioned_chain held now _ r _)).trans
      (Door.handled_chain held now _ r _)
  exact (h6.keeps_flow ⟨hf, hl⟩).1

/-- The record that the handle holds (R18). -/
theorem Door.worked_of_hold (hflow : x.flowWf = true) (hh : held = true ∧ r.handle = .openSide)
    (hcl : ∀ m, x.move = .started m → m.dir = .closing) (hlim : r.closedLimit = false) (hf : x.phase ≠ .failed) :
    (x.worked held now v g r).phase = .heldLocal
      ∧ (x.phase ≠ .heldLocal → (x.worked held now v g r).timer = .none)
      ∧ (x.phase = .warning → (x.worked held now v g r).slot = .warnOff)
      ∧ (x.phase = .driving → x.move.dir = some .closing → (x.worked held now v g r).slot = .halt) := by
  obtain ⟨y, hy⟩ : ∃ y, y = (x.heard now r).motioned held now g.lagTolerance r := ⟨_, rfl⟩
  have hw : x.worked held now v g r = y.heldBy := by
    rw [hy]
    exact Door.handled_of_held hh
  obtain ⟨hp, ht, hwarn, hdrive⟩ : y.ReadyToHold x.phase x.move.dir :=
    hy ▸ Door.motioned_readyToHold hflow hh.1 hh.2 hcl hlim hf
  obtain ⟨kp, kt, ksame, kw, kd⟩ := y.heldBy_fields hp
  rw [hw]
  refine ⟨kp, fun hx => ?_, fun hx => kw (hwarn hx), fun hx hd => ?_⟩
  · by_cases hyl : y.phase = .heldLocal
    · rw [ksame hyl]
      exact (ht hyl).resolve_left hx
    · exact kt hyl
  · rcases hdrive hx hd with h | ⟨h, hs⟩
    · exact kd h
    · rw [ksame h]
      exact hs

/-! ### Other reports of the handle (R20, R22, R65) -/

/-- A record without a move that no rule of the handle concerns. -/
theorem Door.worked_of_quiet (hm : x.move = .none) (hr : x.phase ≠ .retryWait) (hf : x.phase ≠ .failed)
    (hh : ¬(held = true ∧ r.handle = .openSide)) (hl : x.phase = .heldLocal → r.handle ≠ .idle)
    (hd : x.phase = .dwell → r.doorState ≠ .closed) : x.worked held now v g r = x.heard now r := by
  rw [Door.worked_of_still hm hr hf]
  refine Door.handled_of_free hh (by simpa using hl) ?_
  rw [Door.heard_phase, (x.heard_shows now r).state]
  exact hd

/-- A record with an admission that its report leaves standing: not at its end, and not held by the handle. -/
theorem Door.worked_of_admitted {a : Admission} (hp : x.phase = .warning ∨ x.phase = .driving)
    (hm : x.moveAfter now r = .admitted a) (hs : r.doorState ≠ a.dir.endState)
    (hh : ¬(held = true ∧ r.handle = .openSide)) : x.worked held now v g r = x.heard now r := by
  have hs' : (x.heard now r).state ≠ a.dir.endState := by rwa [(x.heard_shows now r).state]
  unfold Door.worked
  rw [Door.motioned_of_admitted ((x.heard_move now r).trans hm) hs']
  refine Door.handled_of_free hh ?_ ?_ <;> rw [Door.heard_phase] <;> intro k <;> simp [k] at hp

/-- A motion that the handle ends without an order (R65). -/
theorem Door.worked_of_preempted {m : Motion} (hm : x.move = .started m) (hheld : held = false)
    (hl : r.limit m.dir = false ∨ r.doorState = .disagree) (ha : r.handleAgainst m.dir = true) :
    x.worked held now v g r = (x.heard now r).preempted false := by
  have hp : ((x.heard now r).preempted false).phase = .idle := rfl
  unfold Door.worked
  rw [Door.motioned_of_started ((x.heard_move now r).trans (Door.moveAfter_started hm)),
    Door.endTested_of_against (x.heard_shows now r) hl ha, hheld, Door.closeChecked_of_done (.inl rfl)]
  exact Door.handled_of_free (by simp) (by simp [hp]) (by simp [hp])

/-- The handle released in HELD-LOCAL (R20). -/
theorem Door.worked_of_released (hp : x.phase = .heldLocal) (hm : x.move = .none) (hh : r.handle = .idle) :
    x.worked held now v g r =
      if r.doorState = .closed then { x.heard now r with phase := .idle, timer := .none }
      else if v.recloseDwell = 0 then
        ({ x.heard now r with phase := .idle, timer := .none } : Door).closeChecked held now .reclose
      else
        { x.heard now r with phase := .dwell, timer := .dwell (now + BitVec.ofNat 32 v.recloseDwell) } := by
  rw [Door.worked_of_still hm (by simp [hp]) (by simp [hp]), ← (x.heard_shows now r).state]
  unfold Door.handled
  rw [if_neg (by simp [hh]), if_pos ⟨(x.heard_phase now r).trans hp, hh⟩]

/-- DWELL ends at a report of the closed position (R22). -/
theorem Door.worked_of_dwellClosed (hp : x.phase = .dwell) (hm : x.move = .none)
    (hh : ¬(held = true ∧ r.handle = .openSide)) (hc : r.doorState = .closed) :
    x.worked held now v g r = { x.heard now r with phase := .idle, timer := .none } := by
  rw [Door.worked_of_still hm (by simp [hp]) (by simp [hp])]
  unfold Door.handled
  rw [if_neg hh, if_neg (by simp [hp]), if_pos ⟨(x.heard_phase now r).trans hp, (x.heard_shows now r).state.trans hc⟩]

end

/-- The door at the end of the event, where its report leaves nothing to close and no entry. -/
theorem State.TakesPoll.door_of_done {s t : State} {b : BranchId} {q : Poll} {d : Slot} {held : Bool} {now : Time}
    {v : DoorRec} {g : GroupRec} {r : Report} {x : Door} (hT : s.TakesPoll t b q d (x.replied held now v g r))
    (he : (x.worked held now v g r).entry = none)
    (h : held = false ∨ (x.worked held now v g r).phase ≠ .idle ∨ r.atClosed
      ∨ (x.replied held now v g r).conds.travelTimeout ≠ none) :
    t.doors[d] = { x.worked held now v g r with conds := t.doors[d].conds } := by
  obtain ⟨-, -, -, -, kc, -⟩ := hT.door.keeps
  have hx := Door.replied_of_done h
  have := hT.door.of_no_entry (by rw [hx]; exact he)
  rw [kc, this, hx]
  rfl

/-! ### The rules of the handle at the end of the event -/

section

variable {s t : State} {b : BranchId} {q : Poll} {d : Slot} {held : Bool} {now : Time} {v : DoorRec} {g : GroupRec}
  {r : Report} {x : Door}

/-- OPEN-SIDE under an order (R18, R19, R23). -/
theorem State.TakesPoll.of_hold (hT : s.TakesPoll t b q d (x.replied held now v g r)) (hflow : x.flowWf = true)
    (hlink : x.LinkWf) (hb : x.binding ≠ none) (hh : held = true ∧ r.handle = .openSide)
    (hcl : ∀ m, x.move = .started m → m.dir = .closing) (hlim : r.closedLimit = false) (hf : x.phase ≠ .failed) :
    t.doors[d].phase = .heldLocal ∧ t.doors[d].entry = none ∧ t.doors[d].move = .none
      ∧ (x.phase ≠ .heldLocal → t.doors[d].timer = .none) ∧ t.doors[d].conds.localOpen = true
      ∧ (x.phase = .warning → t.doors[d].slot = .warnOff)
      ∧ (x.phase = .driving → x.move.dir = some .closing → t.doors[d].slot = .halt) := by
  obtain ⟨hp, ht, hw, hd⟩ := Door.worked_of_hold (now := now) (v := v) (g := g) hflow hh hcl hlim hf
  obtain ⟨he, hm⟩ := Door.flowWf_rests (Door.worked_flow (held := held) (now := now) (v := v) (g := g) (r := r)
    hflow hlink hb) (by rw [hp]; rfl)
  have hdoor := hT.door_of_done he (.inr (.inl (by simp [hp])))
  have hlo : t.doors[d].conds.localOpen = true := by
    obtain ⟨-, -, -, -, kc, -⟩ := hT.door.keeps
    have hst := (x.worked_shows held now v g r).state
    rw [kc, Door.replied_conds, Door.judgedConds_eq]
    unfold Door.localAfter
    rw [hst, if_neg (Report.doorState_ne_closed hlim), if_pos ⟨hh.1, .inl hp⟩]
  refine ⟨?_, ?_, ?_, ?_, hlo, ?_, ?_⟩ <;> rw [hdoor]
  exacts [hp, he, hm, ht, hw, hd]

/-- A record without entry and move that no rule of the report concerns. -/
theorem State.TakesPoll.of_quiet (hT : s.TakesPoll t b q d (x.replied held now v g r)) (he : x.entry = none)
    (hm : x.move = .none) (hp : x.phase = .heldLocal ∧ r.handle = .closeSide
      ∨ x.phase = .dwell ∧ r.doorState ≠ .closed ∧ ¬(held = true ∧ r.handle = .openSide)) :
    t.doors[d].phase = x.phase ∧ t.doors[d].entry = none ∧ t.doors[d].move = .none
      ∧ t.doors[d].timer = x.timer := by
  have hw : x.worked held now v g r = x.heard now r := by
    rcases hp with ⟨hp, hh⟩ | ⟨hp, hc, hh⟩
    · exact Door.worked_of_quiet hm (by simp [hp]) (by simp [hp]) (by simp [hh]) (by simp [hh]) (by simp [hp])
    · exact Door.worked_of_quiet hm (by simp [hp]) (by simp [hp]) hh (by simp [hp]) fun _ => hc
  have hdoor := hT.door_of_done (by rw [hw, Door.heard_entry, he]) (.inr (.inl (by
    rw [hw, Door.heard_phase]
    rcases hp with ⟨hp, -⟩ | ⟨hp, -⟩ <;> simp [hp])))
  rw [hdoor, hw]
  exact ⟨x.heard_phase now r, (x.heard_entry now r).trans he,
    (x.heard_move now r).trans (Door.moveAfter_none hm), x.heard_timer now r⟩

/-- A report that brings a record without entry and move to IDLE, and leaves nothing to close. -/
theorem State.TakesPoll.of_idle (hT : s.TakesPoll t b q d (x.replied held now v g r)) (he : x.entry = none)
    (hw : x.worked held now v g r = { x.heard now r with phase := .idle, timer := .none })
    (h : held = false ∨ r.atClosed ∨ (x.replied held now v g r).conds.travelTimeout ≠ none) :
    t.doors[d].phase = .idle ∧ t.doors[d].timer = .none ∧ t.doors[d].entry = none := by
  have hdoor := hT.door_of_done (by rw [hw]; exact (x.heard_entry now r).trans he) (h.imp_right .inr)
  rw [hdoor, hw]
  exact ⟨rfl, rfl, (x.heard_entry now r).trans he⟩

/-- A released handle with a reclose dwell of 0 (R20): a close at once. -/
theorem State.TakesPoll.of_reclose (hT : s.TakesPoll t b q d (x.replied held now v g r)) (hu : t.uptime = now)
    (hp : x.phase = .heldLocal) (hm : x.move = .none) (hh : r.handle = .idle) (hz : v.recloseDwell = 0)
    (hheld : held = true) (ht : x.conds.travelTimeout = none) (hac : ¬r.atClosed) :
    t.WorksNow d .closing .reclose .order := by
  have hs := x.heard_shows now r
  have hmv : (x.heard now r).move = .none := (x.heard_move now r).trans (Door.moveAfter_none hm)
  have hw : x.worked held now v g r =
      { ({ x.heard now r with phase := .idle, timer := .none } : Door).enqueued now .closing .reclose .order with
        retry := 0 } := by
    rw [Door.worked_of_released hp hm hh, if_neg fun k => hac (.inl k), if_pos hz]
    exact Door.closeChecked_of_needed (o := .reclose) ⟨hs.link, hs.report⟩ hheld hac rfl
      ((x.heard_dirOf now r .travelTimeout).trans ht) (by simp [hh]) hmv
  have hx : x.replied held now v g r = x.judged held now v g r :=
    Door.replied_of_done (.inr (.inl (by rw [hw]; simp [Door.enqueued])))
  have hdoor := hT.door
  rw [hx, x.judged_eq, hw] at hdoor
  rw [State.WorksNow, hu]
  exact hdoor.worksOn rfl rfl hmv rfl (.inl rfl)

/-- A released handle with a reclose dwell of 0 where the door need not or may not be closed (R16, R20). -/
theorem State.TakesPoll.of_noReclose (hT : s.TakesPoll t b q d (x.replied held now v g r)) (hp : x.phase = .heldLocal)
    (he : x.entry = none) (hm : x.move = .none) (hh : r.handle = .idle) (hc : r.doorState ≠ .closed)
    (hz : v.recloseDwell = 0)
    (hno : held = false ∨ x.conds.travelTimeout = some .closing ∨ r.atClosed) :
    t.doors[d].phase = .idle ∧ t.doors[d].timer = .none ∧ t.doors[d].entry = none := by
  have hs := x.heard_shows now r
  have htt : (x.heard now r).conds.travelTimeout = x.conds.travelTimeout := x.heard_dirOf now r .travelTimeout
  have hw : x.worked held now v g r = { x.heard now r with phase := .idle, timer := .none } := by
    rw [Door.worked_of_released hp hm hh, if_neg hc, if_pos hz]
    refine Door.closeChecked_of_done ?_
    rcases hno with k | k | k
    · exact .inl k
    · exact .inr (.inr (.inr (by simp [htt, k])))
    · refine .inr (.inr (.inl ?_))
      exact Door.Shows.atClosed (x := { x.heard now r with phase := .idle, timer := .none }) ⟨hs.link, hs.report⟩ |>.mpr k
  refine hT.of_idle he hw ?_
  rcases hno with k | k | k
  · exact .inl k
  · refine .inr (.inr ?_)
    rw [Door.replied_conds, Door.judgedConds_eq, (x.worked_shows held now v g r).state, hw]
    dsimp only
    rw [htt, k]
    have hk : r.doorState.drops (some .closing) = some .closing := if_neg fun e => hc (Option.some.inj e).symm
    rw [hk]
    nofun
  · exact .inr (.inl k)

/-- A released handle with a reclose dwell (R20). -/
theorem State.TakesPoll.of_dwell (hT : s.TakesPoll t b q d (x.replied held now v g r)) (hp : x.phase = .heldLocal)
    (he : x.entry = none) (hm : x.move = .none) (hh : r.handle = .idle) (hc : r.doorState ≠ .closed)
    (hz : 0 < v.recloseDwell) :
    t.doors[d].phase = .dwell ∧ t.doors[d].timer = .dwell (now + BitVec.ofNat 32 v.recloseDwell) := by
  have hw := Door.worked_of_released (held := held) (now := now) (v := v) (g := g) hp hm hh
  rw [if_neg hc, if_neg (Nat.pos_iff_ne_zero.mp hz)] at hw
  have hdoor := hT.door_of_done (by rw [hw]; exact (x.heard_entry now r).trans he) (.inr (.inl (by rw [hw]; nofun)))
  rw [hdoor, hw]
  exact ⟨rfl, rfl⟩

/-- A motion ended by the handle without an order (R65). -/
theorem State.TakesPoll.of_preempted (hT : s.TakesPoll t b q d (x.replied held now v g r)) {m : Motion}
    (he : x.entry = none) (hm : x.move = .started m) (hheld : held = false) (ha : r.handleAgainst m.dir = true)
    (hl : r.limit m.dir = false ∨ r.doorState = .disagree) :
    t.doors[d].phase = .idle ∧ t.doors[d].move = .none ∧ t.doors[d].slot = .halt
      ∧ t.doors[d].retry = x.retry ∧ t.doors[d].timer = .none := by
  have hw := Door.worked_of_preempted (now := now) (v := v) (g := g) hm hheld hl ha
  have hdoor := hT.door_of_done (by rw [hw]; exact (x.heard_entry now r).trans he) (.inl hheld)
  rw [hdoor, hw]
  exact ⟨rfl, rfl, rfl, x.heard_retry now r, rfl⟩

/-- An entry stands at a report without an order, or is admitted (R51, R56). -/
theorem State.TakesPoll.of_queued (hT : s.TakesPoll t b q d (x.replied held now v g r)) (ho : t.orderHeld d = false)
    (hheld : held = false) (hflow : x.flowWf = true) {en : Entry} (he : x.entry = some en) (htm : x.timer = .none) :
    t.WorksOn d en := by
  obtain ⟨hp, hm⟩ : x.phase = .queued ∧ x.move = .none := by
    rcases x.flowWf_iff.mp hflow with ⟨hp, -, hm⟩ | ⟨-, k, -⟩ | ⟨-, k, -⟩ | ⟨-, k, -⟩
    · exact ⟨hp, hm⟩
    all_goals
      rw [he] at k
      cases k
  have hw : x.worked held now v g r = x.heard now r :=
    Door.worked_of_quiet hm (by simp [hp]) (by simp [hp]) (by simp [hheld]) (by simp [hp]) (by simp [hp])
  have hdoor := hT.door
  rw [Door.replied_of_done (.inl hheld), x.judged_eq, hw] at hdoor
  exact hdoor.worksOn ((x.heard_phase now r).trans hp) ((x.heard_entry now r).trans he)
    ((x.heard_move now r).trans (Door.moveAfter_none hm)) ((x.heard_timer now r).trans htm) (.inr ho)

/-- An admission stands at a report that neither shows its end nor has the handle hold it; the echo is taken. -/
theorem State.TakesPoll.of_admitted (hT : s.TakesPoll t b q d (x.replied held now v g r)) (hflow : x.flowWf = true)
    {a : Admission} (hx : x.move ≠ .none) (hm : x.moveAfter now r = .admitted a)
    (hst : r.doorState ≠ a.dir.endState) (hh : ¬(held = true ∧ r.handle = .openSide)) :
    t.doors[d].move = .admitted a ∧ t.doors[d].phase = x.phase
      ∧ t.doors[d].slot = if x.slot = r.echo then .none else x.slot := by
  obtain ⟨hp, he⟩ : (x.phase = .warning ∨ x.phase = .driving) ∧ x.entry = none := by
    rcases x.flowWf_iff.mp hflow with ⟨-, -, k⟩ | ⟨hp, he, -⟩ | ⟨hp, he, -⟩ | ⟨-, -, k⟩
    · exact absurd k hx
    · exact ⟨.inl hp, he⟩
    · exact ⟨.inr hp, he⟩
    · exact absurd k hx
  have hw := Door.worked_of_admitted (v := v) (g := g) hp hm hst hh
  have hdoor := hT.door_of_done (by rw [hw, Door.heard_entry, he]) (.inr (.inl (by
    rw [hw, Door.heard_phase]
    rcases hp with hp | hp <;> simp [hp])))
  rw [hdoor, hw]
  exact ⟨(x.heard_move now r).trans hm, x.heard_phase now r, x.heard_slot now r⟩

end

/-- Settles O50: each clause is a rule of the report's stage 6 or, for a started motion, of its end tests. -/
theorem openedHandlesHoldTheDoor : Obligations.OpenedHandlesHoldTheDoor := by
  intro s b bytes q r d v hpow hp hq hr hd hv hb hflow hlink
  obtain ⟨t, hexec, hT⟩ := State.reply_takesPoll hpow hp hq hr hd hv hb
  have hbind : s.doors[d].binding ≠ none := by
    obtain ⟨-, -, -, ha⟩ := State.doorAt_some hd
    exact Option.ne_none_iff_exists'.mpr ⟨_, ha⟩
  have rests : ∀ {p : Phase}, s.doors[d].phase = p → p.rests = true → s.doors[d].entry = none ∧ s.doors[d].move = .none :=
    fun hx hr => Door.flowWf_rests hflow (hx ▸ hr)
  refine ⟨t, hexec, fun hh hcl hlim hf => hT.of_hold hflow hlink hbind hh hcl hlim hf, fun hx hh => ?_, fun hx hh => ?_,
    fun hx hh => ⟨fun hc => ?_, fun hc => ?_⟩, fun hheld => ⟨fun m hm ha hl => ?_, fun en hen htm => ?_,
    fun a hm hnd hst => ?_⟩⟩
  · obtain ⟨he, hm⟩ := rests hx rfl
    obtain ⟨kp, ke, km, -⟩ := hT.of_quiet he hm (.inl ⟨hx, hh⟩)
    exact ⟨kp.trans hx, ke, km⟩
  · obtain ⟨he, hm⟩ := rests hx rfl
    refine ⟨fun hc => ?_, fun hc hz => ⟨fun hheld ht hac => ?_, fun hno => ?_⟩, fun hc hz => ?_⟩
    · have hw := Door.worked_of_released (held := s.orderHeld d) (now := s.uptime) (v := v) (g := s.groupRec v.group)
        hx hm hh
      rw [if_pos hc] at hw
      obtain ⟨kp, kt, -⟩ := hT.of_idle he hw (.inr (.inl (.inl hc)))
      exact ⟨kp, kt⟩
    · exact hT.of_reclose hT.uptime hx hm hh hz hheld ht hac
    · exact hT.of_noReclose hx he hm hh hc hz hno
    · exact hT.of_dwell hx he hm hh hc hz
  · obtain ⟨he, hm⟩ := rests hx rfl
    obtain ⟨kp, kt, -⟩ := hT.of_idle he (Door.worked_of_dwellClosed hx hm hh hc) (.inr (.inl (.inl hc)))
    exact ⟨kp, kt⟩
  · obtain ⟨he, hm⟩ := rests hx rfl
    obtain ⟨kp, -, -, kt⟩ := hT.of_quiet he hm (.inr ⟨hx, hc, hh⟩)
    exact ⟨kp.trans hx, kt⟩
  · exact hT.of_preempted (Door.flowWf_move hflow (by rw [hm]; nofun)) hm hheld ha hl
  · exact hT.of_queued (hT.orderHeld.trans hheld) hheld hflow hen htm
  · obtain ⟨km, kp, -⟩ := hT.of_admitted hflow (by rw [hm]; nofun) ((Door.moveAfter_of_not_delivers hnd).trans hm) hst
      (by simp [hheld])
    exact ⟨km, kp⟩

end Sys2Proof.Machine
end

section
/-! SUPPORT. Deliveries, the start of leads and motions, and motions that end REACHED (R27, R57 to R62, R67). -/

namespace Sys2Proof.Machine

open Sys2Proof

section

variable {held : Bool} {now : Time} {v : DoorRec} {g : GroupRec} {r : Report} {x : Door}

/-- A delivery of WARN-ON in WARNING starts the warning lead, if it does not run yet (R57). -/
theorem Door.moveAfter_warnOn {a : Admission} (hp : x.phase = .warning) (hm : x.move = .admitted a)
    (hs : x.slot = .warnOn) (he : r.echo = .warnOn) :
    x.moveAfter now r = .admitted { a with leadStart := some (a.leadStart.getD now) } := by
  unfold Door.moveAfter Door.deliver
  rw [if_pos ⟨by simp [hs], he.trans hs.symm⟩]
  cases hl : a.leadStart <;> simp [hp, hm, hs, hl]
  rw [← hl]

/-- A delivery of its command in DRIVING starts the motion (R60). -/
theorem Door.moveAfter_command {a : Admission} (hp : x.phase = .driving) (hm : x.move = .admitted a)
    (hs : x.slot = a.dir.command) (he : r.echo = a.dir.command) :
    x.moveAfter now r = .started (a.toMotion now r.position) := by
  have hne : a.dir.command ≠ .none := by cases a.dir <;> nofun
  unfold Door.moveAfter Door.deliver
  rw [if_pos ⟨by rwa [hs], he.trans hs.symm⟩]
  simp [hp, hm, hs]

/-- A report that shows no end lets the motion that starts with it run (R61, R83). -/
theorem Door.worked_of_start {a : Admission} (hp : x.phase = .driving)
    (hm : x.moveAfter now r = .started (a.toMotion now r.position)) (hh : r.handle = .idle)
    (hl : r.limit a.dir = false) (ho : r.obstruction = false) :
    x.worked held now v g r = x.heard now r := by
  have hmd : (a.toMotion now r.position).dir = a.dir := rfl
  have hag : r.handleAgainst a.dir = false := by cases hd : a.dir <;> simp [Report.handleAgainst, hh]
  have hlag : (a.toMotion now r.position).lagAfter now r.position g.lagTolerance = 0 := by
    unfold Motion.lagAfter
    rw [a.toMotion_since]
    rfl
  have he : (x.heard now r).endTested held now g.lagTolerance (a.toMotion now r.position) r = x.heard now r := by
    unfold Door.endTested
    rw [hmd, hlag, if_neg (by simp [hl]), if_neg (by simp [hag]), if_neg (by simp [ho]), if_neg (by simp [a.toMotion_stalls])]
    exact congrArg (fun mv => { x.heard now r with move := mv }) ((x.heard_move now r).trans hm).symm
  unfold Door.worked
  rw [Door.motioned_of_started ((x.heard_move now r).trans hm), he]
  exact Door.handled_of_free (by simp [hh]) (by simp [hp]) (by simp [hp])

/-- Without an order the handle changes only phase and timer. -/
theorem Door.handled_of_unordered {dwell : Nat} (hheld : held = false) :
    (x.handled held now dwell r).slot = x.slot ∧ (x.handled held now dwell r).move = x.move
      ∧ (x.handled held now dwell r).entry = x.entry := by
  unfold Door.handled
  rw [if_neg (by simp [hheld]), Door.closeChecked_of_done (.inl hheld)]
  repeat' split
  all_goals exact ⟨rfl, rfl, rfl⟩

/-- Without a move and without an order a report changes neither slot nor move further than its echo. -/
theorem Door.worked_of_unordered (hm : x.move = .none) (hheld : held = false) :
    (x.worked held now v g r).slot = (x.heard now r).slot ∧ (x.worked held now v g r).move = .none
      ∧ (x.worked held now v g r).entry = x.entry := by
  have hmv := (x.heard_move now r).trans (Door.moveAfter_none hm)
  have hmo : ∀ y, y = (x.heard now r).motioned held now g.lagTolerance r →
      y.slot = (x.heard now r).slot ∧ y.move = .none ∧ y.entry = x.entry := by
    rintro y rfl
    rcases Door.motioned_of_none (held := held) (now := now) (tolerance := g.lagTolerance) (r := r) hmv with k | ⟨-, k⟩ <;>
      rw [k] <;> exact ⟨rfl, hmv, x.heard_entry now r⟩
  obtain ⟨hs, hmm, he⟩ := hmo _ rfl
  obtain ⟨ks, km, ke⟩ := Door.handled_of_unordered (now := now) (r := r) (dwell := v.recloseDwell)
    (x := (x.heard now r).motioned held now g.lagTolerance r) hheld
  exact ⟨ks.trans hs, km.trans hmm, ke.trans he⟩

/-- A report at the limit of a started motion, with the handle IDLE and no DISAGREE, ends it REACHED (R14, R61, R62). -/
theorem Door.worked_of_reached {m : Motion} (hm : x.move = .started m) (hl : r.limit m.dir = true)
    (hd : r.doorState ≠ .disagree) (hh : r.handle = .idle) (h : held = false ∨ r.atClosed) :
    x.worked held now v g r = (x.heard now r).reached m.dir := by
  have hs := x.heard_shows now r
  have hp : ((x.heard now r).reached m.dir).phase = .idle := rfl
  have hsr := (Door.reached_carries m.dir (x.heard now r)).shows hs
  have he : (x.heard now r).endTested held now g.lagTolerance m r = (x.heard now r).reached m.dir := by
    unfold Door.endTested
    rw [if_pos ⟨hl, by rwa [hs.state]⟩]
    exact Door.closeChecked_of_done (h.imp_right fun k => .inr (.inl (hsr.atClosed.mpr k)))
  unfold Door.worked
  rw [Door.motioned_of_started ((x.heard_move now r).trans (Door.moveAfter_started hm)), he]
  exact Door.handled_of_free (by simp [hh]) (by simp [hp]) (by simp [hp])

end

/-- At the closed limit, without DISAGREE and without an opening motion, the door is at its closed position (R16). -/
theorem Report.atClosed_of_limit {r : Report} (hl : r.closedLimit = true) (hd : r.doorState ≠ .disagree)
    (hm : r.motion ≠ .opening) : r.atClosed := by
  unfold Report.atClosed
  unfold Report.doorState at hd ⊢
  split
  · next h => exact absurd (if_pos h) hd
  · cases hmo : r.motion
    all_goals simp_all

section

variable {s t : State} {b : BranchId} {q : Poll} {d : Slot} {held : Bool} {now : Time} {v : DoorRec} {g : GroupRec}
  {r : Report} {x : Door}

/-- A motion that its report starts, at the end of the event (R60). -/
theorem State.TakesPoll.of_start (hT : s.TakesPoll t b q d (x.replied held now v g r)) (he : x.entry = none)
    {a : Admission} (hp : x.phase = .driving) (hm : x.moveAfter now r = .started (a.toMotion now r.position))
    (hh : r.handle = .idle) (hl : r.limit a.dir = false) (ho : r.obstruction = false) :
    t.doors[d].phase = .driving ∧ t.doors[d].move = .started (a.toMotion now r.position)
      ∧ t.doors[d].slot = if x.slot = r.echo then .none else x.slot := by
  have hw := Door.worked_of_start (held := held) (v := v) (g := g) hp hm hh hl ho
  have hdoor := hT.door_of_done (by rw [hw, Door.heard_entry, he]) (.inr (.inl (by rw [hw, Door.heard_phase, hp]; nofun)))
  rw [hdoor, hw]
  exact ⟨(x.heard_phase now r).trans hp, (x.heard_move now r).trans hm, x.heard_slot now r⟩

/-- A motion that its report ends REACHED, at the end of the event (R14, R62). -/
theorem State.TakesPoll.of_reached (hT : s.TakesPoll t b q d (x.replied held now v g r)) (he : x.entry = none)
    {m : Motion} (hm : x.move = .started m) (hl : r.limit m.dir = true)
    (hd : r.doorState ≠ .disagree) (hh : r.handle = .idle) (h : held = false ∨ r.atClosed) :
    t.doors[d].move = .none ∧ t.doors[d].retry = 0 ∧ t.doors[d].phase = .idle
      ∧ ∀ k, t.doors[d].conds.dirOf k ≠ some m.dir := by
  obtain ⟨-, -, -, -, kc, -⟩ := hT.door.keeps
  have hw := Door.worked_of_reached (now := now) (v := v) (g := g) hm hl hd hh h
  have hdoor := hT.door_of_done (by rw [hw]; exact (x.heard_entry now r).trans he) (h.imp_right fun k => .inr (.inl k))
  have hk : ∀ k, t.doors[d].conds.dirOf k ≠ some m.dir := fun k => by
    rw [kc, Door.replied_conds, Door.judgedConds_dirOf, hw]
    exact DoorState.drops_ne (Conds.withoutEnds_dirOf_ne _ _ k)
  refine ⟨?_, ?_, ?_, hk⟩ <;> rw [hdoor, hw] <;> rfl

end

/-- Settles O48: the echo, then the end tests of a move that it starts or finds. -/
theorem motionsStartAndEndReached : Obligations.MotionsStartAndEndReached := by
  intro s b bytes q r d hpow hp hq hr hd hb hflow hlink
  obtain ⟨v, hv, -, -⟩ := State.doorAt_some hd
  obtain ⟨t, hexec, hT⟩ := State.reply_takesPoll hpow hp hq hr hd hv hb
  obtain ⟨-, -, -, -, -, kh, -⟩ := hT.door.keeps
  obtain ⟨-, -, -, -, xh⟩ := Door.replied_keeps (s.orderHeld d) s.uptime v (s.groupRec v.group) r s.doors[d]
  have noEntry : s.doors[d].move ≠ .none → s.doors[d].entry = none := fun h => Door.flowWf_move hflow h
  refine ⟨t, hexec, fun hdel => ?_, fun hdel => ?_, fun a hph hm hs he hst hh => ?_, fun a hph hm hs he hh hl ho => ?_,
    fun a hm hnd hst hh => ?_, fun hm he hheld => ?_, fun m hm hl hst hh hcl hop => ?_⟩
  · rw [kh, xh, if_pos hdel]
  · rw [kh, xh, if_neg hdel]
  · have hdir : a.dir = .closing := by
      rcases s.doors[d].flowWf_iff.mp hflow with ⟨k, -⟩ | ⟨-, -, a', k, hd'⟩ | ⟨k, -⟩ | ⟨k, -⟩
      · simp [-Fin.getElem_fin, hph] at k
      · obtain rfl : a = a' := Move.admitted.inj (hm.symm.trans k)
        exact hd'
      · simp [-Fin.getElem_fin, hph] at k
      · simp [-Fin.getElem_fin, hph, Phase.rests] at k
    obtain ⟨tm, tp, ts⟩ := hT.of_admitted hflow (by rw [hm]; nofun) (Door.moveAfter_warnOn hph hm hs he)
      (by rw [hdir]; exact hst) hh
    rw [if_pos (hs.trans he.symm)] at ts
    exact ⟨ts, tp.trans hph, tm⟩
  · have hmv := Door.moveAfter_command (now := s.uptime) hph hm hs he
    obtain ⟨tp, tm, ts⟩ := hT.of_start (noEntry (by rw [hm]; nofun)) hph hmv hh hl ho
    rw [if_pos (hs.trans he.symm)] at ts
    exact ⟨ts, tp, tm⟩
  · obtain ⟨tm, tp, ts⟩ := hT.of_admitted hflow (by rw [hm]; nofun) ((Door.moveAfter_of_not_delivers hnd).trans hm)
      hst hh
    exact ⟨tm, tp, ts.trans (Door.slot_of_not_delivers hnd)⟩
  · obtain ⟨ws, wm, we⟩ := Door.worked_of_unordered (now := s.uptime) (v := v) (g := s.groupRec v.group) (r := r)
      hm hheld
    rw [hT.door_of_done (we.trans he) (.inl hheld)]
    exact ⟨ws.trans (Door.heard_slot _ _ _), wm⟩
  · refine hT.of_reached (noEntry (by rw [hm]; nofun)) hm hl hst hh ?_
    cases hdir : m.dir with
    | closing => exact .inr (Report.atClosed_of_limit (by rw [hdir] at hl; exact hl) hst (hcl hdir))
    | opening => exact .inl (hop hdir)

end Sys2Proof.Machine
end


section
/-! SUPPORT. Panel commands as rows (R30, R159): what the check lets through, and the event that follows. -/

namespace Sys2Proof.Machine

open Sys2Proof

/-! ### The check of R30 -/

/-- A panel record is one of the ACTIVE set. -/
theorem State.activeSet_of_panel {s : State} {src : Station} {p : PanelRec} (h : s.panel src = some p) :
    s.activeSet.isNone = false := by
  unfold State.panel at h
  split at h
  · next t ht => rw [ht]; rfl
  · cases h

/-- With a panel record a named command is judged by its right, then by its operand. -/
theorem State.checkCommand_of_panel {s : State} {src : Station} {p : PanelRec} (h : s.panel src = some p)
    (x : PanelCmd) :
    s.checkCommand src (some x) =
      if !p.holds x.right then .inl .noRight
      else match x.operand s p with
        | some why => .inl why
        | none => .inr (p, x) := by
  simp only [State.checkCommand, State.activeSet_of_panel h, h, Bool.false_eq_true, if_false] <;> rfl

/-- What passes the check: a command of a panel that holds its right, with an operand in order. -/
theorem State.checkCommand_inr {s : State} {src : Station} {c : Option PanelCmd} {p : PanelRec} {x : PanelCmd}
    (h : s.checkCommand src c = .inr (p, x)) :
    c = some x ∧ s.panel src = some p ∧ p.holds x.right = true ∧ x.operand s p = none := by
  unfold State.checkCommand at h
  split at h
  · cases h
  · split at h
    · cases h
    · cases h
    · next q y hq =>
      split at h
      · cases h
      · next hr =>
        split at h
        · cases h
        · next ho =>
          cases h
          exact ⟨rfl, hq, by simpa using hr, ho⟩

/-! ### The rows -/

/-- Every panel command is its COMMAND frame. -/
theorem exec_panelRow {i : Instr} {row : PanelRow} (h : panelRow i = some row) (s : State) :
    exec i s = s.live fun s => s.commandFrame row.route row.payload row.tag row.code (some row.cmd) := by
  cases i <;> cases h <;> rfl

/-- A COMMAND that reaches the Order Unit is one event of it. -/
theorem State.commandFrame_of_commanded {s : State} {route : Route} {payload : List Byte}
    (h : s.Commanded route payload) (tag code : Byte) (c : Option PanelCmd) :
    s.commandFrame route payload tag code c = (s.begin.orderUnit route.src tag code c).settle := by
  unfold State.commandFrame
  rw [h.2]

theorem exec_panelRow_of_commanded {i : Instr} {row : PanelRow} (h : panelRow i = some row) {s : State}
    (hc : s.Commanded row.route row.payload) :
    exec i s = .next (s.begin.orderUnit row.route.src row.tag row.code (some row.cmd)).settle := by
  rw [exec_panelRow h, ← State.commandFrame_of_commanded hc]
  exact congrArg Host.Outcome.next (if_pos hc.1)

/-- A command that passes the check is carried out and answered. -/
theorem exec_panelRow_of_accepted {i : Instr} {row : PanelRow} (h : panelRow i = some row) {s : State}
    (hc : s.Commanded row.route row.payload) {p : PanelRec} (hp : s.panel row.route.src = some p)
    (hr : p.holds row.cmd.right = true) (ho : row.cmd.operand s p = none) :
    exec i s = .next ((row.cmd.act row.route.src p s.begin).1.answer row.route.src row.tag row.code
      (row.cmd.act row.route.src p s.begin).2).settle := by
  have hk : s.begin.checkCommand row.route.src (some row.cmd) = .inr (p, row.cmd) := by
    refine (State.checkCommand_of_panel hp row.cmd).trans ?_
    rw [hr, ho]
    rfl
  rw [exec_panelRow_of_commanded h hc, Ev.orderUnit, hk]

/-- The answer class and the outer part once a command that keeps the outer part is answered. -/
theorem Ev.answer_outer {s : State} {e : Ev} (h : e.outer = s.outer) (src : Station) (tag code : Byte) (a : Answer) :
    (e.answer src tag code a).outer = { s.outer with answers := s.withAnswer src tag code a } := by
  have ho : (e.answer src tag code a).outer = { e.outer with answers := e.withAnswer src tag code a } := rfl
  have hi : e.trunk.ownId = s.trunk.ownId := congrArg Outer.ownId h
  have ha : e.trunk.answers = s.trunk.answers := congrArg Outer.answers h
  rw [ho, h, State.withAnswer, State.withAnswer, State.answerFrame, State.answerFrame, hi, ha]

/-! ### A settled part stays as it is -/

/-- An arbiter whose head does not fit admits nothing (R54). -/
theorem Ev.arbiter_of_no_fit {g : GroupId} {e : Ev} (h : ∀ q ∈ e.queueHead g, e.free g < (q.record.draw : Int))
    (n : Nat) : Ev.arbiter g n e = e := by
  cases n with
  | zero => rfl
  | succ n =>
    unfold Ev.arbiter
    split
    · next q hq => exact if_neg (Int.not_le.mpr (h q hq))
    · rfl

theorem Ev.arbiters_of_arbitrated {e : Ev} (h : e.Arbitrated) : e.arbiters = e := by
  unfold Ev.arbiters
  split
  · rfl
  · next hb =>
    have hg := h (by simpa using hb)
    generalize groupIds = gs
    induction gs with
    | nil => rfl
    | cons g gs ih => rw [List.foldl_cons, Ev.arbiter_of_no_fit (hg g), ih]

theorem Ev.swapIfQuiescent_of_waits {e : Ev} (h : e.PendingWaits) : e.swapIfQuiescent = e := by
  by_cases hb : e.bankPending = true
  · unfold Ev.swapIfQuiescent
    split
    · rw [h hb]
      rfl
    · rfl
  · exact e.swapIfQuiescent_of_not_pending (by simpa using hb)

/-- A POLLING branch without bound doors has no address to poll. -/
theorem State.nextPoll_of_unbound {s : State} {b : BranchId} (h : s.bound b = []) : s.nextPoll b = none := by
  unfold State.nextPoll
  rw [h]
  cases hd : s.branches[b].due <;> simp only [hd] <;> rfl

theorem State.sendPolls_of_polled {s : State} (h : s.Polled) : s.sendPolls = s := by
  have one : ∀ b, s.sendPoll b = s := by
    intro b
    unfold State.sendPoll
    dsimp only
    split
    · next hc =>
      simp only [Bool.and_eq_true, Option.isNone_iff_eq_none] at hc
      have hb : s.bound b = [] := by
        by_contra k
        have := h b hc.1 k
        rw [hc.2] at this
        cases this
      rw [State.nextPoll_of_unbound hb]
    · rfl
  unfold State.sendPolls
  generalize branchIds = bs
  induction bs with
  | nil => rfl
  | cons b bs ih => rw [List.foldl_cons, one, ih]

/-- The end of an event changes nothing of a settled part without alarm requests. -/
theorem Ev.settle_of_settled {e : Ev} (h : e.Settled) (hr : e.reqs = []) : e.settle = e.toState := by
  obtain ⟨-, hw, ha, hl, hp⟩ := h
  have hk : e.takeAlarms = e.toState := by rw [Ev.takeAlarms, hr, State.takeReqs_nil]
  have hv : e.toState.updateLive = e.toState := if_pos (Eq.symm hl)
  unfold Ev.settle
  rw [Ev.swapIfQuiescent_of_waits hw, Ev.arbiters_of_arbitrated ha, hk, hv, State.sendPolls_of_polled hp]

/-- A settled part that only answers. -/
theorem State.answer_settle {s : State} (h : s.Settled) (src : Station) (tag code : Byte) (a : Answer) :
    (s.begin.answer src tag code a).settle = s.answered src tag code a :=
  Ev.settle_of_settled (e := s.begin.answer src tag code a) h rfl

/-- A command that fails the check is answered, and nothing else happens. -/
theorem exec_panelRow_of_refused {i : Instr} {row : PanelRow} (h : panelRow i = some row) {s : State}
    (hs : s.Settled) (hc : s.Commanded row.route row.payload) {a : Answer}
    (hk : s.checkCommand row.route.src (some row.cmd) = .inl a) :
    exec i s = .next (s.answered row.route.src row.tag row.code a) := by
  have hk' : s.begin.checkCommand row.route.src (some row.cmd) = .inl a := hk
  rw [exec_panelRow_of_commanded h hc, Ev.orderUnit, hk', State.answer_settle hs]

end Sys2Proof.Machine
end

section
/-! SUPPORT. Refused commands (R30, R159) and the checks on operands (R30, steps 5 to 7). -/

namespace Sys2Proof.Machine

open Sys2Proof

/-- A frame that reaches the Order Unit is a COMMAND. -/
theorem State.deliver_orderUnit_kind {s : State} {f : RxFrame} (h : s.deliver f = .orderUnit) : f.kind = kindCommand := by
  by_contra k
  have hk : (f.kind == kindCommand) = false := by simpa using k
  revert h
  unfold State.deliver
  rw [hk]
  cases s.classify f <;> simp only [Bool.false_eq_true, if_false] <;> split_ifs <;> nofun

/-- A frame that reaches the Order Unit is a COMMAND of at least four bytes, or not taken (R159). -/
theorem State.takeFrame_of_orderUnit {s : State} {f : RxFrame} (h : s.deliver f = .orderUnit) :
    s.takeFrame f = s.takeCommand f.route.src f.payload := by
  unfold State.takeFrame
  rw [h]

theorem exec_trunkFrame_of_orderUnit {s : State} {bytes : List Byte} {f : RxFrame} (hf : parseFrame bytes = some f)
    (h : s.deliver f = .orderUnit) :
    exec (.trunkFrame bytes) s = s.live fun s => s.takeCommand f.route.src f.payload := by
  have hh : s.hear bytes = s.takeCommand f.route.src f.payload := by
    unfold State.hear
    rw [hf]
    exact State.takeFrame_of_orderUnit h
  exact congrArg (fun t => Host.Outcome.next (if s.powered then t else s)) hh

/-- A code outside 1 to 9 names no command (Table 9-4). -/
theorem panelCmd_of_badCode {code : Byte} (h : code = 0 ∨ 9 < code.toNat) (operand kind : Byte) :
    panelCmd code operand kind = none := by
  unfold panelCmd
  split
  case h_10 => rfl
  all_goals
    next hc =>
    rcases h with rfl | h
    · cases hc
    · omega

/-- Settles O20: each refusal is the first failing check of R30, and a settled part only answers. -/
theorem refusedCommandsOnlyAnswer : Obligations.RefusedCommandsOnlyAnswer := by
  intro s hs
  refine ⟨fun i row hrow hc => ⟨fun ha => ?_, fun ha hp => ?_, fun p hp => ⟨fun hr => ?_, fun why hr ho => ?_⟩⟩,
    fun bytes f p hpow hf hd hl hp hcode => ?_, fun bytes f hf hd hl => ?_⟩
  · refine exec_panelRow_of_refused hrow hs hc ?_
    simp [State.checkCommand, ha]
  · refine exec_panelRow_of_refused hrow hs hc ?_
    have hn : s.activeSet.isNone = false := Option.isNone_eq_false_iff.mpr (Option.isSome_iff_ne_none.mpr ha)
    simp [State.checkCommand, hn, hp]
  · refine exec_panelRow_of_refused hrow hs hc ?_
    rw [State.checkCommand_of_panel hp, hr]
    rfl
  · refine exec_panelRow_of_refused hrow hs hc ?_
    rw [State.checkCommand_of_panel hp, hr, ho]
    rfl
  · have hk : s.begin.checkCommand f.route.src none = .inl .badCode := by
      have hp' : s.begin.panel f.route.src = some p := hp
      simp only [State.checkCommand, State.activeSet_of_panel hp', hp', Bool.false_eq_true, if_false]
    have ht : s.takeCommand f.route.src f.payload =
        s.answered f.route.src (at_ f.payload 3) (at_ f.payload 0) .badCode := by
      rw [State.takeCommand, if_neg (by omega), panelCmd_of_badCode hcode, Ev.orderUnit, hk]
      exact State.answer_settle hs _ _ _ _
    rw [exec_trunkFrame_of_orderUnit hf hd]
    exact congrArg Host.Outcome.next ((if_pos hpow).trans ht)
  · have ht : s.takeCommand f.route.src f.payload = s := if_pos hl
    rw [exec_trunkFrame_of_orderUnit hf hd]
    exact congrArg Host.Outcome.next (by dsimp only; rw [ht, ite_self])

/-! ### Operands -/

theorem zoneOf_eq_none {b : Byte} (h : 16 ≤ b.toNat) : zoneOf b = none := dif_neg (by omega)

theorem zoneOf_eq_some {b : Byte} {z : ZoneId} (h : z.val = b.toNat) : zoneOf b = some z := by
  unfold zoneOf
  rw [dif_pos (h ▸ z.isLt)]
  exact congrArg some (Fin.ext h.symm)

theorem slotOf_eq_none {b : Byte} (h : 64 ≤ b.toNat) : slotOf b = none := dif_neg (by omega)

theorem slotOf_eq_some {b : Byte} {d : Slot} (h : d.val = b.toNat) : slotOf b = some d := by
  unfold slotOf
  rw [dif_pos (h ▸ d.isLt)]
  exact congrArg some (Fin.ext h.symm)

/-- A zone operand (R30, steps 5 to 7). -/
theorem zoneOperand_spec (b : Byte) (s : State) (p : PanelRec) :
    (16 ≤ b.toNat → zoneOperand b s p = some .badOperand)
      ∧ ∀ z : ZoneId, z.val = b.toNat → zoneOperand b s p =
        if s.hasZone z = false then some .noZone else if p.hasZone z = false then some .outOfScope else none := by
  refine ⟨fun h => ?_, fun z h => ?_⟩
  · rw [zoneOperand, zoneOf_eq_none h]
  · rw [zoneOperand, zoneOf_eq_some h]
    simp only [Bool.not_eq_true']

/-- The scope of a slot (R30, steps 6 and 7). -/
theorem doorScope_eq (d : Slot) (s : State) (p : PanelRec) :
    doorScope d s p =
      if s.fitted d = false then some .notFitted else if p.hasDoor d = false then some .outOfScope else none := by
  simp only [doorScope, Bool.not_eq_true']

/-- A slot operand (R30, steps 5 to 7). -/
theorem doorOperand_spec (b : Byte) (s : State) (p : PanelRec) :
    (64 ≤ b.toNat → doorOperand b s p = some .badOperand)
      ∧ ∀ d : Slot, d.val = b.toNat → doorOperand b s p =
        if s.fitted d = false then some .notFitted else if p.hasDoor d = false then some .outOfScope else none := by
  refine ⟨fun h => ?_, fun d h => ?_⟩
  · rw [doorOperand, slotOf_eq_none h]
  · rw [doorOperand, slotOf_eq_some h]
    exact doorScope_eq d s p

/-- The kinds of each type of subject (Table 6-1): doors 1 to 8, branches 9 and 10, the device 11 to 13. -/
theorem AlarmKind.ofCode_suits (n : Nat) (j : Subject) :
    (∃ k, AlarmKind.ofCode n = some k ∧ k.suits j = true) ↔
      match j with
      | .door _ => 1 ≤ n ∧ n ≤ 8
      | .branch _ => n = 9 ∨ n = 10
      | .device => 11 ≤ n ∧ n ≤ 13 := by
  unfold AlarmKind.ofCode
  split
  case h_14 =>
    simp only [imp_false] at *
    cases j <;> simp <;> omega
  all_goals cases j <;> simp [AlarmKind.suits]

/-- The subject of a number (section 6.1). -/
theorem Subject.ofCode_spec (n : Nat) :
    (∀ d : Slot, d.val = n → Subject.ofCode n = some (.door d))
      ∧ (∀ b : BranchId, 64 + b.val = n → Subject.ofCode n = some (.branch b))
      ∧ (n = 68 → Subject.ofCode n = some .device) ∧ (68 < n → Subject.ofCode n = none) := by
  refine ⟨fun d h => ?_, fun b h => ?_, fun h => ?_, fun h => ?_⟩
  · subst h
    simp [Subject.ofCode]
  · subst h
    simp [Subject.ofCode]
  · subst h
    rfl
  · unfold Subject.ofCode
    rw [dif_neg (by omega), dif_neg (by omega), if_neg (by omega)]

/-- The pair of an ACK whose kind belongs to its subject. -/
theorem ackPair_of_suits {subject kind : Byte} {j : Subject} (hj : Subject.ofCode subject.toNat = some j)
    (hk : ∃ k, AlarmKind.ofCode kind.toNat = some k ∧ k.suits j = true) :
    ∃ k, ackPair subject kind = some (j, k) := by
  obtain ⟨k, hk, hs⟩ := hk
  exact ⟨k, by simp [ackPair, hj, hk, hs]⟩

/-- An ACK whose kind does not belong to its subject names no pair. -/
theorem ackPair_of_not_suits {subject kind : Byte}
    (h : ∀ j, Subject.ofCode subject.toNat = some j →
      ¬∃ k, AlarmKind.ofCode kind.toNat = some k ∧ k.suits j = true) : ackPair subject kind = none := by
  unfold ackPair
  split
  · next j k hj hk => exact if_neg fun hs => h j hj ⟨k, hk, hs⟩
  · rfl

/-- The operand of an ACK (R30, steps 5 to 7; log entry 17). -/
theorem ackOperand_spec (subject kind : Byte) (s : State) (p : PanelRec) :
    ((64 ≤ subject.toNat ∨ kind.toNat = 0 ∨ 8 < kind.toNat)
        → (subject.toNat < 64 ∨ 67 < subject.toNat ∨ kind.toNat < 9 ∨ 10 < kind.toNat)
        → (subject.toNat ≠ 68 ∨ kind.toNat < 11 ∨ 13 < kind.toNat) →
      ackOperand subject kind s p = some .badOperand)
    ∧ (∀ d : Slot, d.val = subject.toNat → 1 ≤ kind.toNat → kind.toNat ≤ 8 →
      ackOperand subject kind s p =
        if s.fitted d = false then some .notFitted else if p.hasDoor d = false then some .outOfScope else none)
    ∧ (64 ≤ subject.toNat → subject.toNat ≤ 67 → kind.toNat = 9 ∨ kind.toNat = 10 →
      ackOperand subject kind s p = none)
    ∧ (subject.toNat = 68 → 11 ≤ kind.toNat → kind.toNat ≤ 13 → ackOperand subject kind s p = none) := by
  obtain ⟨hdoor, hbranch, hdevice, hnone⟩ := Subject.ofCode_spec subject.toNat
  refine ⟨fun h1 h2 h3 => ?_, fun d hd h1 h8 => ?_, fun h64 h67 hk => ?_, fun h68 h11 h13 => ?_⟩
  · rw [ackOperand, ackPair_of_not_suits]
    intro j hj
    rw [AlarmKind.ofCode_suits]
    by_cases hlt : subject.toNat < 64
    · rw [hdoor ⟨_, hlt⟩ rfl] at hj
      cases hj
      dsimp only
      omega
    by_cases hle : subject.toNat ≤ 67
    · rw [hbranch ⟨subject.toNat - 64, by omega⟩ (by dsimp only; omega)] at hj
      cases hj
      dsimp only
      omega
    by_cases h68 : subject.toNat = 68
    · rw [hdevice h68] at hj
      cases hj
      dsimp only
      omega
    · rw [hnone (by omega)] at hj
      cases hj
  · obtain ⟨k, hk⟩ := ackPair_of_suits (hdoor d hd) ((AlarmKind.ofCode_suits _ _).mpr ⟨h1, h8⟩)
    rw [ackOperand, hk]
    exact doorScope_eq d s p
  · obtain ⟨k, hk⟩ := ackPair_of_suits (hbranch ⟨subject.toNat - 64, by omega⟩ (by dsimp only; omega))
      ((AlarmKind.ofCode_suits _ _).mpr hk)
    rw [ackOperand, hk]
  · obtain ⟨k, hk⟩ := ackPair_of_suits (hdevice h68) ((AlarmKind.ofCode_suits _ _).mpr ⟨h11, h13⟩)
    rw [ackOperand, hk]

/-- Settles O21: zone, slot and alarm operands each by their own check. -/
theorem operandsAreCheckedInOrder : Obligations.OperandsAreCheckedInOrder := by
  intro i row s p hrow
  refine ⟨fun route tag zone hi => ?_, fun route tag slot hi => ?_, fun route tag subject kind hi => ?_,
    fun route tag hi => ?_⟩
  · rcases hi with rfl | rfl <;> cases hrow <;> exact zoneOperand_spec zone s p
  · rcases hi with rfl | rfl | rfl <;> cases hrow <;> exact doorOperand_spec slot s p
  · subst hi
    cases hrow
    exact ackOperand_spec subject kind s p
  · rcases hi with rfl | rfl | rfl <;> cases hrow <;> rfl

end Sys2Proof.Machine
end


section
/-! SUPPORT. Door commands (R33 to R35): the record that each leaves. -/

namespace Sys2Proof.Machine

open Sys2Proof

/-! ### The frame of a door command -/

/-- A door command of a panel with DOOR, for a fitted door of its door set, is carried out and answered. -/
theorem exec_doorCommand {i : Instr} {route : Route} {payload : List Byte} {slot tag code : Byte}
    {f : Ev → Slot → Ev × Answer} (hrow : panelRow i = some ⟨route, payload, tag, code, cmdDoor slot f⟩) {s : State}
    {d : Slot} {p : PanelRec} (hc : s.Commanded route payload) (hd : slotOf slot = some d)
    (hp : s.panel route.src = some p) (hr : p.holds .door = true) (hs : p.hasDoor d = true) (hf : s.fitted d = true) :
    exec i s = .next ((f s.begin d).1.answer route.src tag code (f s.begin d).2).settle := by
  have ho : doorOperand slot s p = none := by
    simp only [doorOperand, hd, doorScope, hf, hs, Bool.not_true, Bool.false_eq_true, if_false]
  rw [exec_panelRow_of_accepted hrow hc hp hr ho]
  simp only [cmdDoor, hd]

/-- A door command without effect is answered, and nothing else happens. -/
theorem exec_doorCommand_of_noEffect {i : Instr} {route : Route} {payload : List Byte} {slot tag code : Byte}
    {f : Ev → Slot → Ev × Answer} (hrow : panelRow i = some ⟨route, payload, tag, code, cmdDoor slot f⟩) {s : State}
    {d : Slot} {p : PanelRec} (hset : s.Settled) (hc : s.Commanded route payload) (hd : slotOf slot = some d)
    (hp : s.panel route.src = some p) (hr : p.holds .door = true) (hs : p.hasDoor d = true) (hf : s.fitted d = true)
    {a : Answer} (ha : f s.begin d = (s.begin, a)) : exec i s = .next (s.answered route.src tag code a) := by
  rw [exec_doorCommand hrow hc hd hp hr hs hf, ha, State.answer_settle hset]

/-- An answered event that works on one door: the outer part, and each door at its end. -/
theorem State.settle_of_touches {s : State} {d : Slot} {e : Ev} (ht : Ev.Touches d s.begin e) (ho : e.outer = s.outer)
    (src : Station) (tag code : Byte) (a : Answer)
    (hq : (e.answer src tag code a).swapIfQuiescent = e.answer src tag code a) :
    (e.answer src tag code a).settle.outer = { s.outer with answers := s.withAnswer src tag code a }
      ∧ s.SameSources (e.answer src tag code a).settle
      ∧ (e.answer src tag code a).settle.Admits d e.doors[d]
      ∧ ∀ x : Slot, x ≠ d → s.doors[x].entry = none → (e.answer src tag code a).settle.doors[x] = s.doors[x] := by
  have ha := Ev.settle_admits (e.answer src tag code a) hq
  refine ⟨(Ev.settle_outer _).trans (Ev.answer_outer ho _ _ _ _), ?_, ha d, fun x hx he => ?_⟩
  · have hs : s.SameSources (e.answer src tag code a).toState := ht.sources.trans ⟨rfl, rfl, fun _ => rfl⟩
    exact hs.trans (Ev.settle_sources _ hq)
  · have hd : (e.answer src tag code a).doors[x] = s.doors[x] := ht.other hx
    have hx' := ha x
    rw [hd] at hx'
    exact hx'.of_no_entry he

/-! ### Records -/

/-- A door HALTED by a DOOR-STOP or a withdrawal in DRIVING (R67). -/
theorem Door.stopped_of_driving {r : Door} (hp : r.phase = .driving) (hm : r.move ≠ .none) :
    r.stopped = { r with holds := r.haltHolds, slot := .halt, move := .none, phase := .idle, timer := .none } := by
  unfold Door.stopped Door.haltHolds
  rw [hp]
  cases h : r.move
  · exact absurd h hm
  all_goals rfl

/-- A consistent door that a DOOR-STOP takes to rest has neither entry nor move. -/
theorem Door.stopped_rests {r : Door} (hf : r.flowWf = true) : r.stopped.entry = none ∧ r.stopped.move = .none := by
  unfold Door.stopped
  rcases r.flowWf_iff.mp hf with ⟨hp, -, hm⟩ | ⟨hp, he, a, hm, -⟩ | ⟨hp, he, hm⟩ | ⟨hp, he, hm⟩
  · rw [hp]
    exact ⟨rfl, hm⟩
  · rw [hp]
    exact ⟨he, rfl⟩
  · cases h : r.move
    · exact absurd h hm
    all_goals
      rw [hp]
      exact ⟨he, rfl⟩
  · cases h : r.phase <;> simp_all [Phase.rests]

/-- A consistent door in WARNING is on its way to a close (R57). -/
theorem Door.goal_of_warning {r : Door} (hf : r.flowWf = true) (hp : r.phase = .warning) : r.goal = some .closing := by
  rcases r.flowWf_iff.mp hf with ⟨h, -⟩ | ⟨-, -, a, hm, hd⟩ | ⟨h, -⟩ | ⟨h, -⟩
  · simp [hp] at h
  · simp [Door.goal, hp, hm, Move.dir, hd]
  · simp [hp] at h
  · simp [hp, Phase.rests] at h

/-! ### DOOR-CLOSE (R33) -/

/-- A remote request for an ONLINE door at rest makes its entry. -/
theorem Ev.requestRemote_spec (e : Ev) (d : Slot) (dir : Dir) (hn : e.NoRunFor d) (hl : e.doors[d].link = .online)
    (hm : e.doors[d].move = .none) :
    Ev.Touches d e (e.requestRemote d dir) ∧ (e.requestRemote d dir).outer = e.outer
      ∧ (e.requestRemote d dir).doors[d] = { e.doors[d].enqueued e.uptime dir .remote .remote with retry := 0 } := by
  refine ⟨e.request_touches d dir .remote .remote hn, e.request_outer d dir .remote .remote, ?_⟩
  exact (e.request_door d dir .remote .remote hn).trans (if_pos ⟨hl, hm⟩)

/-- A DOOR-CLOSE that is taken stops the door and queues the close (R33). -/
theorem Ev.doorClose_spec (e : Ev) (d : Slot) (hf : e.doors[d].flowWf = true) (hs : e.doors[d].state ≠ .closed)
    (hl : e.doors[d].link = .online) (hp : e.doors[d].phase.local_ = false) (hg : e.doors[d].goal ≠ some .closing)
    (hn : e.NoRunFor d) :
    ∃ e', e.doorClose d = (e', .accepted) ∧ Ev.Touches d e e' ∧ e'.outer = e.outer
      ∧ e'.doors[d] = { e.doors[d].stopped.enqueued e.uptime .closing .remote .remote with retry := 0 } := by
  have after : ∀ e₁ : Ev, Ev.Touches d e e₁ → e₁.outer = e.outer → e₁.doors[d].link = .online →
      e₁.doors[d].move = .none →
      ({ e₁.doors[d].enqueued e.uptime .closing .remote .remote with retry := 0 } : Door) =
        { e.doors[d].stopped.enqueued e.uptime .closing .remote .remote with retry := 0 } →
      Ev.Touches d e (e₁.requestRemote d .closing) ∧ (e₁.requestRemote d .closing).outer = e.outer
        ∧ (e₁.requestRemote d .closing).doors[d] =
          { e.doors[d].stopped.enqueued e.uptime .closing .remote .remote with retry := 0 } := by
    intro e₁ ht ho hl₁ hm₁ hd₁
    obtain ⟨kt, ko, kd⟩ := e₁.requestRemote_spec d .closing (ht.noRunFor hn) hl₁ hm₁
    exact ⟨ht.trans kt, ko.trans ho, by rw [kd, ht.uptime, hd₁]⟩
  have hnl : ¬e.doors[d].link ≠ .online := fun k => k hl
  unfold Ev.doorClose
  simp only [if_neg hs, if_neg hnl, hp, Bool.false_eq_true, if_false, if_neg hg]
  cases hph : e.doors[d].phase with
  | driving =>
    obtain ⟨-, hmv⟩ := Door.flowWf_moves hf (.inr hph)
    refine ⟨_, rfl, after _ (e.endHalted_touches d) (e.endHalted_outer d) ?_ ?_ ?_⟩
    · rw [Ev.endHalted_door]
      exact hl
    · rw [Ev.endHalted_door]
    · rw [Ev.endHalted_door, Door.stopped_of_driving hph hmv]
  | retryWait =>
    have hm := (Door.flowWf_rests hf (by rw [hph]; rfl)).2
    refine ⟨_, rfl, after _ ((e.toPhase_touches d _).trans (Ev.zeroRetry_touches _ d)) rfl ?_ ?_ ?_⟩
    · rw [Ev.zeroRetry_door, Ev.toPhase_door]
      exact hl
    · rw [Ev.zeroRetry_door, Ev.toPhase_door]
      exact hm
    · rw [Ev.zeroRetry_door, Ev.toPhase_door, Door.stopped, hph]
  | queued =>
    refine ⟨_, rfl, after e (.refl d e) rfl hl (Door.flowWf_queued hf hph) ?_⟩
    rw [Door.stopped, hph]
    rfl
  | idle =>
    refine ⟨_, rfl, after e (.refl d e) rfl hl (Door.flowWf_rests hf (by rw [hph]; rfl)).2 ?_⟩
    rw [Door.stopped, hph]
  | warning => exact absurd (Door.goal_of_warning hf hph) hg
  | heldLocal | dwell | failed =>
    rw [hph] at hp
    cases hp

/-- A door on its way to a movement is in no local phase. -/
theorem Door.local_of_goal {r : Door} {dir : Dir} (h : r.goal = some dir) : r.phase.local_ = false := by
  unfold Door.goal at h
  cases hp : r.phase <;> simp_all [Phase.local_]

/-- Settles O24: the first line of R33 that holds, then a stop and a queue request. -/
theorem doorCloseFollowsItsTable : Obligations.DoorCloseFollowsItsTable := by
  intro s route slot tag d p hc hd hp hr hs hf hflow
  have hrow : panelRow (.doorClose route slot tag) =
      some ⟨route, [5, slot, 0, tag], tag, 5, cmdDoor slot Ev.doorClose⟩ := rfl
  refine ⟨fun hset => ?_, fun hst hl hloc hg hn => ?_⟩
  · have noEffect := fun a => exec_doorCommand_of_noEffect hrow hset hc hd hp hr hs hf (a := a)
    refine ⟨fun h1 => noEffect _ ?_, fun h1 h2 => noEffect _ ?_, fun h1 h2 h3 => noEffect _ ?_,
      fun h1 h2 h3 => noEffect _ ?_⟩
    · exact if_pos h1
    · exact (if_neg h1).trans (if_pos h2)
    · exact (if_neg h1).trans ((if_neg fun k => k h2).trans (if_pos h3))
    · exact (if_neg h1).trans ((if_neg fun k => k h2).trans ((if_neg fun k => Bool.false_ne_true ((Door.local_of_goal h3).symm.trans k)).trans (if_pos h3)))
  · obtain ⟨e, he, ht, ho, hdoor⟩ := s.begin.doorClose_spec d hflow hst hl hloc hg hn
    obtain ⟨v, hv⟩ := (s.fitted_iff d).mp hf
    have hq : (e.answer route.src tag 5 .accepted).swapIfQuiescent = e.answer route.src tag 5 .accepted :=
      Ev.swapIfQuiescent_of_queued _ d (v := v) (en := ⟨.closing, .remote, .remote, s.uptime⟩)
        ((ht.doorRec d).trans hv) (congrArg Door.entry hdoor)
    obtain ⟨hout, -, ta, -⟩ := State.settle_of_touches ht ho route.src tag 5 .accepted hq
    refine ⟨_, by rw [exec_doorCommand hrow hc hd hp hr hs hf, he], hout, ?_⟩
    rw [hdoor] at ta
    exact ta.keptOrAdmitted fun en hen => .inl (by cases hen; rfl)

/-! ### DOOR-OPEN (R34) -/

/-- Settles O25: the first line of R34 that holds, then a queue request. -/
theorem doorOpenFollowsItsTable : Obligations.DoorOpenFollowsItsTable := by
  intro s route slot tag d p hc hd hp hr hs hf hflow
  have hrow : panelRow (.doorOpen route slot tag) =
      some ⟨route, [6, slot, 0, tag], tag, 6, cmdDoor slot Ev.doorOpen⟩ := rfl
  have notHeld : s.orderHeld d = false → ¬s.begin.orderHeld d = true := fun h k => Bool.false_ne_true (h.symm.trans k)
  refine ⟨fun hset => ?_, fun hh hst hl hph hn => ?_⟩
  · have noEffect := fun a => exec_doorCommand_of_noEffect hrow hset hc hd hp hr hs hf (a := a)
    refine ⟨fun h1 => noEffect _ ?_, fun h1 h2 => noEffect _ ?_, fun h1 h2 h3 => noEffect _ ?_,
      fun h1 h2 h3 h4 => noEffect _ ?_, fun h1 h2 h3 h4 => noEffect _ ?_⟩
    · exact if_pos h1
    · exact (if_neg (notHeld h1)).trans (if_pos h2)
    · exact (if_neg (notHeld h1)).trans ((if_neg h2).trans (if_pos h3))
    · exact (if_neg (notHeld h1)).trans ((if_neg h2).trans ((if_neg h3).trans (if_pos h4)))
    · have h5 : ¬s.doors[d].goal = some .closing := by rw [h2]; decide
      exact (if_neg (notHeld h1)).trans ((if_neg h5).trans ((if_neg h3).trans ((if_neg fun k => k h4).trans (if_pos h2))))
  · have hg : s.doors[d].goal = none := by simp only [Door.goal, hph]
    obtain ⟨ht, ho, hdoor⟩ := s.begin.requestRemote_spec d .opening hn hl (Door.flowWf_rests hflow (by rw [hph]; rfl)).2
    have he : s.begin.doorOpen d = (s.begin.requestRemote d .opening, .accepted) := by
      refine (if_neg (notHeld hh)).trans ((if_neg ?_).trans ((if_neg hst).trans ((if_neg fun k => k hl).trans
        ((if_neg ?_).trans (if_neg ?_)))))
      · exact fun k => Option.some_ne_none _ (k.symm.trans hg)
      · exact fun k => Option.some_ne_none _ (k.symm.trans hg)
      · have : s.doors[d].phase.local_ = false := by rw [hph]; rfl
        exact fun k => Bool.false_ne_true (this.symm.trans k)
    obtain ⟨v, hv⟩ := (s.fitted_iff d).mp hf
    have hq := Ev.swapIfQuiescent_of_queued ((s.begin.requestRemote d .opening).answer route.src tag 6 .accepted) d
      (v := v) (en := ⟨.opening, .remote, .remote, s.uptime⟩) ((ht.doorRec d).trans hv) (congrArg Door.entry hdoor)
    obtain ⟨hout, tsrc, ta, -⟩ := State.settle_of_touches ht ho route.src tag 6 .accepted hq
    refine ⟨_, by rw [exec_doorCommand hrow hc hd hp hr hs hf, he], hout, ?_⟩
    rw [hdoor] at ta
    exact ta.keptOrAdmitted fun en hen => .inr ((tsrc.orderHeld d).trans hh)

/-! ### DOOR-STOP (R35) -/

/-- A DOOR-STOP without an order (R35). -/
theorem Ev.doorStop_spec (e : Ev) (d : Slot) (hh : e.orderHeld d = false) (hf : e.doors[d].flowWf = true) :
    ∃ e', e.doorStop d = (e', e.doors[d].stopAnswer) ∧ Ev.Touches d e e' ∧ e'.outer = e.outer
      ∧ e'.doors[d] = e.doors[d].stopped := by
  unfold Ev.doorStop
  rw [if_neg (by simp [hh])]
  cases hph : e.doors[d].phase with
  | queued =>
    refine ⟨_, by rw [Door.stopAnswer, hph], e.dropEntry_touches d _, e.dropEntry_outer d _, ?_⟩
    rw [Ev.dropEntry_door, Door.stopped, hph]
  | warning =>
    refine ⟨_, by rw [Door.stopAnswer, hph], (e.place_touches d _).trans (Ev.dropMove_touches _ d _), ?_, ?_⟩
    · rw [Ev.dropMove_outer, Ev.place_outer]
    · rw [Ev.dropMove_door, Ev.place_door_of_ne _ _ _ (by decide), Door.stopped, hph]
  | driving =>
    refine ⟨_, by rw [Door.stopAnswer, hph], e.endHalted_touches d, e.endHalted_outer d, ?_⟩
    rw [Ev.endHalted_door, Door.stopped_of_driving hph (Door.flowWf_moves hf (.inr hph)).2]
  | retryWait =>
    refine ⟨_, by rw [Door.stopAnswer, hph], (e.toPhase_touches d _).trans (Ev.zeroRetry_touches _ d), rfl, ?_⟩
    rw [Ev.zeroRetry_door, Ev.toPhase_door, Door.stopped, hph]
  | idle | heldLocal | dwell | failed =>
    refine ⟨_, by rw [Door.stopAnswer, hph], .refl d e, rfl, ?_⟩
    rw [Door.stopped, hph]

/-- Settles O26: the line of R35 for the door's phase; a stopped door leaves the queue empty of its entry. -/
theorem doorStopFollowsItsTable : Obligations.DoorStopFollowsItsTable := by
  intro s route slot tag d p hc hd hp hr hs hf
  have hrow : panelRow (.doorStop route slot tag) =
      some ⟨route, [7, slot, 0, tag], tag, 7, cmdDoor slot Ev.doorStop⟩ := rfl
  refine ⟨fun hh hset => ?_, fun hh hflow hb => ?_⟩
  · exact exec_doorCommand_of_noEffect hrow hset hc hd hp hr hs hf (if_pos hh)
  · obtain ⟨e, he, ht, ho, hdoor⟩ := s.begin.doorStop_spec d hh hflow
    have hq : (e.answer route.src tag 7 s.doors[d].stopAnswer).swapIfQuiescent = e.answer route.src tag 7 s.doors[d].stopAnswer :=
      Ev.swapIfQuiescent_of_not_pending _ ((congrArg (fun b : Banks => (b.find .pending).isSome) ht.banks).trans hb)
    obtain ⟨hout, -, ta, tother⟩ := State.settle_of_touches ht ho route.src tag 7 s.doors[d].stopAnswer hq
    rw [hdoor] at ta
    refine ⟨_, ?_, hout, ta.of_no_entry (Door.stopped_rests hflow).1, tother⟩
    rw [exec_doorCommand hrow hc hd hp hr hs hf, he]
    rfl

end Sys2Proof.Machine
end


section
/-! SUPPORT. What acknowledgements do to the list and the marks (R110, R111), and the filling of freed room
(R113). -/

namespace Sys2Proof.Machine

open Sys2Proof

/-! ### Pairs -/

theorem AlarmEntry.isPair_iff (x : AlarmEntry) (j : Subject) (k : AlarmKind) :
    x.isPair j k = true ↔ x.subject = j ∧ x.kind = k := by
  simp [AlarmEntry.isPair]

theorem Mark.isPair_iff (m : Mark) (j : Subject) (k : AlarmKind) :
    m.isPair j k = true ↔ m.subject = j ∧ m.kind = k := by
  simp [Mark.isPair]

theorem Alarms.entry_some {a : Alarms} {j : Subject} {k : AlarmKind} {x : AlarmEntry} (h : a.entry j k = some x) :
    x ∈ a.entries ∧ x.subject = j ∧ x.kind = k :=
  ⟨List.mem_of_find?_eq_some h, (x.isPair_iff j k).mp (List.find?_some h :)⟩

theorem Alarms.entry_none {a : Alarms} {j : Subject} {k : AlarmKind} :
    a.entry j k = none ↔ ∀ x ∈ a.entries, x.isPair j k = false := by
  simp [Alarms.entry]

theorem Alarms.mark_some {a : Alarms} {j : Subject} {k : AlarmKind} {m : Mark} (h : a.mark j k = some m) :
    m ∈ a.marks ∧ m.isPair j k = true := ⟨List.mem_of_find?_eq_some h, (List.find?_some h :)⟩

/-- Two different elements of a list stand in its order, one way or the other. -/
theorem pairwise_either {α : Type} {R : α → α → Prop} {l : List α} (h : l.Pairwise R) {x y : α} (hx : x ∈ l)
    (hy : y ∈ l) (hne : x ≠ y) : R x y ∨ R y x := by
  have hs : Std.Symm fun x y => R x y ∨ R y x := ⟨fun _ _ => Or.symm⟩
  exact List.Pairwise.forall (R := fun x y => R x y ∨ R y x) (h.imp Or.inl) hx hy hne

/-- No pair is listed twice: two entries of one pair are one. -/
theorem AlarmEntry.eq_of_pair {l : List AlarmEntry} (h : l.Pairwise AlarmEntry.Differs) {x y : AlarmEntry}
    (hx : x ∈ l) (hy : y ∈ l) (hp : x.isPair y.subject y.kind = true) : x = y := by
  by_contra hne
  obtain ⟨hs, hk⟩ := (x.isPair_iff _ _).mp hp
  rcases pairwise_either h hx hy hne with k | k
  · exact k ⟨hs, hk⟩
  · exact k ⟨hs.symm, hk.symm⟩

/-! ### Marks in their order -/

theorem Mark.before_irrefl {x y : Mark} (h : x.before y = true) : ¬(x.subject = y.subject ∧ x.kind = y.kind) := by
  rintro ⟨hs, hk⟩
  simp [Mark.before, hs, hk] at h

theorem Mark.before_asymm {x y : Mark} (h : x.before y = true) : y.before x = false := by
  simp only [Mark.before, Bool.or_eq_true, Bool.and_eq_true, decide_eq_true_eq, beq_iff_eq,
    Bool.or_eq_false_iff, Bool.and_eq_false_iff, decide_eq_false_iff_not] at h ⊢
  grind

/-- A mark put in the place of the mark of its pair stands at that place. -/
theorem insertMark_replace {l : List Mark} (h : l.Pairwise fun x y => x.before y = true) {new m : Mark} (hm : m ∈ l)
    (hs : m.subject = new.subject) (hk : m.kind = new.kind) :
    insertMark new (l.filter fun x => !x.isPair new.subject new.kind) =
      l.map fun x => if x.isPair new.subject new.kind then new else x := by
  have same : ∀ x : Mark, new.before x = m.before x ∧ x.before new = x.before m := fun x => by
    simp only [Mark.before, hs, hk, and_self]
  induction l with
  | nil => cases hm
  | cons x xs ih =>
    obtain ⟨hx, hxs⟩ := List.pairwise_cons.mp h
    by_cases hp : x.isPair new.subject new.kind = true
    · obtain ⟨ps, pk⟩ := (x.isPair_iff _ _).mp hp
      have none_else : ∀ y ∈ xs, y.isPair new.subject new.kind = false := fun y hy => by
        by_contra k
        obtain ⟨ys, yk⟩ := (y.isPair_iff _ _).mp (by simpa using k)
        exact Mark.before_irrefl (hx y hy) ⟨ps.trans ys.symm, pk.trans yk.symm⟩
      have hf : xs.filter (fun x => !x.isPair new.subject new.kind) = xs :=
        List.filter_eq_self.mpr fun y hy => by rw [none_else y hy]; rfl
      have hmap : xs.map (fun x => if x.isPair new.subject new.kind then new else x) = xs :=
        (List.map_congr_left fun y hy => if_neg (by simp [none_else y hy])).trans (List.map_id _)
      rw [List.map_cons, if_pos hp, hmap, List.filter_cons_of_neg (by simp [hp]), hf]
      cases xs with
      | nil => rfl
      | cons y ys =>
        have hb : new.before y = true := by
          have := hx y List.mem_cons_self
          simpa only [Mark.before, ps, pk] using this
        exact if_pos hb
    · have hmx : m ∈ xs := by
        refine (List.mem_cons.mp hm).resolve_left fun k => hp ((x.isPair_iff _ _).mpr ?_)
        exact k ▸ ⟨hs, hk⟩
      have hb : ¬new.before x = true := by
        rw [(same x).1, Mark.before_asymm (hx m hmx)]
        exact Bool.false_ne_true
      rw [List.filter_cons_of_pos (by simpa using hp), List.map_cons, if_neg hp, insertMark, if_neg hb, ih hxs hmx]

/-! ### Filling -/

/-- The list filled from marks in their order (R113). -/
def Alarms.filled (now : Time) (a : Alarms) : Alarms :=
  { a with
    entries := a.entries ++ (a.marks.take (64 - a.entries.length)).map (Mark.entered now)
    marks := a.marks.drop (64 - a.entries.length) }

/-- A full list, or one without marks, takes nothing in. -/
theorem Alarms.filled_of_full {a : Alarms} (h : a.marks = [] ∨ 64 ≤ a.entries.length) (now : Time) : a.filled now = a := by
  rcases h with h | h
  · simp only [Alarms.filled, h, List.take_nil, List.map_nil, List.append_nil, List.drop_nil]
    rw [← h]
  · have h0 : 64 - a.entries.length = 0 := by omega
    simp [Alarms.filled, h0]

theorem State.fillFrom_alarms (ms : List Mark) (s : State) (hm : s.alarms.marks = ms)
    (hp : ms.Pairwise fun x y => x.before y = true) : (s.fillFrom ms).alarms = s.alarms.filled s.uptime := by
  induction ms generalizing s with
  | nil =>
    rw [State.fillFrom, Alarms.filled_of_full (.inl hm)]
  | cons m ms ih =>
    obtain ⟨hx, hxs⟩ := List.pairwise_cons.mp hp
    unfold State.fillFrom
    split
    · next hl =>
      have hf : (s.alarms.unmark m.subject m.kind).marks = ms := by
        have none_else : ∀ y ∈ ms, (!y.isPair m.subject m.kind) = true := fun y hy => by
          refine Bool.not_eq_true' _ ▸ Bool.eq_false_iff.mpr fun k => ?_
          obtain ⟨ys, yk⟩ := (y.isPair_iff _ _).mp k
          exact Mark.before_irrefl (hx y hy) ⟨ys.symm, yk.symm⟩
        have hself : m.isPair m.subject m.kind = true := (m.isPair_iff _ _).mpr ⟨rfl, rfl⟩
        simp only [Alarms.unmark, hm]
        rw [List.filter_cons_of_neg (by simp [hself]), List.filter_eq_self.mpr none_else]
      rw [ih _ (by simpa [State.listNew, State.withAlarms, State.noticeEntry, Alarms.append] using hf) hxs]
      obtain ⟨n, hn⟩ : ∃ n, 64 - s.alarms.entries.length = n + 1 := ⟨63 - s.alarms.entries.length, by omega⟩
      have hn' : 64 - (s.alarms.entries.length + 1) = n := by omega
      simp only [Alarms.filled, State.listNew, State.withAlarms, State.noticeEntry, Alarms.append, hf,
        List.length_append, List.length_singleton]
      simp [Alarms.unmark, hm, hn, hn', Mark.entered]
    · next hl =>
      have h0 : 64 - s.alarms.entries.length = 0 := by omega
      simp [Alarms.filled, h0]

theorem State.fill_alarms (s : State) (hp : s.alarms.marks.Pairwise fun x y => x.before y = true) :
    s.fill.alarms = s.alarms.filled s.uptime := State.fillFrom_alarms _ s rfl hp

/-! ### Acknowledgements (R110) -/

/-- What an acknowledgement leaves of an entry of its pair: none of an inactive one. -/
def AlarmEntry.acked (st : Station) (x : AlarmEntry) : Option AlarmEntry :=
  if x.active then some { x with ackBy := x.ackBy.or (some st) } else none

/-- What an acknowledgement leaves of a mark of its pair. -/
def Mark.acked (st : Station) (m : Mark) : Mark := { m with ackBy := m.ackBy.or (some st) }

/-- The list and the marks once what `f` and `g` name is acknowledged. -/
def Alarms.acked (st : Station) (f : AlarmEntry → Bool) (g : Mark → Bool) (a : Alarms) : Alarms :=
  { a with
    entries := a.entries.filterMap fun x => if f x then x.acked st else some x
    marks := a.marks.map fun m => if g m then m.acked st else m }

/-- The part of R104 that acknowledgements keep: no pair twice, marks in their order, no pair listed and marked. -/
structure Alarms.PairsWf (a : Alarms) : Prop where
  entries : a.entries.Pairwise AlarmEntry.Differs
  marks : a.marks.Pairwise fun x y => x.before y = true
  apart : ∀ x ∈ a.entries, ∀ m ∈ a.marks, m.isPair x.subject x.kind = false

theorem Alarms.Wf.pairsWf {a : Alarms} (h : a.Wf) : a.PairsWf := by
  obtain ⟨-, he, -, hm, hd, -⟩ := h
  refine ⟨he, hm, fun x hx m hm => Bool.eq_false_iff.mpr fun k => ?_⟩
  obtain ⟨ks, kk⟩ := (m.isPair_iff _ _).mp k
  have := Alarms.entry_none.mp (hd m hm) x hx
  rw [ks, kk, (x.isPair_iff _ _).mpr ⟨rfl, rfl⟩] at this
  cases this

theorem AlarmEntry.acked_pair {st : Station} {x y : AlarmEntry} (h : x.acked st = some y) :
    y.subject = x.subject ∧ y.kind = x.kind := by
  unfold AlarmEntry.acked at h
  split at h
  · cases h
    exact ⟨rfl, rfl⟩
  · cases h

theorem AlarmEntry.ifAcked_pair {st : Station} {c : Bool} {x y : AlarmEntry}
    (h : (if c then x.acked st else some x) = some y) : y.subject = x.subject ∧ y.kind = x.kind := by
  cases c
  · cases h
    exact ⟨rfl, rfl⟩
  · exact AlarmEntry.acked_pair h

theorem Mark.ifAcked_pair (st : Station) (c : Bool) (m : Mark) :
    (if c then m.acked st else m).subject = m.subject ∧ (if c then m.acked st else m).kind = m.kind := by
  cases c <;> exact ⟨rfl, rfl⟩

theorem Alarms.PairsWf.acked {a : Alarms} (h : a.PairsWf) (st : Station) (f : AlarmEntry → Bool) (g : Mark → Bool) :
    (a.acked st f g).PairsWf where
  entries := by
    refine List.Pairwise.filterMap _ (fun x y hxy x' hx y' hy => ?_) h.entries
    obtain ⟨xs, xk⟩ := AlarmEntry.ifAcked_pair hx
    obtain ⟨ys, yk⟩ := AlarmEntry.ifAcked_pair hy
    rwa [AlarmEntry.Differs, xs, xk, ys, yk]
  marks := by
    refine List.Pairwise.map _ (fun x y hxy => ?_) h.marks
    obtain ⟨xs, xk⟩ := Mark.ifAcked_pair st (g x) x
    obtain ⟨ys, yk⟩ := Mark.ifAcked_pair st (g y) y
    rwa [Mark.before, xs, xk, ys, yk]
  apart := by
    intro x hx m hm
    obtain ⟨x₀, hx₀, hx⟩ := List.mem_filterMap.mp hx
    obtain ⟨m₀, hm₀, rfl⟩ := List.mem_map.mp hm
    obtain ⟨xs, xk⟩ := AlarmEntry.ifAcked_pair hx
    obtain ⟨ms, mk⟩ := Mark.ifAcked_pair st (g m₀) m₀
    have := h.apart x₀ hx₀ m₀ hm₀
    rw [Mark.isPair] at this ⊢
    rwa [xs, xk, ms, mk]

namespace Alarms.PairsWf

variable {a : Alarms} {j : Subject} {k : AlarmKind}

/-- The entry of a pair is the only one of it. -/
theorem entry_unique (h : a.PairsWf) {x : AlarmEntry} (he : a.entry j k = some x) {y : AlarmEntry} (hy : y ∈ a.entries) :
    y.isPair j k = true ↔ y = x := by
  obtain ⟨hx, rfl, rfl⟩ := Alarms.entry_some he
  refine ⟨AlarmEntry.eq_of_pair h.entries hy hx, ?_⟩
  rintro rfl
  exact (y.isPair_iff _ _).mpr ⟨rfl, rfl⟩

/-- The mark of a pair is the only one of it. -/
theorem mark_unique (h : a.PairsWf) {m : Mark} (hm : a.mark j k = some m) {y : Mark} (hy : y ∈ a.marks)
    (hp : y.isPair j k = true) : y = m := by
  obtain ⟨hmem, hmp⟩ := Alarms.mark_some hm
  obtain ⟨ms, mk⟩ := (m.isPair_iff _ _).mp hmp
  obtain ⟨ys, yk⟩ := (y.isPair_iff _ _).mp hp
  by_contra hne
  rcases pairwise_either h.marks hy hmem hne with b | b
  · exact Mark.before_irrefl b ⟨ys.trans ms.symm, yk.trans mk.symm⟩
  · exact Mark.before_irrefl b ⟨ms.trans ys.symm, mk.trans yk.symm⟩

/-- An acknowledgement of a listed pair works on its entry. -/
theorem acked_of_entry (h : a.PairsWf) {x : AlarmEntry} (he : a.entry j k = some x) (st : Station) :
    a.acked st (fun x => x.isPair j k) (fun m => m.isPair j k) =
      { a with entries := a.entries.filterMap fun y => if y = x then x.acked st else some y } := by
  obtain ⟨hx, xs, xk⟩ := Alarms.entry_some he
  have entries : (a.entries.filterMap fun y => if y.isPair j k then y.acked st else some y) =
      a.entries.filterMap fun y => if y = x then x.acked st else some y :=
    List.filterMap_congr fun y hy => by
      by_cases hp : y = x
      · rw [if_pos ((h.entry_unique he hy).mpr hp), if_pos hp, hp]
      · rw [if_neg (fun k => hp ((h.entry_unique he hy).mp k)), if_neg hp]
  have marks : (a.marks.map fun m => if m.isPair j k then m.acked st else m) = a.marks :=
    (List.map_congr_left fun m hm => if_neg (by
      rw [← xs, ← xk, h.apart x hx m hm]
      exact Bool.false_ne_true)).trans (List.map_id _)
  rw [Alarms.acked, entries, marks]

/-- An acknowledgement of a pair that is not listed works on its mark. -/
theorem acked_of_noEntry (he : a.entry j k = none) (st : Station) :
    a.acked st (fun x => x.isPair j k) (fun m => m.isPair j k) =
      { a with marks := a.marks.map fun m => if m.isPair j k then m.acked st else m } := by
  have entries : (a.entries.filterMap fun y => if y.isPair j k then y.acked st else some y) = a.entries :=
    (List.filterMap_congr fun y hy => if_neg (by
      rw [Alarms.entry_none.mp he y hy]
      exact Bool.false_ne_true)).trans List.filterMap_some
  rw [Alarms.acked, entries]

end Alarms.PairsWf

theorem AlarmEntry.acked_of_inactive {x : AlarmEntry} (h : x.active = false) (st : Station) : x.acked st = none := by
  rw [AlarmEntry.acked, h]
  rfl

theorem AlarmEntry.acked_of_unacked {x : AlarmEntry} (h : x.active = true) (ha : x.ackBy = none) (st : Station) :
    x.acked st = some { x with ackBy := some st } := by
  rw [AlarmEntry.acked, if_pos h, ha]
  rfl

theorem AlarmEntry.acked_of_acked {x : AlarmEntry} (h : x.active = true) (ha : x.ackBy ≠ none) (st : Station) :
    x.acked st = some x := by
  obtain ⟨by_, hb⟩ := Option.ne_none_iff_exists'.mp ha
  rw [AlarmEntry.acked, if_pos h, hb]
  exact congrArg (fun v => some { x with ackBy := v }) hb.symm

/-- Every entry but one stays in its place. -/
theorem filterMap_replace {α : Type} [DecidableEq α] (l : List α) (x y : α) :
    (l.filterMap fun z => if z = x then some y else some z) = l.map fun z => if z = x then y else z := by
  rw [← List.filterMap_eq_map]
  exact List.filterMap_congr fun z _ => by
    dsimp only [Function.comp]
    split <;> rfl

/-- Every entry but one is kept. -/
theorem filterMap_remove {α : Type} [DecidableEq α] (l : List α) (x : α) :
    (l.filterMap fun z => if z = x then none else some z) = l.filter fun z => z != x := by
  rw [← List.filterMap_eq_filter]
  exact List.filterMap_congr fun z _ => by
    by_cases h : z = x
    · simp [Option.guard, h]
    · simp [Option.guard, h]

/-- Nothing changes where an entry takes its own place. -/
theorem filterMap_replace_self {α : Type} [DecidableEq α] (l : List α) (x : α) :
    (l.filterMap fun z => if z = x then some x else some z) = l :=
  (List.filterMap_congr fun z _ => by
    split
    · next h => rw [h]
    · rfl).trans List.filterMap_some

/-- An acknowledgement of a pair (R110). -/
theorem State.takeAck_alarms (s : State) (h : s.alarms.PairsWf) (j : Subject) (k : AlarmKind) (st : Station) :
    (s.takeAck j k st).alarms = s.alarms.acked st (fun x => x.isPair j k) fun m => m.isPair j k := by
  unfold State.takeAck
  cases he : s.alarms.entry j k with
  | some x =>
    obtain ⟨-, xs, xk⟩ := Alarms.entry_some he
    rw [h.acked_of_entry he]
    dsimp only
    split
    next ha hb =>
      have hrep : (s.alarms.entries.map fun y => if y.isPair x.subject x.kind then { x with ackBy := some st } else y) =
          s.alarms.entries.map fun y => if y = x then { x with ackBy := some st } else y :=
        List.map_congr_left fun y hy => by simp only [xs, xk, h.entry_unique he hy]
      rw [AlarmEntry.acked_of_unacked ha hb, filterMap_replace, ← hrep]
      rfl
    next ha hb => rw [AlarmEntry.acked_of_acked ha (by rw [hb]; nofun), filterMap_replace_self]
    next ha =>
      have hrem : (s.alarms.entries.filter fun y => !y.isPair x.subject x.kind) = s.alarms.entries.filter fun y => y != x :=
        List.filter_congr fun y hy => by
          rw [Bool.eq_iff_iff, Bool.not_eq_true', Bool.eq_false_iff, xs, xk, Ne, h.entry_unique he hy, bne_iff_ne]
      rw [AlarmEntry.acked_of_inactive ha, filterMap_remove, ← hrem]
      rfl
  | none =>
    rw [Alarms.PairsWf.acked_of_noEntry he]
    have marks : ∀ l, (s.alarms.marks.map fun m => if m.isPair j k then m.acked st else m) = l →
        ({ s.alarms with marks := s.alarms.marks.map fun m => if m.isPair j k then m.acked st else m } : Alarms) =
          { s.alarms with marks := l } := fun l hl => by rw [hl]
    cases hm : s.alarms.mark j k with
    | none =>
      have nm : ∀ m ∈ s.alarms.marks, m.isPair j k = false := by simpa [Alarms.mark] using hm
      exact (marks _ ((List.map_congr_left fun m hmm => if_neg (by
        rw [nm m hmm]
        exact Bool.false_ne_true)).trans (List.map_id _))).symm
    | some m =>
      obtain ⟨hmem, hp⟩ := Alarms.mark_some hm
      obtain ⟨ms, mk⟩ := (m.isPair_iff _ _).mp hp
      have all : (s.alarms.marks.map fun y => if y.isPair j k then y.acked st else y) =
          s.alarms.marks.map fun y => if y.isPair j k then m.acked st else y :=
        List.map_congr_left fun y hy => by
          split
          · next hyp => rw [h.mark_unique hm hy hyp]
          · rfl
      cases hb : m.ackBy with
      | none =>
        have ha : m.acked st = ⟨j, k, some st⟩ := by
          rw [Mark.acked, hb, ← ms, ← mk]
          rfl
        rw [marks _ (all.trans (by rw [ha])),
          ← insertMark_replace h.marks (new := ⟨j, k, some st⟩) hmem ms mk]
        dsimp only
        rw [hb]
        rfl
      | some by_ =>
        have ha : m.acked st = m := by
          rw [Mark.acked, hb]
          exact congrArg (fun v => { m with ackBy := v }) hb.symm
        dsimp only
        rw [hb]
        refine (marks _ (all.trans ?_)).symm
        rw [ha]
        refine (List.map_congr_left fun y hy => ?_).trans (List.map_id _)
        split
        · next hyp => exact (h.mark_unique hm hy hyp).symm
        · rfl

end Sys2Proof.Machine
end


section
/-! SUPPORT. ACK and ACK-ALL (R36, R110 to R112). -/

namespace Sys2Proof.Machine

open Sys2Proof

/-! ### The alarm list at the end of an event -/

theorem State.updateLive_alarms (s : State) : s.updateLive.alarms = s.alarms := by
  unfold State.updateLive State.judgeFreeze
  split
  · rfl
  · split <;> rfl

/-- Where no bank is swapped, the alarm list of the end of an event is what its requests leave of it. -/
theorem Ev.settle_alarms {e : Ev} (h : e.swapIfQuiescent = e) :
    e.settle.alarms = (e.arbiters.toState.takeReqs false e.reqs).alarms := by
  have hr : e.arbiters.reqs = e.reqs := by rw [e.arbiters_arbitrates.rest]
  rw [e.settle_eq h, State.sendPolls_rest, Ev.arbitrated]
  dsimp only
  rw [State.updateLive_alarms, Ev.takeAlarms, hr]

/-- The arbiters change neither the alarm list nor the uptime. -/
theorem Ev.arbiters_alarms (e : Ev) : e.arbiters.alarms = e.alarms ∧ e.arbiters.uptime = e.uptime := by
  rw [e.arbiters_arbitrates.rest]
  exact ⟨rfl, rfl⟩

/-- With no queue head that fits, no door changes at the end of an event. -/
theorem Ev.settle_doors {e : Ev} (h : e.swapIfQuiescent = e) (ha : e.Arbitrated) : e.settle.doors = e.doors := by
  rw [e.settle_eq h, State.sendPolls_rest, Ev.arbitrated_rest, Ev.arbiters_of_arbitrated ha]

/-! ### ACK (R110) -/

theorem State.reqRemoves_ack_of_entry {s : State} {j : Subject} {k : AlarmKind} {x : AlarmEntry}
    (h : s.alarms.entry j k = some x) (st : Station) : s.reqRemoves (.ack j k st) = !x.active := by
  simp only [State.reqRemoves, h]

theorem State.reqRemoves_ack_of_noEntry {s : State} {j : Subject} {k : AlarmKind} (h : s.alarms.entry j k = none)
    (st : Station) : s.reqRemoves (.ack j k st) = false := by
  simp only [State.reqRemoves, h]

/-- What the acknowledgement of one pair leaves of the list and the marks. -/
theorem State.acked_of_takeReqs {s u t : State} (h : s.alarms.Wf) (ha : u.alarms = s.alarms) (hu : u.uptime = s.uptime)
    {j : Subject} {k : AlarmKind} {st : Station} (ht : t.alarms = (u.takeReqs false [.ack j k st]).alarms) :
    s.Acked t j k st := by
  have hw := h.pairsWf
  have htake : (u.takeAck j k st).alarms = s.alarms.acked st (fun x => x.isPair j k) fun m => m.isPair j k := by
    rw [u.takeAck_alarms (ha ▸ hw), ha]
  obtain ⟨hlen, hdiff, -, hmarks, -, hfull⟩ := h
  rw [State.takeReqs_one] at ht
  refine ⟨fun x he => ?_, fun he => ?_⟩
  · have hrm : u.reqRemoves (.ack j k st) = !x.active := State.reqRemoves_ack_of_entry (ha ▸ he) st
    have keep : x.active = true → t.alarms = { s.alarms with
        entries := s.alarms.entries.filterMap fun y => if y = x then x.acked st else some y } := fun hx => by
      rw [ht, hrm, hx]
      exact htake.trans (hw.acked_of_entry he st)
    refine ⟨fun hx hb => ?_, fun hx hb => ?_, fun hx => ?_⟩
    · rw [keep hx, AlarmEntry.acked_of_unacked hx hb, filterMap_replace]
      exact ⟨rfl, rfl⟩
    · rw [keep hx, AlarmEntry.acked_of_acked hx hb, filterMap_replace_self]
      exact ⟨rfl, rfl⟩
    · have hrem : (u.takeAck j k st).alarms = { s.alarms with entries := s.alarms.entries.filter fun y => y != x } := by
        rw [htake, hw.acked_of_entry he, AlarmEntry.acked_of_inactive hx, filterMap_remove]
      have hfill : t.alarms = (u.takeAck j k st).alarms.filled s.uptime := by
        rw [ht, hrm, hx]
        refine (State.fill_alarms _ (by rw [State.takeReq, hrem]; exact hmarks)).trans ?_
        rw [State.takeReq, (u.takeAck_works j k st).uptime, hu]
      have hroom : (s.alarms.marks ≠ [] → 64 - (s.alarms.entries.filter fun y => y != x).length = 1) := fun hm => by
        have hx' := (Alarms.entry_some he).1
        have hnd : s.alarms.entries.Nodup := hdiff.imp fun k hxy => k ⟨congrArg _ hxy, congrArg _ hxy⟩
        have := hnd.erase_eq_filter x ▸ List.length_erase_of_mem hx'
        rw [this, hfull hm]
      rw [hfill, hrem, Alarms.filled]
      by_cases hm : s.alarms.marks = []
      · rw [hm, List.take_nil, List.take_nil, List.drop_nil, List.drop_nil]
        exact ⟨rfl, rfl⟩
      · rw [hroom hm]
        exact ⟨rfl, rfl⟩
  · have hal : t.alarms = s.alarms.acked st (fun x => x.isPair j k) fun m => m.isPair j k := by
      rw [ht, State.reqRemoves_ack_of_noEntry (ha ▸ he)]
      exact htake
    rw [hal, Alarms.PairsWf.acked_of_noEntry he]
    refine ⟨rfl, List.map_congr_left fun m _ => ?_⟩
    by_cases hp : m.isPair j k = true
    · obtain ⟨ms, mk⟩ := (m.isPair_iff _ _).mp hp
      rw [if_pos hp, Mark.acked]
      cases hb : m.ackBy with
      | none => exact (if_pos ⟨ms, mk, rfl⟩).symm
      | some by_ =>
        rw [if_neg fun k => nomatch k.2.2]
        exact congrArg (fun v => { m with ackBy := v }) hb.symm
    · rw [if_neg hp, if_neg fun q => hp ((m.isPair_iff _ _).mpr ⟨q.1, q.2.1⟩)]

/-- An ACK that re-arms no door only hands the acknowledgement. -/
theorem Ev.ackOne_of_not_failed (e : Ev) (j : Subject) (k : AlarmKind) (src : Station)
    (h : ∀ d : Slot, j = .door d → k = .closeFailed → e.doors[d].phase ≠ .failed) :
    e.ackOne j k src = e.push (.ack j k src) := by
  unfold Ev.ackOne
  split
  · next d => exact if_neg (h d rfl rfl)
  · rfl

/-- Settles O27: the one request of the event is the acknowledgement, and a settled part admits no door. -/
theorem ackMarksTheEntry : Obligations.AckMarksTheEntry := by
  intro s route subject kind tag j k p hc hj hp hr ho hf hwf hset
  have hrow : panelRow (.ack route subject kind tag) =
      some ⟨route, [8, subject, kind, tag], tag, 8, cmdAck subject kind⟩ := rfl
  have hact : (cmdAck subject kind).act route.src p s.begin = (s.begin.push (.ack j k route.src), .done) := by
    simp only [cmdAck, hj, s.begin.ackOne_of_not_failed j k route.src hf]
  have hq : ((s.begin.push (.ack j k route.src)).answer route.src tag 8 .done).swapIfQuiescent =
      (s.begin.push (.ack j k route.src)).answer route.src tag 8 .done := Ev.swapIfQuiescent_of_waits hset.2.1
  refine ⟨_, by rw [exec_panelRow_of_accepted hrow hc hp hr ho, hact], ?_, ?_, ?_⟩
  · exact (Ev.settle_outer _).trans (Ev.answer_outer rfl _ _ _ _)
  · exact Ev.settle_doors hq hset.2.2.1
  · exact State.acked_of_takeReqs hwf (Ev.arbiters_alarms _).1 (Ev.arbiters_alarms _).2 (Ev.settle_alarms hq)

end Sys2Proof.Machine
end


section
/-! SUPPORT. ACK-ALL (R36, R111, R112): its pass over the list and the marks, and the re-arm of FAILED doors. -/

namespace Sys2Proof.Machine

open Sys2Proof

/-! ### The pass over the list and the marks (R111) -/

theorem AlarmEntry.acked_again {st : Station} {x y : AlarmEntry} (h : x.acked st = some y) : y.acked st = some y := by
  unfold AlarmEntry.acked at h
  split at h
  · next hx =>
    cases h
    exact AlarmEntry.acked_of_acked (x := { x with ackBy := x.ackBy.or (some st) }) hx (by cases x.ackBy <;> nofun) st
  · cases h

theorem Mark.acked_again (st : Station) (m : Mark) : (m.acked st).acked st = m.acked st := by
  unfold Mark.acked
  cases m.ackBy <;> rfl

/-- Two acknowledgements by one station are one. -/
theorem Alarms.acked_acked (a : Alarms) (st : Station) (f f' : AlarmEntry → Bool) (g g' : Mark → Bool) :
    (a.acked st f g).acked st f' g' = a.acked st (fun x => f x || f' x) fun m => g m || g' m := by
  have entry : ∀ x, ((if f x then x.acked st else some x).bind fun y => if f' y then y.acked st else some y) =
      if f x || f' x then x.acked st else some x := fun x => by
    cases hx : f x with
    | false => simp
    | true =>
      cases hy : x.acked st with
      | none => rfl
      | some y => simp [AlarmEntry.acked_again hy]
  have mark : ∀ m : Mark, (if g' (if g m then m.acked st else m) then (if g m then m.acked st else m).acked st
      else if g m then m.acked st else m) = if g m || g' m then m.acked st else m := fun m => by
    cases hm : g m with
    | false => simp
    | true => simp [Mark.acked_again]
  simp only [Alarms.acked, List.filterMap_filterMap, List.map_map, entry, Function.comp_def, mark]

theorem Alarms.acked_congr {a : Alarms} {st : Station} {f f' : AlarmEntry → Bool} {g g' : Mark → Bool}
    (hf : ∀ x ∈ a.entries, f x = f' x) (hg : ∀ m ∈ a.marks, g m = g' m) : a.acked st f g = a.acked st f' g' := by
  rw [Alarms.acked, Alarms.acked, List.filterMap_congr fun x hx => by rw [hf x hx],
    List.map_congr_left fun m hm => by rw [hg m hm]]

theorem Alarms.acked_none (a : Alarms) (st : Station) : a.acked st (fun _ => false) (fun _ => false) = a := by
  simp [Alarms.acked]

/-- Acknowledgements of pairs, one after the other. -/
theorem State.foldl_takeAck_alarms (l : List (Subject × AlarmKind)) (st : Station) (s : State) (h : s.alarms.PairsWf) :
    ((l.map fun q => AlarmReq.ack q.1 q.2 st).foldl State.takeReq s).alarms =
      s.alarms.acked st (fun x => l.any fun q => x.isPair q.1 q.2) fun m => l.any fun q => m.isPair q.1 q.2 := by
  induction l generalizing s with
  | nil => exact (s.alarms.acked_none st).symm
  | cons q l ih =>
    have hq := s.takeAck_alarms h q.1 q.2 st
    rw [List.map_cons, List.foldl_cons, State.takeReq, ih _ (by rw [hq]; exact h.acked st _ _), hq,
      Alarms.acked_acked]
    rfl

/-- The word that the removals are done is a later removal. -/
theorem State.laterRemoves_removalsDone (s : State) (rs : List AlarmReq) :
    s.laterRemoves (rs ++ [.removalsDone]) = true := by
  induction rs generalizing s with
  | nil => rfl
  | cons r rs ih => rw [List.cons_append, State.laterRemoves, ih, Bool.or_true]

/-- The requests of a pass over pairs. -/
def ackReqs (l : List (Subject × AlarmKind)) (st : Station) : List AlarmReq := l.map fun q => .ack q.1 q.2 st

/-- An acknowledgement that removes no entry keeps the length of the list. -/
theorem State.takeAck_length {s : State} (h : s.alarms.PairsWf) {j : Subject} {k : AlarmKind} {st : Station}
    (hr : s.reqRemoves (.ack j k st) = false) :
    (s.takeAck j k st).alarms.entries.length = s.alarms.entries.length := by
  rw [s.takeAck_alarms h]
  cases he : s.alarms.entry j k with
  | none => rw [Alarms.PairsWf.acked_of_noEntry he]
  | some x =>
    have hx : x.active = true := by
      rw [State.reqRemoves_ack_of_entry he] at hr
      simpa using hr
    rw [h.acked_of_entry he]
    by_cases hb : x.ackBy = none
    · rw [AlarmEntry.acked_of_unacked hx hb, filterMap_replace, List.length_map]
    · rw [AlarmEntry.acked_of_acked hx hb, filterMap_replace_self]

/-- Before the word that the removals are done nothing is filled; with it the room is filled if they freed any. -/
theorem State.takeReqs_ackReqs (l : List (Subject × AlarmKind)) (st : Station) (s : State) (freed : Bool)
    (h : s.alarms.PairsWf) :
    s.takeReqs freed (ackReqs l st ++ [.removalsDone]) = ((ackReqs l st).foldl State.takeReq s).fill
      ∨ s.takeReqs freed (ackReqs l st ++ [.removalsDone]) = (ackReqs l st).foldl State.takeReq s ∧ freed = false
        ∧ ((ackReqs l st).foldl State.takeReq s).alarms.entries.length = s.alarms.entries.length := by
  induction l generalizing s freed with
  | nil =>
    cases freed
    · exact .inr ⟨rfl, rfl, rfl⟩
    · exact .inl rfl
  | cons q l ih =>
    have hw : (s.takeReq (.ack q.1 q.2 st)).alarms.PairsWf := by
      rw [State.takeReq, s.takeAck_alarms h]
      exact h.acked st _ _
    have ih := ih _ (freed || s.reqRemoves (.ack q.1 q.2 st)) hw
    rw [ackReqs] at ih ⊢
    rw [List.map_cons, List.cons_append, State.takeReqs, State.laterRemoves_removalsDone, Bool.not_true,
      Bool.and_false, if_neg Bool.false_ne_true, List.foldl_cons]
    refine ih.imp id ?_
    rintro ⟨hk, hf, hl⟩
    obtain ⟨hf, hr⟩ := Bool.or_eq_false_iff.mp hf
    exact ⟨hk, hf, hl.trans (State.takeAck_length h hr)⟩

/-- The pass of an ACK-ALL: what the panel covers is acknowledged, then the room is filled (R111). -/
theorem State.takeReqs_ackAllReqs {s u : State} (h : s.alarms.Wf) (ha : u.alarms = s.alarms)
    (hu : u.uptime = s.uptime) (p : PanelRec) (st : Station) :
    (u.takeReqs false (s.alarms.ackAllReqs p st)).alarms =
      (s.alarms.acked st (fun x => p.covers x.subject) fun m => p.covers m.subject).filled s.uptime := by
  obtain ⟨l, hl⟩ : ∃ l : List (Subject × AlarmKind), l =
      (s.alarms.entries.filter fun x => p.covers x.subject).map (fun x => (x.subject, x.kind))
        ++ (s.alarms.marks.filter fun x => p.covers x.subject).map (fun x => (x.subject, x.kind)) := ⟨_, rfl⟩
  have hreqs : s.alarms.ackAllReqs p st = ackReqs l st ++ [.removalsDone] := by
    rw [hl, ackReqs, List.map_append, List.map_map, List.map_map]
    rfl
  have covers : ∀ q ∈ l, p.covers q.1 = true := fun q hq => by
    rw [hl, List.mem_append, List.mem_map, List.mem_map] at hq
    rcases hq with ⟨x, hx, rfl⟩ | ⟨x, hx, rfl⟩ <;> exact (List.mem_filter.mp hx).2
  have hw := h.pairsWf
  have hpass : ((ackReqs l st).foldl State.takeReq u).alarms =
      s.alarms.acked st (fun x => p.covers x.subject) fun m => p.covers m.subject := by
    rw [ackReqs, State.foldl_takeAck_alarms l st u (ha ▸ hw), ha]
    refine Alarms.acked_congr (fun x hx => ?_) fun m hm => ?_
    · rw [Bool.eq_iff_iff, List.any_eq_true]
      constructor
      · rintro ⟨q, hq, hp⟩
        rw [((x.isPair_iff _ _).mp hp).1]
        exact covers q hq
      · intro hc
        refine ⟨(x.subject, x.kind), ?_, (x.isPair_iff _ _).mpr ⟨rfl, rfl⟩⟩
        rw [hl]
        exact List.mem_append_left _ (List.mem_map_of_mem (List.mem_filter.mpr ⟨hx, hc⟩))
    · rw [Bool.eq_iff_iff, List.any_eq_true]
      constructor
      · rintro ⟨q, hq, hp⟩
        rw [((m.isPair_iff _ _).mp hp).1]
        exact covers q hq
      · intro hc
        refine ⟨(m.subject, m.kind), ?_, (m.isPair_iff _ _).mpr ⟨rfl, rfl⟩⟩
        rw [hl]
        exact List.mem_append_right _ (List.mem_map_of_mem (List.mem_filter.mpr ⟨hm, hc⟩))
  have hup : ((ackReqs l st).foldl State.takeReq u).uptime = s.uptime :=
    (foldl_keeps State.uptime State.takeReq (fun s r => (s.takeReq_works r).uptime) _ u).trans hu
  have hwp := hw.acked st (fun x => p.covers x.subject) fun m => p.covers m.subject
  rw [hreqs]
  rcases u.takeReqs_ackReqs l st false (ha ▸ hw) with k | ⟨k, -, hlen⟩
  · rw [k, State.fill_alarms _ (by rw [hpass]; exact hwp.marks), hpass, hup]
  · rw [k, hpass, Alarms.filled_of_full]
    rw [hpass, ha] at hlen
    by_cases hm : s.alarms.marks = []
    · exact .inl (by rw [Alarms.acked, hm]; rfl)
    · exact .inr (by rw [hlen, h.2.2.2.2.2 hm])

/-- Entries acknowledged or removed, as R111 says it. -/
theorem filterMap_acked (l : List AlarmEntry) (f : AlarmEntry → Bool) (st : Station) :
    (l.filterMap fun x => if f x then x.acked st else some x) =
      (l.filter fun x => !f x || x.active).map fun x =>
        if f x && x.ackBy.isNone then { x with ackBy := some st } else x := by
  rw [← List.filterMap_eq_map, ← List.filterMap_eq_filter, List.filterMap_filterMap]
  refine List.filterMap_congr fun x _ => ?_
  cases hf : f x with
  | false => simp [Option.guard, hf]
  | true =>
    cases hx : x.active with
    | false => simp [Option.guard, hf, hx, AlarmEntry.acked]
    | true =>
      by_cases hb : x.ackBy = none
      · simp [Option.guard, hf, hx, AlarmEntry.acked_of_unacked hx hb, hb]
      · simp [Option.guard, hf, hx, AlarmEntry.acked_of_acked hx hb, hb]

theorem map_acked (l : List Mark) (g : Mark → Bool) (st : Station) :
    (l.map fun m => if g m then m.acked st else m) =
      l.map fun m => if g m && m.ackBy.isNone then { m with ackBy := some st } else m := by
  refine List.map_congr_left fun m _ => ?_
  cases hg : g m with
  | false => rfl
  | true =>
    cases hb : m.ackBy with
    | none => simp [Mark.acked, hb]
    | some by_ =>
      rw [Mark.acked, hb]
      exact congrArg (fun v => { m with ackBy := v }) hb.symm

/-! ### The re-arm of a door (R112) -/

/-- What the re-arm makes of a door record (R25, R112). -/
def Door.rearmed (held : Bool) (now : Time) (x : Door) : Door :=
  if x.phase = .failed then
    if x.handleOpen = true then { x with phase := .heldLocal, timer := .none, retry := 0 }
    else ({ x with phase := .idle, timer := .none, retry := 0 } : Door).closeChecked held now .order
  else x

/-- A queue request hands no alarm request while no run is in progress on the door's branch. -/
theorem Ev.needClose_reqs (e : Ev) (d : Slot) (o : Origin) (h : e.NoRunFor d) : (e.needClose d o).reqs = e.reqs := by
  unfold Ev.needClose Ev.request
  rw [e.abortFor_of_noRun d h]
  dsimp only
  repeat' split
  all_goals rfl

/-- Nothing but the records of doors differs. -/
abbrev Ev.SameButDoors (e e' : Ev) : Prop := e' = { e with doors := e'.doors }

theorem Ev.Touches.sameButDoors {d : Slot} {e e' : Ev} (h : Ev.Touches d e e') (hr : e'.reqs = e.reqs) :
    e.SameButDoors e' := by
  have := h.rest
  cases e'
  dsimp only at hr this ⊢
  rw [this, hr]

theorem Ev.rearm_spec (e : Ev) (d : Slot) (h : e.doors[d].phase = .failed → e.NoRunFor d) :
    e.SameButDoors (e.rearm d) ∧ (∀ x : Slot, x ≠ d → (e.rearm d).doors[x] = e.doors[x])
      ∧ (e.rearm d).doors[d] = e.doors[d].rearmed (e.orderHeld d) e.uptime := by
  unfold Ev.rearm Door.rearmed
  split
  · next hf =>
    have hz : (e.zeroRetry d).NoRunFor d := (e.zeroRetry_touches d).noRunFor (h hf)
    dsimp only
    split
    · have ht := (e.zeroRetry_touches d).trans (Ev.toPhase_touches _ d .heldLocal)
      exact ⟨ht.sameButDoors rfl, fun x hx => ht.other hx, by rw [Ev.toPhase_door, Ev.zeroRetry_door]⟩
    · have h1 := (e.zeroRetry_touches d).trans (Ev.toPhase_touches _ d .idle)
      have hn := h1.noRunFor (h hf)
      have ht := h1.trans (Ev.needClose_touches _ d .order hn)
      refine ⟨ht.sameButDoors (Ev.needClose_reqs _ d _ hn), fun x hx => ht.other hx, ?_⟩
      rw [Ev.needClose_door _ d _ hn, Ev.toPhase_door, Ev.zeroRetry_door, h1.orderHeld, h1.uptime]
  · exact ⟨rfl, fun _ _ => rfl, rfl⟩

theorem Ev.SameButDoors.noRunFor {e e' : Ev} (h : e.SameButDoors e') {d : Slot} (hn : e.NoRunFor d) : e'.NoRunFor d := by
  rw [h]
  exact hn

theorem Ev.SameButDoors.orderHeld {e e' : Ev} (h : e.SameButDoors e') (d : Slot) : e'.orderHeld d = e.orderHeld d := by
  rw [h]
  rfl

theorem Ev.SameButDoors.trans {e₁ e₂ e₃ : Ev} (h : e₁.SameButDoors e₂) (k : e₂.SameButDoors e₃) : e₁.SameButDoors e₃ := by
  rw [Ev.SameButDoors, k, h]

/-- A door in FAILED after the re-arm of another door was so before it. -/
theorem Door.rearmed_not_failed (held : Bool) (now : Time) (x : Door) : (x.rearmed held now).phase ≠ .failed := by
  unfold Door.rearmed Door.closeChecked
  repeat' split
  all_goals first
    | assumption
    | nofun

/-- The re-arm of every FAILED door among several (R111). -/
theorem Ev.foldl_rearm (l : List Slot) (hl : l.Nodup) (e : Ev) (h : ∀ d : Slot, e.doors[d].phase = .failed → e.NoRunFor d) :
    e.SameButDoors (l.foldl Ev.rearm e) ∧ ∀ x : Slot, (l.foldl Ev.rearm e).doors[x] =
      if x ∈ l then e.doors[x].rearmed (e.orderHeld x) e.uptime else e.doors[x] := by
  induction l generalizing e with
  | nil => exact ⟨rfl, fun x => rfl⟩
  | cons d l ih =>
    obtain ⟨hd, hl⟩ := List.nodup_cons.mp hl
    obtain ⟨hs, hother, hown⟩ := e.rearm_spec d (h d)
    have h' : ∀ x : Slot, (e.rearm d).doors[x].phase = .failed → (e.rearm d).NoRunFor x := fun x hx => by
      refine hs.noRunFor (h x ?_)
      by_cases hxd : x = d
      · rw [hxd, hown] at hx
        exact absurd hx (Door.rearmed_not_failed _ _ _)
      · rwa [← hother x hxd]
    obtain ⟨ks, kd⟩ := ih hl _ h'
    refine ⟨hs.trans ks, fun x => ?_⟩
    have hu : (e.rearm d).uptime = e.uptime := by rw [hs]
    rw [List.foldl_cons, kd x, hs.orderHeld, hu]
    by_cases hxd : x = d
    · subst hxd
      rw [if_neg hd, hown, if_pos List.mem_cons_self]
    · rw [hother x hxd]
      simp only [List.mem_cons, hxd, false_or]

end Sys2Proof.Machine
end


section
/-! SUPPORT. ACK-ALL (R111): no bank is swapped behind a re-arm, and the re-armed doors. -/

namespace Sys2Proof.Machine

open Sys2Proof

/-- A part whose doors hold what they held is no more quiescent than before. -/
theorem State.PendingWaits.of_busier {s t : State} (h : s.PendingWaits) (hb : t.banks = s.banks) (hs : s.SameSources t)
    (hc : ∀ d : Slot, t.doors[d].committed = s.doors[d].committed)
    (he : ∀ d : Slot, t.doors[d].entry = none → s.doors[d].entry = none) : t.PendingWaits := by
  intro hp
  have hq : s.allQuiescent = false := h ((congrArg (fun b : Banks => (b.find .pending).isSome) hb).symm.trans hp)
  refine Bool.eq_false_iff.mpr fun k => absurd hq (Bool.eq_false_iff.not.mpr (not_not.mpr ?_))
  have hg : ∀ g, t.groupDoors g = s.groupDoors g := fun g => by rw [State.groupDoors, hs.fittedDoors, State.groupDoors]
  refine List.all_eq_true.mpr fun g hmem => ?_
  have := List.all_eq_true.mp k g hmem
  simp only [State.quiescent, Bool.and_eq_true, beq_iff_eq, List.isEmpty_iff] at this ⊢
  obtain ⟨h1, h2⟩ := this
  refine ⟨?_, List.eq_nil_iff_forall_not_mem.mpr fun q hq => ?_⟩
  · rw [← h1, State.committed, State.committed, hg]
    simp only [hc]
  · obtain ⟨hv, hgr, hen⟩ := State.mem_queue.mp hq
    cases hte : t.doors[q.slot].entry with
    | none => exact Option.some_ne_none _ (hen.symm.trans (he _ hte))
    | some en =>
      have : (⟨q.slot, q.record, en⟩ : Queued) ∈ t.queue g :=
        State.mem_queue.mpr ⟨(hs.doorRec _).trans hv, hgr, hte⟩
      rw [h2] at this
      cases this

/-- A re-arm keeps what a door commits, and its entry. -/
theorem Door.rearmed_keeps (held : Bool) (now : Time) (x : Door) :
    (x.rearmed held now).committed = x.committed ∧ ((x.rearmed held now).entry = none → x.entry = none) := by
  unfold Door.rearmed Door.closeChecked
  repeat' split
  all_goals first
    | exact ⟨rfl, id⟩
    | exact ⟨rfl, nofun⟩

/-- The re-armed door at the end of the event. -/
theorem State.rearmed_of_admits {s t : State} {d : Slot} (hp : s.doors[d].phase = .failed) (hf : s.doors[d].flowWf = true)
    (ht : t.Admits d (s.doors[d].rearmed (s.orderHeld d) s.uptime)) : s.Rearmed t d := by
  obtain ⟨he, hm⟩ := Door.flowWf_rests hf (by rw [hp]; rfl)
  rw [Door.rearmed, if_pos hp] at ht
  refine ⟨fun hh => ?_, fun hh ho hl hc hk => ?_, fun hh hno => ?_⟩
  · rw [if_pos hh] at ht
    exact ht.of_no_entry he
  · have hx : ({ s.doors[d] with phase := .idle, timer := .none, retry := 0 } : Door).closeChecked (s.orderHeld d)
        s.uptime .order = { s.doors[d].enqueued s.uptime .closing .order .order with retry := 0 } := by
      exact (if_pos ⟨ho, hl, hc, rfl, hk⟩).trans
        ((if_neg fun k => Bool.false_ne_true (hh.symm.trans k)).trans (if_pos hm))
    rw [if_neg (fun k => Bool.false_ne_true (hh.symm.trans k)), hx] at ht
    exact ht.keptOrAdmitted fun en hen => .inl (by cases hen; rfl)
  · have hx : ({ s.doors[d] with phase := .idle, timer := .none, retry := 0 } : Door).closeChecked (s.orderHeld d)
        s.uptime .order = { s.doors[d] with phase := .idle, timer := .none, retry := 0 } := by
      refine if_neg ?_
      rintro ⟨ho, hl, hc, -, hk⟩
      rcases hno with h | h | h | h
      · exact Bool.false_ne_true (h.symm.trans ho)
      · exact h hl
      · exact Bool.false_ne_true (hc.symm.trans h)
      · exact h hk
    rw [if_neg (fun k => Bool.false_ne_true (hh.symm.trans k)), hx] at ht
    exact ht.of_no_entry he

/-- The event of an ACK-ALL: the pass is handed, and the FAILED doors of the door set are re-armed (R111). -/
theorem State.ackAll_spec {s : State} (p : PanelRec) (src : Station)
    (h : ∀ d : Slot, s.doors[d].phase = .failed → s.NoRunFor d) :
    s.begin.ackAll p src = { s.begin with reqs := s.alarms.ackAllReqs p src, doors := (s.begin.ackAll p src).doors }
      ∧ ∀ x : Slot, (s.begin.ackAll p src).doors[x] =
        if p.hasDoor x = true then s.doors[x].rearmed (s.orderHeld x) s.uptime else s.doors[x] := by
  have hx : ∀ x, x ∈ slots.filter p.hasDoor ↔ p.hasDoor x = true := by
    simp [slots, List.mem_finRange]
  obtain ⟨hs, hd⟩ := Ev.foldl_rearm (slots.filter p.hasDoor) ((List.nodup_finRange 64).filter _)
    { s.begin with reqs := s.alarms.ackAllReqs p src } h
  exact ⟨hs, fun x => (hd x).trans (by simp only [hx]; rfl)⟩

/-- The marks that enter the list do so unacknowledged. -/
theorem map_entered_acked (l : List Mark) (g : Mark → Bool) (st : Station) (now : Time) :
    (l.map fun m => if g m && m.ackBy.isNone then { m with ackBy := some st } else m).map (Mark.entered now) =
      l.map (Mark.entered now) := by
  rw [List.map_map]
  refine List.map_congr_left fun m _ => ?_
  dsimp only [Function.comp]
  split <;> rfl

/-- Settles O29: the pass over the list and its filling, and the doors as their re-arm and the arbiters leave them. -/
theorem ackAllAcknowledgesTheList : Obligations.AckAllAcknowledgesTheList := by
  intro s route tag p hc hp hr hwf hset hrun
  have hrow : panelRow (.ackAll route tag) = some ⟨route, [9, 0, 0, tag], tag, 9, cmdAckAll⟩ := rfl
  obtain ⟨hrest, hdoor⟩ := s.ackAll_spec p route.src hrun
  have hexec : exec (.ackAll route tag) s = .next ((s.begin.ackAll p route.src).answer route.src tag 9 .done).settle :=
    exec_panelRow_of_accepted hrow hc hp hr rfl
  rw [hexec]
  generalize s.begin.ackAll p route.src = e at hrest hdoor
  have same : ∀ x : Slot, s.doors[x].phase ≠ .failed ∨ p.hasDoor x = false → e.doors[x] = s.doors[x] := fun x hx => by
    rw [hdoor x]
    split
    · next hh => exact if_neg (hx.resolve_right fun k => Bool.false_ne_true (k.symm.trans hh))
    · rfl
  have hout : (e.answer route.src tag 9 .done).outer = { s.outer with answers := s.withAnswer route.src tag 9 .done } :=
    Ev.answer_outer (by rw [hrest]; rfl) _ _ _ _
  have hbanks : e.banks = s.banks := by rw [hrest]; rfl
  have hsrc : s.SameSources e.toState := by
    rw [hrest]
    exact ⟨rfl, rfl, fun _ => rfl⟩
  have hkeeps : ∀ x : Slot, e.doors[x].committed = s.doors[x].committed
      ∧ (e.doors[x].entry = none → s.doors[x].entry = none) := fun x => by
    rw [hdoor x]
    split
    · exact Door.rearmed_keeps _ _ _
    · exact ⟨rfl, id⟩
  have hal : e.alarms = s.alarms ∧ e.uptime = s.uptime ∧ e.reqs = s.alarms.ackAllReqs p route.src := by
    rw [hrest]
    exact ⟨rfl, rfl, rfl⟩
  have harb : e.doors = s.doors → e.Arbitrated := fun hd => by
    rw [hrest, hd]
    exact hset.2.2.1
  clear hrest
  have hw : (e.answer route.src tag 9 .done).PendingWaits := State.PendingWaits.of_busier (t := e.toState) hset.2.1 hbanks hsrc
    (fun x => (hkeeps x).1) fun x => (hkeeps x).2
  have hq := Ev.swapIfQuiescent_of_waits hw
  have hadm : ∀ x : Slot, (e.answer route.src tag 9 .done).settle.Admits x e.doors[x] := Ev.settle_admits _ hq
  have harr := Ev.arbiters_alarms (e.answer route.src tag 9 .done)
  have halt : (e.answer route.src tag 9 .done).settle.alarms =
      (s.alarms.acked route.src (fun x => p.covers x.subject) fun m => p.covers m.subject).filled s.uptime := by
    rw [Ev.settle_alarms hq, ← State.takeReqs_ackAllReqs hwf (harr.1.trans hal.1) (harr.2.trans hal.2.1), ← hal.2.2]
    rfl
  refine ⟨_, rfl, (Ev.settle_outer _).trans hout, ⟨_, rfl, ?_, ?_⟩, fun x hx hf hw => ?_, fun x hx hn => ?_, fun hx => ?_⟩
  · rw [halt, Alarms.filled, Alarms.acked, filterMap_acked, map_acked, ← List.map_take, map_entered_acked]
  · rw [halt, Alarms.filled, Alarms.acked, filterMap_acked, map_acked]
  · refine State.rearmed_of_admits hf hw ?_
    have := hadm x
    rwa [hdoor x, if_pos hx] at this
  · have := hadm x
    rw [same x hx] at this
    exact this.of_no_entry hn
  · have hall : e.doors = s.doors := Vector.ext fun i hi => same ⟨i, hi⟩ (hx ⟨i, hi⟩)
    exact (Ev.settle_doors hq (harb hall)).trans hall

end Sys2Proof.Machine
end


section
/-! SUPPORT. The branches and the bindings of their doors: what of them an operation changes (R134 to R149). -/

namespace Sys2Proof.Machine

open Sys2Proof

/-! ### States with the same branches and bindings -/

/-- The active set, the bindings, and of each branch its state, foreign list and poll in flight are the same. -/
structure State.SameNet (s t : State) : Prop where
  set : t.activeSet = s.activeSet
  binding : ∀ d : Slot, t.doors[d].binding = s.doors[d].binding
  state : ∀ b : BranchId, t.branches[b].state = s.branches[b].state
  foreign : ∀ b : BranchId, t.branches[b].foreign = s.branches[b].foreign
  inFlight : ∀ b : BranchId, t.branches[b].inFlight = s.branches[b].inFlight

theorem State.doorRec_congr {s t : State} (h : t.activeSet = s.activeSet) (d : Slot) : t.doorRec d = s.doorRec d := by
  simp only [State.doorRec, State.activeRecord, h]

/-- The bound doors of a branch depend on the set and on their bindings. -/
theorem State.bound_congr {s t : State} {b : BranchId} (h : t.activeSet = s.activeSet)
    (hb : ∀ (d : Slot) (v : DoorRec), s.doorRec d = some v → v.branch = b → t.doors[d].binding = s.doors[d].binding) :
    t.bound b = s.bound b := by
  have hd : t.branchDoors b = s.branchDoors b := by
    simp only [State.branchDoors, State.fittedDoors, State.doorRec_congr h]
  rw [State.bound, State.bound, hd]
  refine List.filterMap_congr fun p hp => ?_
  obtain ⟨hv, hbr⟩ := (s.mem_branchDoors b p.1 p.2).mp hp
  rw [hb p.1 p.2 hv hbr]

theorem Branch.run_congr {r r' : Branch} (h : r'.state = r.state) : r'.run = r.run := by
  simp only [Branch.run, h]

theorem Branch.isPolling_congr {r r' : Branch} (h : r'.state = r.state) : r'.isPolling = r.isPolling := by
  simp only [Branch.isPolling, h]

namespace State.SameNet

variable {s t u : State}

theorem refl (s : State) : s.SameNet s := ⟨rfl, fun _ => rfl, fun _ => rfl, fun _ => rfl, fun _ => rfl⟩

theorem trans (h : s.SameNet t) (k : t.SameNet u) : s.SameNet u :=
  ⟨k.set.trans h.set, fun d => (k.binding d).trans (h.binding d), fun b => (k.state b).trans (h.state b),
    fun b => (k.foreign b).trans (h.foreign b), fun b => (k.inFlight b).trans (h.inFlight b)⟩

/-- Where neither the set, the doors nor the branches differ. -/
theorem of_eq (hs : t.activeSet = s.activeSet) (hd : t.doors = s.doors) (hb : t.branches = s.branches) : s.SameNet t :=
  ⟨hs, fun d => by rw [hd], fun b => by rw [hb], fun b => by rw [hb], fun b => by rw [hb]⟩

theorem bound (h : s.SameNet t) (b : BranchId) : t.bound b = s.bound b :=
  State.bound_congr h.set fun d _ _ _ => h.binding d

end State.SameNet

/-! ### Addresses -/

/-- No slot is bound twice on a branch. -/
theorem State.bound_nodup (s : State) (b : BranchId) : (s.bound b).Pairwise fun p q => p.1 ≠ q.1 := by
  have hf : s.fittedDoors.Pairwise fun p q => p.1 ≠ q.1 := by
    refine List.Pairwise.filterMap _ (R := fun a b : Slot => a ≠ b) ?_ (List.nodup_finRange 64)
    rintro x y hxy _ hp _ hq
    obtain ⟨v, -, rfl⟩ := Option.map_eq_some_iff.mp hp
    obtain ⟨w, -, rfl⟩ := Option.map_eq_some_iff.mp hq
    exact hxy
  refine List.Pairwise.filterMap _ (R := fun p q : Slot × DoorRec => p.1 ≠ q.1) ?_ (hf.filter _)
  rintro x y hxy _ hp _ hq
  obtain ⟨v, -, rfl⟩ := Option.map_eq_some_iff.mp hp
  obtain ⟨w, -, rfl⟩ := Option.map_eq_some_iff.mp hq
  exact hxy

/-- The addresses of a branch differ: at each there is at most one door. -/
theorem State.addressWf_iff (s : State) :
    s.AddressWf ↔ ∀ (b : BranchId) (d x : Slot) (a : Nat), (d, a) ∈ s.bound b → (x, a) ∈ s.bound b → d = x := by
  refine forall_congr' fun b => ⟨fun h d x a hd hx => ?_, fun h => ?_⟩
  · by_contra hne
    rcases pairwise_either h hd hx (fun k => hne (congrArg Prod.fst k)) with k | k <;> exact k rfl
  · refine (s.bound_nodup b).imp_of_mem fun {p q} hp hq hne hk => hne ?_
    obtain ⟨d, a⟩ := p
    obtain ⟨x, c⟩ := q
    dsimp only at hk
    subst hk
    exact h d x a hp hq

/-! ### The invariants of the branches -/

/-- The bounds of the branches, and the addresses with the runs, pass from the first state to the second. -/
structure State.NetKeeps (s t : State) : Prop where
  bounds : (∀ b : BranchId, s.branches[b].ForeignWf ∧ s.branches[b].StateWf) →
    ∀ b : BranchId, t.branches[b].ForeignWf ∧ t.branches[b].StateWf
  addresses : s.AddressWf ∧ s.RunsWf → t.AddressWf ∧ t.RunsWf

namespace State.NetKeeps

variable {s t u : State}

theorem refl (s : State) : s.NetKeeps s := ⟨id, id⟩

theorem trans (h : s.NetKeeps t) (k : t.NetKeeps u) : s.NetKeeps u := ⟨k.bounds ∘ h.bounds, k.addresses ∘ h.addresses⟩

theorem foldl {α : Type} (f : Ev → α → Ev) (l : List α)
    (h : ∀ (e : Ev), ∀ a ∈ l, State.NetKeeps e.toState (f e a).toState) (e : Ev) :
    State.NetKeeps e.toState (l.foldl f e).toState := by
  induction l generalizing e with
  | nil => exact .refl _
  | cons a l ih => exact (h e a List.mem_cons_self).trans (ih (fun e x hx => h e x (List.mem_cons_of_mem _ hx)) _)

end State.NetKeeps

theorem Branch.ForeignWf.congr {r r' : Branch} (hf : r'.foreign = r.foreign) (h : r.ForeignWf) : r'.ForeignWf := by
  rwa [Branch.ForeignWf, hf]

theorem Branch.StateWf.congr {r r' : Branch} (hs : r'.state = r.state) (hi : r'.inFlight = r.inFlight) (h : r.StateWf) :
    r'.StateWf := by
  rwa [Branch.StateWf, hi, Branch.isPolling_congr hs, Branch.run_congr hs]

theorem State.SameNet.netKeeps {s t : State} (h : s.SameNet t) : s.NetKeeps t where
  bounds k b := ⟨(k b).1.congr (h.foreign b), (k b).2.congr (h.state b) (h.inFlight b)⟩
  addresses := by
    have hr : ∀ b : BranchId, t.branches[b].run = s.branches[b].run := fun b => Branch.run_congr (h.state b)
    simp only [State.AddressWf, State.RunsWf, h.bound, hr]
    exact id

/-! ### What an operation hands on -/

/-- An operation that keeps the banks, the alarm list, every event flag and the invariants of the branches, and hands only alarm
requests of the class `P`. -/
structure Ev.Hands (P : AlarmReq → Prop) (e e' : Ev) : Prop where
  banks : e'.banks = e.banks
  alarms : e'.alarms = e.alarms
  flags : ∀ k, e.mgr.events.getLsbD k = true → e'.mgr.events.getLsbD k = true
  net : State.NetKeeps e.toState e'.toState
  reqs : ∃ rs, e'.reqs = e.reqs ++ rs ∧ ∀ r ∈ rs, P r

namespace Ev.Hands

variable {P : AlarmReq → Prop} {e e₁ e₂ e₃ : Ev}

theorem refl (e : Ev) : e.Hands P e := ⟨rfl, rfl, fun _ => id, .refl _, [], (List.append_nil _).symm, nofun⟩

theorem trans (h : e₁.Hands P e₂) (k : e₂.Hands P e₃) : e₁.Hands P e₃ := by
  refine ⟨k.banks.trans h.banks, k.alarms.trans h.alarms, fun i => k.flags i ∘ h.flags i, h.net.trans k.net, ?_⟩
  obtain ⟨rs, hr, hP⟩ := h.reqs
  obtain ⟨qs, kr, kP⟩ := k.reqs
  refine ⟨rs ++ qs, by rw [kr, hr, List.append_assoc], fun r hm => ?_⟩
  exact (List.mem_append.mp hm).elim (hP r) (kP r)

theorem foldl {α : Type} (f : Ev → α → Ev) (h : ∀ (e : Ev) (a : α), e.Hands P (f e a)) (l : List α) (e : Ev) :
    e.Hands P (l.foldl f e) := by
  induction l generalizing e with
  | nil => exact .refl e
  | cons a l ih => exact (h e a).trans (ih _)

/-- A weaker class of requests. -/
theorem imp {Q : AlarmReq → Prop} (h : e₁.Hands P e₂) (hPQ : ∀ r, P r → Q r) : e₁.Hands Q e₂ := by
  obtain ⟨rs, hr, hP⟩ := h.reqs
  exact ⟨h.banks, h.alarms, h.flags, h.net, rs, hr, fun r hm => hPQ r (hP r hm)⟩

/-- An operation on one door that keeps its binding. -/
theorem of_touches {d : Slot} (h : Ev.Touches d e₁ e₂) (hb : e₂.doors[d].binding = e₁.doors[d].binding)
    (hr : ∃ rs, e₂.reqs = e₁.reqs ++ rs ∧ ∀ r ∈ rs, P r) : e₁.Hands P e₂ := by
  have hn : State.SameNet e₁.toState e₂.toState := by
    refine ⟨?_, fun x => ?_, fun b => ?_, fun b => ?_, fun b => ?_⟩
    · rw [h.rest]
      rfl
    · by_cases hx : x = d
      · rw [hx, hb]
      · rw [h.other hx]
    all_goals rw [h.branches]
  exact ⟨h.banks, by rw [h.rest], fun k hk => by rw [h.rest]; exact hk, hn.netKeeps, hr⟩

/-- An operation on one door that keeps its binding and hands no request. -/
theorem of_quiet {d : Slot} (h : Ev.Touches d e₁ e₂) (hb : e₂.doors[d].binding = e₁.doors[d].binding)
    (hr : e₂.reqs = e₁.reqs) : e₁.Hands P e₂ := of_touches h hb ⟨[], by rw [hr, List.append_nil], nofun⟩

theorem ite {c : Prop} [Decidable c] {a b : Ev} (ha : e.Hands P a) (hb : e.Hands P b) : e.Hands P (if c then a else b) := by
  split
  · exact ha
  · exact hb

end Ev.Hands

/-! ### Operations on one door -/

section Door

variable {P : AlarmReq → Prop} (e : Ev) (d : Slot)

theorem Ev.toPhase_hands (p : Phase) : e.Hands P (e.toPhase d p) :=
  .of_quiet (e.toPhase_touches d p) (by rw [Ev.toPhase_door]) rfl

theorem Ev.zeroRetry_hands : e.Hands P (e.zeroRetry d) :=
  .of_quiet (e.zeroRetry_touches d) (by rw [Ev.zeroRetry_door]) rfl

theorem Ev.dropEntry_hands (p : Phase) : e.Hands P (e.dropEntry d p) :=
  .of_quiet (e.dropEntry_touches d p) (by rw [Ev.dropEntry_door]) rfl

theorem Ev.dropMove_hands (p : Phase) : e.Hands P (e.dropMove d p) :=
  .of_quiet (e.dropMove_touches d p) (by rw [Ev.dropMove_door]) rfl

theorem Ev.place_reqs (c : Cmd) : (e.place d c).reqs = e.reqs := by
  unfold Ev.place
  split <;> rfl

theorem Ev.place_hands (c : Cmd) : e.Hands P (e.place d c) := by
  refine .of_quiet (e.place_touches d c) ?_ (e.place_reqs d c)
  rw [Ev.place_door]
  split <;> rfl

theorem Ev.endHalted_hands : e.Hands P (e.endHalted d) :=
  .of_quiet (e.endHalted_touches d) (by rw [Ev.endHalted_door]) (Ev.place_reqs _ d _)

theorem Ev.enterLevel_hands (k : AlarmKind) (hP : P (.raise (.door d) k)) : e.Hands P (e.enterLevel d k) := by
  refine .of_touches (e.enterLevel_touches d k) (by rw [Ev.enterLevel_door]) ?_
  unfold Ev.enterLevel
  split
  · exact ⟨[], (List.append_nil _).symm, nofun⟩
  · exact ⟨[.raise (.door d) k], rfl, fun r hr => by rwa [List.mem_singleton.mp hr]⟩

theorem Ev.dropCond_hands (k : AlarmKind) (hP : P (.clear (.door d) k)) : e.Hands P (e.dropCond d k) := by
  refine .of_touches (e.dropCond_touches d k) (by rw [Ev.dropCond_door]) ?_
  unfold Ev.dropCond
  split
  · exact ⟨[.clear (.door d) k], rfl, fun r hr => by rwa [List.mem_singleton.mp hr]⟩
  · exact ⟨[], (List.append_nil _).symm, nofun⟩

theorem Ev.enterEnd_hands (k : AlarmKind) (dir : Dir) (hP : P (.raise (.door d) k)) : e.Hands P (e.enterEnd d k dir) :=
  .of_touches (e.enterEnd_touches d k dir) (by rw [Ev.enterEnd_door])
    ⟨[.raise (.door d) k], rfl, fun r hr => by rwa [List.mem_singleton.mp hr]⟩

/-- An open withdrawn by an order (R38). -/
theorem Ev.withdrawOpen_hands : e.Hands P (e.withdrawOpen d) := by
  unfold Ev.withdrawOpen
  dsimp only
  have place : ∀ e₁ : Ev, e₁.Hands P (if e₁.doors[d].slot = .openDoor then e₁.place d .halt else e₁) := fun e₁ =>
    .ite (e₁.place_hands d _) (.refl _)
  refine Ev.Hands.trans (.ite ?_ (.refl _)) (place _)
  split
  · exact e.dropEntry_hands d _
  · exact e.endHalted_hands d
  · exact (e.toPhase_hands d _).trans (Ev.zeroRetry_hands _ d)
  · exact .refl e

theorem Ev.releasePhase_hands : e.Hands P (e.releasePhase d) := by
  unfold Ev.releasePhase
  dsimp only
  split
  · exact .ite (e.dropEntry_hands d _) (.refl e)
  · exact .ite ((e.place_hands d _).trans (Ev.dropMove_hands _ d _)) (.refl e)
  case h_7 => exact .refl e
  all_goals exact e.toPhase_hands d _

/-- An order release clears conditions of its door (R40). -/
theorem Ev.orderRelease_hands (hP : ∀ k, P (.clear (.door d) k)) : e.Hands P (e.orderRelease d) :=
  ((((e.releasePhase_hands d).trans (Ev.zeroRetry_hands _ d)).trans (Ev.dropCond_hands _ d _ (hP _))).trans
    (Ev.dropCond_hands _ d _ (hP _))).trans (Ev.dropCond_hands _ d _ (hP _))

end Door

end Sys2Proof.Machine
end


section
/-! SUPPORT. The end and abort of a run (R146 to R148), queue requests and order changes, and the branches. -/

namespace Sys2Proof.Machine

open Sys2Proof

/-! ### The foreign unit list (R147) -/

theorem foreignList_wf {l : List Foreign} (f : Foreign) (h : l.length ≤ 4 ∧ l.Pairwise fun x y => x.serial ≠ y.serial) :
    (foreignList l f).length ≤ 4 ∧ (foreignList l f).Pairwise fun x y => x.serial ≠ y.serial := by
  obtain ⟨hl, hp⟩ := h
  unfold foreignList
  split
  · refine ⟨by rwa [List.length_map], hp.map _ fun x y hxy => ?_⟩
    have hs : ∀ x : Foreign, (if x.serial == f.serial then f else x).serial = x.serial := fun x => by
      split
      · next hx => exact (beq_iff_eq.mp hx).symm
      · rfl
    rwa [hs, hs]
  · next hn =>
    split
    · refine ⟨by rw [List.length_append, List.length_singleton]; omega, ?_⟩
      refine List.pairwise_append.mpr ⟨hp, List.pairwise_singleton _ _, fun x hx y hy => ?_⟩
      rw [List.mem_singleton.mp hy]
      exact fun k => hn (List.any_eq_true.mpr ⟨x, hx, beq_iff_eq.mpr k⟩)
    · exact ⟨hl, hp⟩

/-! ### The doors bound at the end of a run -/

/-- What the end of a run on branch `b` does as long as the branch is still ENROLLING: doors of the branch take
addresses of the pairs `ps` by their serials, and foreign serials join the list. -/
structure Ev.BindsPairs (b : BranchId) (ps : List (Serial × Nat)) (e e' : Ev) : Prop where
  rest : e'.banks = e.banks ∧ e'.mgr = e.mgr ∧ e'.alarms = e.alarms
  branch : ∀ x : BranchId, e'.branches[x].state = e.branches[x].state ∧ e'.branches[x].inFlight = e.branches[x].inFlight
    ∧ (x ≠ b → e'.branches[x].foreign = e.branches[x].foreign)
  foreign : e.branches[b].ForeignWf → e'.branches[b].ForeignWf
  binding : ∀ d : Slot, e'.doors[d].binding = e.doors[d].binding
    ∨ ∃ p ∈ ps, e.doorOfSerial b p.1 = some d ∧ e'.doors[d].binding = some p.2
  reqs : ∃ rs, e'.reqs = e.reqs ++ rs ∧ ∀ r ∈ rs, (∃ d, r = .raise (.door d) .linkLost) ∨ r = .raise (.branch b) .foreignUnit

namespace Ev.BindsPairs

variable {b : BranchId} {ps qs : List (Serial × Nat)} {e e₁ e₂ e₃ : Ev}

theorem refl (e : Ev) : e.BindsPairs b ps e :=
  ⟨⟨rfl, rfl, rfl⟩, fun _ => ⟨rfl, rfl, fun _ => rfl⟩, id, fun _ => .inl rfl, [], (List.append_nil _).symm, nofun⟩

theorem doorOfSerial_congr {s t : State} (h : t.banks = s.banks) (serial : Serial) :
    t.doorOfSerial b serial = s.doorOfSerial b serial := by
  simp only [State.doorOfSerial, State.branchDoors, State.fittedDoors, State.doorRec, State.activeRecord,
    State.activeSet, h]

theorem trans (h : e₁.BindsPairs b ps e₂) (k : e₂.BindsPairs b qs e₃) : e₁.BindsPairs b (ps ++ qs) e₃ := by
  refine ⟨⟨k.rest.1.trans h.rest.1, k.rest.2.1.trans h.rest.2.1, k.rest.2.2.trans h.rest.2.2⟩, fun x => ?_, k.foreign ∘ h.foreign, fun d => ?_, ?_⟩
  · obtain ⟨h1, h2, h3⟩ := h.branch x
    obtain ⟨k1, k2, k3⟩ := k.branch x
    exact ⟨k1.trans h1, k2.trans h2, fun hx => (k3 hx).trans (h3 hx)⟩
  · rcases k.binding d with kd | ⟨p, hp, hs, ha⟩
    · refine (h.binding d).imp kd.trans ?_
      rintro ⟨p, hp, hs, ha⟩
      exact ⟨p, List.mem_append_left _ hp, hs, kd.trans ha⟩
    · exact .inr ⟨p, List.mem_append_right _ hp, (doorOfSerial_congr h.rest.1 _).symm.trans hs, ha⟩
  · obtain ⟨rs, hr, hP⟩ := h.reqs
    obtain ⟨ss, kr, kP⟩ := k.reqs
    refine ⟨rs ++ ss, by rw [kr, hr, List.append_assoc], fun r hm => ?_⟩
    exact (List.mem_append.mp hm).elim (hP r) (kP r)

theorem append_nil (h : e₁.BindsPairs b (ps ++ []) e₂) : e₁.BindsPairs b ps e₂ := by rwa [List.append_nil] at h

end Ev.BindsPairs

theorem Ev.takeForeign_binds (e : Ev) (b : BranchId) (f : Foreign) (ps : List (Serial × Nat)) :
    e.BindsPairs b ps (e.takeForeign b f) := by
  have hb : (e.takeForeign b f).branches = (e.modBranch b fun r => { r with foreign := foreignList r.foreign f }).branches := rfl
  have same := e.modBranch_same b fun r => { r with foreign := foreignList r.foreign f }
  have other := fun x hx => e.modBranch_other b x (fun r => { r with foreign := foreignList r.foreign f }) hx
  refine ⟨⟨rfl, rfl, rfl⟩, fun x => ?_, fun h => ?_, fun d => .inl rfl, [.raise (.branch b) .foreignUnit], rfl, fun r hr =>
    .inr (List.mem_singleton.mp hr)⟩
  · rw [hb]
    by_cases hx : b = x
    · subst hx
      rw [same]
      exact ⟨rfl, rfl, fun k => absurd rfl k⟩
    · rw [other x hx]
      exact ⟨rfl, rfl, fun _ => rfl⟩
  · rw [hb, same]
    exact foreignList_wf f h

theorem Ev.bindPair_binds (e : Ev) (b : BranchId) (p : Serial × Nat) : e.BindsPairs b [p] (e.bindPair b p) := by
  unfold Ev.bindPair
  split
  · next d hd =>
    refine ⟨⟨rfl, rfl, rfl⟩, fun _ => ⟨rfl, rfl, fun _ => rfl⟩, id, fun x => ?_, [], (List.append_nil _).symm, nofun⟩
    by_cases hx : d = x
    · subst hx
      exact .inr ⟨p, List.mem_singleton.mpr rfl, hd, by rw [Ev.modDoor_same]; rfl⟩
    · exact .inl (by rw [Ev.modDoor_other _ _ _ _ hx])
  · exact e.takeForeign_binds b _ _

theorem Ev.bindPairs_binds (b : BranchId) (ps : List (Serial × Nat)) (e : Ev) :
    e.BindsPairs b ps (ps.foldl (fun e p => e.bindPair b p) e) := by
  induction ps generalizing e with
  | nil => exact .refl e
  | cons p ps ih => exact (e.bindPair_binds b p).trans (ih _)

theorem Ev.enterLevel_binds (e : Ev) (b : BranchId) (d : Slot) : e.BindsPairs b [] (e.enterLevel d .linkLost) := by
  have h := e.enterLevel_touches d .linkLost
  refine ⟨⟨h.banks, by rw [h.rest], by rw [h.rest]⟩, fun x => by rw [h.branches]; exact ⟨rfl, rfl, fun _ => rfl⟩,
    fun k => by rwa [h.branches], fun x => .inl ?_, ?_⟩
  · by_cases hx : x = d
    · rw [hx, Ev.enterLevel_door]
    · rw [h.other hx]
  · unfold Ev.enterLevel
    split
    · exact ⟨[], (List.append_nil _).symm, nofun⟩
    · exact ⟨[.raise (.door d) .linkLost], rfl, fun r hr => .inl ⟨d, List.mem_singleton.mp hr⟩⟩

theorem Ev.markUnbound_binds (e : Ev) (b : BranchId) : e.BindsPairs b [] (e.markUnbound b) := by
  unfold Ev.markUnbound
  generalize e.branchDoors b = l
  induction l generalizing e with
  | nil => exact .refl e
  | cons p l ih =>
    rw [List.foldl_cons]
    split
    · exact (e.enterLevel_binds b p.1).trans (ih _)
    · exact ih e

/-- The state of the branch in which a run has been bound, and is about to be dropped. -/
def Ev.boundRun (e : Ev) (b : BranchId) (r : Run) (noAddress : Option Serial) : Ev :=
  let e1 := r.pairs.foldl (fun e p => e.bindPair b p) e
  let e2 := match noAddress with
    | some serial => e1.takeForeign b ⟨serial, none⟩
    | none => e1
  e2.markUnbound b

theorem Ev.closeRun_of_run {e : Ev} {b : BranchId} {r : Run} (h : e.branches[b].run = some r) (n : Option Serial) :
    e.closeRun b n = (e.boundRun b r n).modBranch b Branch.toPolling := by
  unfold Ev.closeRun
  rw [h]
  rfl

theorem Ev.closeRun_of_noRun {e : Ev} {b : BranchId} (h : e.branches[b].run = none) (n : Option Serial) :
    e.closeRun b n = e := by
  unfold Ev.closeRun
  rw [h]

theorem Ev.boundRun_binds (e : Ev) (b : BranchId) (r : Run) (n : Option Serial) :
    e.BindsPairs b r.pairs (e.boundRun b r n) := by
  unfold Ev.boundRun
  refine Ev.BindsPairs.append_nil (Ev.BindsPairs.trans ?_ (Ev.markUnbound_binds _ b))
  cases n with
  | none => exact e.bindPairs_binds b r.pairs
  | some serial => exact ((e.bindPairs_binds b r.pairs).trans (Ev.takeForeign_binds _ b _ [])).append_nil

/-! ### The invariants over the end of a run -/

/-- The end of a run keeps the bounds of the branches; those of its own branch need only the foreign list before. -/
theorem Ev.closeRun_bounds {e : Ev} {b : BranchId} {r : Run} (hr : e.branches[b].run = some r) (n : Option Serial)
    (hf : ∀ x : BranchId, e.branches[x].ForeignWf) (hs : ∀ x : BranchId, x ≠ b → e.branches[x].StateWf) (x : BranchId) :
    (e.closeRun b n).branches[x].ForeignWf ∧ (e.closeRun b n).branches[x].StateWf := by
  have h := e.boundRun_binds b r n
  rw [Ev.closeRun_of_run hr]
  by_cases hx : b = x
  · subst hx
    rw [Ev.modBranch_same]
    exact ⟨h.foreign (hf b), nofun, nofun⟩
  · obtain ⟨h1, h2, h3⟩ := h.branch x
    rw [Ev.modBranch_other _ _ _ _ hx]
    exact ⟨(hf x).congr (h3 (Ne.symm hx)), (hs x (Ne.symm hx)).congr h1 h2⟩

theorem State.doorOfSerial_some {s : State} {b : BranchId} {serial : Serial} {d : Slot} (h : s.doorOfSerial b serial = some d) :
    ∃ v, s.doorRec d = some v ∧ v.branch = b := by
  simp only [State.doorOfSerial, Option.map_eq_some_iff] at h
  obtain ⟨⟨x, v⟩, hf, rfl⟩ := h
  exact ⟨v, (s.mem_branchDoors b x v).mp (List.mem_of_find?_eq_some hf)⟩

/-- The end of a run keeps the addresses apart: its pairs have different addresses, which no door of the branch has. -/
theorem Ev.closeRun_addresses {e : Ev} {b : BranchId} {r : Run} (hr : e.branches[b].run = some r) (n : Option Serial)
    (ha : e.AddressWf) (hw : e.RunsWf) : (e.closeRun b n).AddressWf ∧ (e.closeRun b n).RunsWf := by
  have h := e.boundRun_binds b r n
  obtain ⟨hpairs, hfree⟩ := hw b r hr
  rw [Ev.closeRun_of_run hr]
  obtain ⟨t, ht⟩ : ∃ t, t = (e.boundRun b r n).modBranch b Branch.toPolling := ⟨_, rfl⟩
  have hset : t.activeSet = e.activeSet := by
    rw [ht, State.activeSet_eq, State.activeSet_eq]
    exact congrArg Banks.activeSet h.rest.1
  have hbind : ∀ d : Slot, t.doors[d].binding = e.doors[d].binding
      ∨ ∃ p ∈ r.pairs, e.doorOfSerial b p.1 = some d ∧ t.doors[d].binding = some p.2 := by
    rw [ht]
    exact h.binding
  have hother : ∀ x : BranchId, x ≠ b → t.bound x = e.bound x := fun x hx =>
    State.bound_congr hset fun d v hv hb => (hbind d).resolve_right fun ⟨p, _, hs, _⟩ => by
      obtain ⟨v', hv', hb'⟩ := State.doorOfSerial_some hs
      obtain rfl : v = v' := Option.some.inj (hv.symm.trans hv')
      exact hx (hb.symm.trans hb')
  have hrec := fun d => State.doorRec_congr hset d
  have hmem : ∀ (d : Slot) (a : Nat), (d, a) ∈ t.bound b →
      (d, a) ∈ e.bound b ∨ ∃ p ∈ r.pairs, e.doorOfSerial b p.1 = some d ∧ p.2 = a := fun d a hd => by
    obtain ⟨v, hv, hb, hbd⟩ := (t.mem_bound b d a).mp hd
    rcases hbind d with k | ⟨p, hp, hs, k⟩
    · exact .inl ((e.mem_bound b d a).mpr ⟨v, (hrec d).symm.trans hv, hb, k.symm.trans hbd⟩)
    · exact .inr ⟨p, hp, hs, Option.some.inj (k.symm.trans hbd)⟩
  have hwell : t.AddressWf := by
    rw [State.addressWf_iff] at ha ⊢
    intro x d y a hd hy
    by_cases hx : x = b
    · subst hx
      rcases hmem d a hd with kd | ⟨p, hp, hs, rfl⟩ <;> rcases hmem y _ hy with ky | ⟨q, hq, hs', hqa⟩
      · exact ha x d y a kd ky
      · exact absurd hqa (hfree q hq _ kd)
      · exact absurd rfl (hfree p hp _ ky)
      · by_cases hpq : p = q
        · rw [hpq] at hs
          exact Option.some.inj (hs.symm.trans hs')
        · rcases pairwise_either hpairs hp hq hpq with k | k
          · exact absurd hqa.symm k.2
          · exact absurd hqa k.2
    · rw [hother x hx] at hd hy
      exact ha x d y a hd hy
  refine ht ▸ ⟨hwell, fun x r' hr' => ?_⟩
  by_cases hx : x = b
  · subst hx
    rw [ht, Ev.modBranch_same] at hr'
    cases hr'
  · rw [hother x hx]
    refine hw x r' ?_
    rw [ht, Ev.modBranch_other _ _ _ _ (Ne.symm hx)] at hr'
    rwa [← Branch.run_congr (h.branch x).1]

theorem Ev.closeRun_netKeeps (e : Ev) (b : BranchId) (n : Option Serial) :
    State.NetKeeps e.toState (e.closeRun b n).toState := by
  cases hr : e.branches[b].run with
  | none =>
    rw [Ev.closeRun_of_noRun hr]
    exact .refl _
  | some r =>
    exact ⟨fun h => Ev.closeRun_bounds hr n (fun x => (h x).1) fun x _ => (h x).2,
      fun h => Ev.closeRun_addresses hr n h.1 h.2⟩

/-! ### Aborts, queue requests, order changes -/

/-- A raise of LINK-LOST or FOREIGN-UNIT, as the end of a run hands them. -/
def AlarmReq.ofRun (r : AlarmReq) : Prop :=
  (∃ d, r = .raise (.door d) .linkLost) ∨ ∃ b, r = .raise (.branch b) .foreignUnit

theorem Ev.setFlag_flags (e : Ev) (f : EventFlag) (k : Nat) (h : e.mgr.events.getLsbD k = true) :
    (e.setFlag f).mgr.events.getLsbD k = true := by
  simp only [Ev.setFlag, Mgr.setFlag, BitVec.getLsbD_or, h, Bool.true_or]

theorem Ev.setFlag_hands {P : AlarmReq → Prop} (e : Ev) (f : EventFlag) : e.Hands P (e.setFlag f) :=
  ⟨rfl, rfl, e.setFlag_flags f, (State.SameNet.of_eq (s := e.toState) (t := (e.setFlag f).toState) rfl rfl rfl).netKeeps, [],
    (List.append_nil _).symm, nofun⟩

section Requests

variable {P : AlarmReq → Prop} (hP : ∀ r : AlarmReq, r.ofRun → P r)

include hP

theorem Ev.closeRun_hands (e : Ev) (b : BranchId) (n : Option Serial) : e.Hands P (e.closeRun b n) := by
  have hnet := e.closeRun_netKeeps b n
  cases hr : e.branches[b].run with
  | none =>
    rw [Ev.closeRun_of_noRun hr]
    exact .refl _
  | some r =>
    have h := e.boundRun_binds b r n
    rw [Ev.closeRun_of_run hr] at hnet ⊢
    obtain ⟨rs, hrs, hc⟩ := h.reqs
    refine ⟨h.rest.1, h.rest.2.2, fun k hk => ?_, hnet, rs, hrs, fun q hq => hP q ?_⟩
    · have : ((e.boundRun b r n).modBranch b Branch.toPolling).mgr = e.mgr := h.rest.2.1
      rwa [this]
    · exact (hc q hq).imp id fun k => ⟨b, k⟩

theorem Ev.abortRun_hands (e : Ev) (b : BranchId) : e.Hands P (e.abortRun b) := by
  exact (e.closeRun_hands hP b none).trans (Ev.setFlag_hands _ _)

theorem Ev.abortFor_hands (e : Ev) (d : Slot) : e.Hands P (e.abortFor d) := by
  unfold Ev.abortFor
  split
  · exact .ite (e.abortRun_hands hP _) (.refl e)
  · exact .refl e

theorem Ev.request_hands (e : Ev) (d : Slot) (dir : Dir) (o : Origin) (b : Basis) : e.Hands P (e.request d dir o b) := by
  have ha := e.abortFor_hands hP d
  unfold Ev.request
  dsimp only
  generalize e.abortFor d = e₁ at ha
  refine .ite (ha.trans (Ev.Hands.trans ?_ (Ev.toPhase_hands _ d _))) ha
  exact .of_quiet (e₁.modDoor_touches d _) (by rw [Ev.modDoor_same]) rfl

theorem Ev.needClose_hands (e : Ev) (d : Slot) (o : Origin) : e.Hands P (e.needClose d o) := by
  unfold Ev.needClose
  dsimp only
  exact .ite (.ite (e.toPhase_hands d _) (e.request_hands hP d _ _ _)) (.refl e)

/-- An order set hands raises of its door and of the run that it aborts (R38, R39, R148). -/
theorem Ev.orderSet_hands (e : Ev) (d : Slot) (hd : P (.raise (.door d) .localOpen)) : e.Hands P (e.orderSet d) := by
  have outcome : ∀ e₁ : Ev, e₁.Hands P (e₁.orderOutcome d) := fun e₁ => by
    unfold Ev.orderOutcome
    have h := e₁.needClose_hands hP d .order
    exact .ite (.ite (h.trans (Ev.enterLevel_hands _ d _ hd)) h) (.refl e₁)
  exact ((e.abortFor_hands hP d).trans (Ev.withdrawOpen_hands _ d)).trans (outcome _)

/-- A recomputation of the orders (R37). -/
theorem Ev.recompute_hands (e : Ev) (before : State) (hr : ∀ d : Slot, P (.raise (.door d) .localOpen))
    (hc : ∀ (d : Slot) k, P (.clear (.door d) k)) : e.Hands P (Ev.recompute before e) := by
  refine Ev.Hands.foldl _ (fun e p => ?_) _ e
  unfold Ev.handOrder
  split
  · exact e.orderSet_hands hP p.1 (hr p.1)
  · exact e.orderRelease_hands p.1 (hc p.1)
  · exact .refl e

end Requests

end Sys2Proof.Machine
end


section
/-! SUPPORT. Rounds of a run, polls, swap and the end of an event, and the branches (R134 to R149). -/

namespace Sys2Proof.Machine

open Sys2Proof

/-! ### A change of one branch -/

/-- What R144 asks of the record of a run on a branch. -/
def State.RunWf (s : State) (b : BranchId) (r : Run) : Prop :=
  r.pairs.Pairwise (fun p q => p.1 ≠ q.1 ∧ p.2 ≠ q.2) ∧ ∀ p ∈ r.pairs, ∀ q ∈ s.bound b, p.2 ≠ q.2

theorem Ev.modBranch_netKeeps (e : Ev) (b : BranchId) (f : Branch → Branch)
    (hb : e.branches[b].ForeignWf ∧ e.branches[b].StateWf → (f e.branches[b]).ForeignWf ∧ (f e.branches[b]).StateWf)
    (hr : (∀ r ∈ e.branches[b].run, e.RunWf b r) → ∀ r ∈ (f e.branches[b]).run, e.RunWf b r) :
    State.NetKeeps e.toState (e.modBranch b f).toState where
  bounds h x := by
    by_cases hx : b = x
    · subst hx
      rw [Ev.modBranch_same]
      exact hb (h b)
    · rw [Ev.modBranch_other _ _ _ _ hx]
      exact h x
  addresses h := by
    refine ⟨h.1, fun x => ?_⟩
    by_cases hx : b = x
    · subst hx
      rw [Ev.modBranch_same]
      exact hr (h.2 b)
    · rw [Ev.modBranch_other _ _ _ _ hx]
      exact h.2 x

/-- A run with a record that R144 allows goes on, on a branch that is ENROLLING. -/
theorem Ev.runOn_netKeeps (e : Ev) (b : BranchId) (f : Branch → Branch) {r : Run} (he : e.branches[b].run = some r) (r' : Run)
    (hs : (f e.branches[b]).state = .enrolling r') (hf : (f e.branches[b]).foreign = e.branches[b].foreign)
    (hi : (f e.branches[b]).inFlight = e.branches[b].inFlight) (hn : r.noProgress < 3 → r'.noProgress < 3)
    (hr : e.RunWf b r → e.RunWf b r') :
    State.NetKeeps e.toState (e.modBranch b f).toState := by
  have hrun : (f e.branches[b]).run = some r' := by simp only [Branch.run, hs]
  have hp : e.branches[b].isPolling = false := by
    by_contra k
    rw [Branch.run_of_isPolling (by simpa using k)] at he
    cases he
  refine e.modBranch_netKeeps b f (fun h => ⟨h.1.congr hf, fun k => ?_, fun q hq => ?_⟩) fun h q hq => ?_
  · rw [hi] at k
    rw [h.2.1 k] at hp
    cases hp
  · rw [hrun] at hq
    cases hq
    exact hn (h.2.2 r he)
  · rw [hrun] at hq
    cases hq
    exact hr (h r he)

theorem Ev.beginRound_netKeeps (e : Ev) (b : BranchId) {r : Run} (he : e.branches[b].run = some r) (r' : Run)
    (hn : r.noProgress < 3 → r'.noProgress < 3) (hr : e.RunWf b r → e.RunWf b r') :
    State.NetKeeps e.toState (e.beginRound b r').toState :=
  e.runOn_netKeeps b _ he { r' with step := .calling } rfl rfl rfl hn hr

theorem Ev.sendAssign_netKeeps (e : Ev) (b : BranchId) {r : Run} (he : e.branches[b].run = some r) (r' : Run)
    (serial : Serial) (a : Nat) (hn : r'.noProgress < 3) (hr : e.RunWf b r → e.RunWf b r') :
    State.NetKeeps e.toState (e.sendAssign b r' serial a).toState :=
  e.runOn_netKeeps b _ he { r' with step := .assigning } rfl rfl rfl (fun _ => hn) hr

theorem Ev.setFlag_netKeeps (e : Ev) (f : EventFlag) : State.NetKeeps e.toState (e.setFlag f).toState :=
  (State.SameNet.of_eq (s := e.toState) (t := (e.setFlag f).toState) rfl rfl rfl).netKeeps

theorem Ev.endRun_netKeeps (e : Ev) (b : BranchId) (n : Option Serial) : State.NetKeeps e.toState (e.endRun b n).toState :=
  (e.closeRun_netKeeps b n).trans (Ev.setFlag_netKeeps _ _)

/-- A round without progress goes on, or ends the run: its own record is then of no account. -/
theorem Ev.noProgress_netKeeps (e : Ev) (b : BranchId) {r : Run} (he : e.branches[b].run = some r) (again : Ev → Run → Ev)
    (h : ∀ r' : Run, r'.pairs = r.pairs → r'.noProgress < 3 → State.NetKeeps e.toState (again e r').toState) :
    State.NetKeeps e.toState (e.noProgress b r again).toState := by
  unfold Ev.noProgress
  dsimp only
  split
  · next hn => exact h _ rfl hn
  · generalize hf : (fun br : Branch => { br with state := .enrolling { r with noProgress := r.noProgress + 1 } }) = f
    have hrun : (e.modBranch b f).branches[b].run = some { r with noProgress := r.noProgress + 1 } := by
      rw [Ev.modBranch_same, ← hf]
      rfl
    have hother := fun x hx => e.modBranch_other b x f hx
    refine State.NetKeeps.trans (t := ((e.modBranch b f).closeRun b none).toState) ⟨fun k => ?_, fun k => ?_⟩
      (Ev.setFlag_netKeeps _ _)
    · refine Ev.closeRun_bounds hrun none (fun x => ?_) fun x hx => ?_
      · by_cases hx : b = x
        · subst hx
          rw [Ev.modBranch_same, ← hf]
          exact (k b).1
        · rw [hother x hx]
          exact (k x).1
      · rw [hother x (Ne.symm hx)]
        exact (k x).2
    · refine Ev.closeRun_addresses hrun none k.1 fun x q hq => ?_
      by_cases hx : b = x
      · subst hx
        rw [hrun] at hq
        cases hq
        exact k.2 b r he
      · rw [hother x hx] at hq
        exact k.2 x q hq

/-- The address that a run gives next is held by no door of the branch and by no pair of the record (R144). -/
theorem State.freeAddress_free {s : State} {b : BranchId} {r : Run} {a : Nat} (h : s.freeAddress b r = some a) :
    (∀ q ∈ s.bound b, a ≠ q.2) ∧ ∀ p ∈ r.pairs, p.2 ≠ a := by
  have hh : s.addressHeld b r a = false := by simpa using List.find?_some h
  simp only [State.addressHeld, Bool.or_eq_false_iff, List.any_eq_false, beq_iff_eq] at hh
  exact ⟨fun q hq k => hh.1.1 q hq k.symm, fun p hp k => hh.2 p hp k⟩

theorem Ev.takeAnswer_netKeeps (e : Ev) (b : BranchId) {r : Run} (he : e.branches[b].run = some r) (serial : Serial) :
    State.NetKeeps e.toState (e.takeAnswer b r serial).toState := by
  unfold Ev.takeAnswer
  split
  · next p hp =>
    refine (e.noProgress_netKeeps b he _ fun r' hr hn => ?_).trans
      (Ev.modBranch_netKeeps _ b (fun br => br.send [.assign p.1 p.2]) id id)
    exact e.sendAssign_netKeeps b he r' p.1 p.2 hn fun k => by rwa [State.RunWf, hr]
  · next hp =>
    split
    · next a ha =>
      obtain ⟨hbound, hpairs⟩ := State.freeAddress_free ha
      refine e.sendAssign_netKeeps b he _ serial a (by decide : 0 < 3) fun k => ⟨?_, fun q hq => ?_⟩
      · refine List.pairwise_append.mpr ⟨k.1, List.pairwise_singleton _ _, fun q hq x hx => ?_⟩
        rw [List.mem_singleton.mp hx]
        refine ⟨fun hs => ?_, hpairs q hq⟩
        have := List.find?_eq_none.mp hp q hq
        exact this (beq_iff_eq.mpr hs)
      · rcases List.mem_append.mp hq with hq | hq
        · exact k.2 q hq
        · rw [List.mem_singleton.mp hq]
          exact hbound
    · exact e.endRun_netKeeps b _

/-! ### The begin of a run -/

/-- A door that is unbound, where no other binding changes, frees its address. -/
theorem State.NetKeeps.of_fewer {s t : State} (hset : t.activeSet = s.activeSet)
    (hb : ∀ d : Slot, t.doors[d].binding = s.doors[d].binding ∨ t.doors[d].binding = none) (hbr : t.branches = s.branches) :
    s.NetKeeps t where
  bounds h := by rwa [hbr]
  addresses h := by
    have hm : ∀ (b : BranchId) (d : Slot) (a : Nat), (d, a) ∈ t.bound b → (d, a) ∈ s.bound b := fun b d a hd => by
      obtain ⟨v, hv, hbv, ha⟩ := (t.mem_bound b d a).mp hd
      refine (s.mem_bound b d a).mpr ⟨v, (State.doorRec_congr hset d).symm.trans hv, hbv, ?_⟩
      rcases hb d with k | k
      · exact k.symm.trans ha
      · rw [k] at ha
        cases ha
    refine ⟨?_, fun b r hr => ?_⟩
    · have ha := h.1
      rw [State.addressWf_iff] at ha ⊢
      exact fun b d x a hd hx => ha b d x a (hm b d a hd) (hm b x a hx)
    · rw [hbr] at hr
      obtain ⟨h1, h2⟩ := h.2 b r hr
      exact ⟨h1, fun p hp q hq => h2 p hp q (hm b q.1 q.2 hq)⟩

/-- A run begins with an empty record. -/
theorem Ev.beginRun_netKeeps (e : Ev) (b : BranchId) (f : Branch → Branch) (m : EnrollMode)
    (hs : (f e.branches[b]).state = .enrolling ⟨m, 0, [], .calling⟩) (hi : (f e.branches[b]).inFlight = none)
    (hf : e.branches[b].ForeignWf → (f e.branches[b]).ForeignWf) : State.NetKeeps e.toState (e.modBranch b f).toState := by
  have hrun : (f e.branches[b]).run = some ⟨m, 0, [], .calling⟩ := by simp only [Branch.run, hs]
  refine e.modBranch_netKeeps b f (fun h => ⟨hf h.1, fun k => ?_, fun q hq => ?_⟩) fun h q hq => ?_
  · rw [hi] at k
    cases k
  · rw [hrun] at hq
    cases hq
    exact Nat.zero_lt_succ 2
  · rw [hrun] at hq
    cases hq
    exact ⟨List.Pairwise.nil, nofun⟩

theorem Ev.unbindAll_netKeeps (l : List (Slot × Nat)) (e : Ev) :
    State.NetKeeps e.toState (l.foldl (fun e p => e.modDoor p.1 (Door.unbind e.uptime)) e).toState := by
  refine State.NetKeeps.foldl _ l (fun e p _ => ?_) e
  refine .of_fewer rfl (fun d => ?_) rfl
  by_cases hd : p.1 = d
  · subst hd
    rw [Ev.modDoor_same]
    exact .inr rfl
  · exact .inl (by rw [Ev.modDoor_other _ _ _ _ hd])

theorem Ev.beginFresh_netKeeps (e : Ev) (b : BranchId) : State.NetKeeps e.toState (e.beginFresh b).toState := by
  unfold Ev.beginFresh
  dsimp only
  refine (e.unbindAll_netKeeps (e.bound b)).trans (Ev.beginRun_netKeeps _ b _ .fresh rfl rfl fun h => ?_)
  exact ⟨by rw [List.length_map]; exact h.1, h.2.map _ fun _ _ k => k⟩

theorem Ev.beginAdd_netKeeps (e : Ev) (b : BranchId) : State.NetKeeps e.toState (e.beginAdd b).toState :=
  e.beginRun_netKeeps b _ .add rfl rfl id

/-! ### Polls -/

theorem Ev.afterPoll_netKeeps (e : Ev) (b : BranchId) (p : Poll) :
    State.NetKeeps e.toState (e.modBranch b (Branch.afterPoll p)).toState :=
  e.modBranch_netKeeps b _ (fun h => ⟨h.1, nofun, h.2.2⟩) id

theorem Ev.Touches.netKeeps {d : Slot} {e e' : Ev} (h : Ev.Touches d e e')
    (hb : e'.doors[d].binding = e.doors[d].binding) : State.NetKeeps e.toState e'.toState := by
  obtain ⟨r, rs, he⟩ := h
  exact (Ev.Hands.of_touches (P := fun _ => True) ⟨r, rs, he⟩ hb ⟨rs, by rw [he], fun _ _ => trivial⟩).net

theorem Ev.pollAnswered_netKeeps (e : Ev) (b : BranchId) (p : Poll) (r : Report) (hb : e.branches[b].isPolling = true) :
    State.NetKeeps e.toState (e.pollAnswered b p r).toState := by
  refine (e.afterPoll_netKeeps b p).trans ?_
  unfold Ev.pollAnswered
  dsimp only
  split
  · next d hd =>
    obtain ⟨v, hv, hvb, -⟩ := State.doorAt_some hd
    have hv' : (e.modBranch b (Branch.afterPoll p)).doorRec d = some v := hv
    have hn : (e.modBranch b (Branch.afterPoll p)).NoRunFor d := by
      subst hvb
      refine State.noRunFor_of_polling hv' ?_
      rw [Ev.modBranch_same]
      exact hb
    rw [hv]
    obtain ⟨ht, hr⟩ := Ev.takeReport_spec _ d v r hn
    refine ht.netKeeps ?_
    rw [hr]
    exact (Door.replied_keeps _ _ _ _ _ _).2.2.2.1
  · exact .refl _

theorem Ev.pollMissed_netKeeps (e : Ev) (b : BranchId) (p : Poll) : State.NetKeeps e.toState (e.pollMissed b p).toState := by
  refine (e.afterPoll_netKeeps b p).trans ?_
  unfold Ev.pollMissed
  dsimp only
  split
  · next d _ =>
    obtain ⟨ht, hr⟩ := Ev.takeMiss_spec (e.modBranch b (Branch.afterPoll p)) d
    refine ht.netKeeps ?_
    rw [hr]
    exact (Door.missed_keeps _ _).2.1
  · exact .refl _

/-- A poll goes out on a POLLING branch only. -/
theorem State.sendPolls_netKeeps (s : State) : s.NetKeeps s.sendPolls := by
  have step : ∀ (s : State) (b : BranchId), s.NetKeeps (s.sendPoll b) := fun s b => by
    unfold State.sendPoll
    dsimp only
    split
    · next hc =>
      simp only [Bool.and_eq_true] at hc
      cases s.nextPoll b with
      | none => exact .refl s
      | some p =>
        exact Ev.modBranch_netKeeps s.begin b (fun r => r.poll s.uptime p.1 (s.slotOf b p.1) p.2)
          (fun k => ⟨k.1, fun _ => hc.1, k.2.2⟩) id
    · exact .refl s
  unfold State.sendPolls
  generalize branchIds = bs
  induction bs generalizing s with
  | nil => exact .refl s
  | cons b bs ih => exact (step s b).trans (ih _)

end Sys2Proof.Machine
end


section
/-! SUPPORT. Swap, end of an event and resets, and the branches: the bounds and the addresses stay (R4, R134, R166). -/

namespace Sys2Proof.Machine

open Sys2Proof

/-! ### The end of an event -/

theorem State.SameWorks.sameNet {s t : State} (h : s.SameWorks t) : s.SameNet t := by
  rw [h]
  exact .of_eq rfl rfl rfl

theorem Ev.Arbitrates.sameNet {e e' : Ev} (h : e.Arbitrates e') : State.SameNet e.toState e'.toState := by
  refine ⟨h.sources.set, fun d => ?_, fun b => ?_, fun b => ?_, fun b => ?_⟩
  · rcases h.door d with k | ⟨en, v, -, -, k⟩ <;> rw [k]
    rfl
  all_goals rw [h.rest]

/-- What comes after a swap at the end of an event. -/
theorem Ev.settled_netKeeps (e : Ev) : State.NetKeeps e.toState e.arbiters.takeAlarms.updateLive :=
  (e.arbiters_arbitrates.sameNet.trans ((Ev.takeAlarms_works _).sameNet.trans (State.updateLive_works _).sameNet)).netKeeps

/-! ### The swap (R166) -/

theorem Ev.abortRuns_netKeeps (e : Ev) : State.NetKeeps e.toState e.abortRuns.toState := by
  refine State.NetKeeps.foldl _ _ (fun e b _ => ?_) e
  split
  · exact (e.abortRun_hands (P := fun _ => True) (fun _ _ => trivial) b).net
  · exact .refl _

/-- A restated branch runs no enrollment and has no poll in flight (R134). -/
theorem Branch.restate_wf (enabled : Bool) {r : Branch} (h : r.ForeignWf) :
    (r.restate enabled).ForeignWf ∧ (r.restate enabled).StateWf ∧ (r.restate enabled).run = none := by
  have hr : (r.restate enabled).run = none := by
    unfold Branch.restate Branch.run
    cases enabled <;> rfl
  exact ⟨h, ⟨nofun, fun q hq => by rw [hr] at hq; cases hq⟩, hr⟩

/-- A door keeps its binding over a swap only where its record keeps branch and serial (R4). -/
theorem swapDoor_binding {now : Time} {old new : Option DoorRec} {r : Door} {a : Nat}
    (h : (swapDoor now old new r).binding = some a) :
    ∃ o n, old = some o ∧ new = some n ∧ o.branch = n.branch ∧ r.binding = some a := by
  unfold swapDoor at h
  split at h
  · cases h
  · next n =>
    cases old with
    | none => cases h
    | some o =>
      dsimp only at h
      split at h
      · next hk =>
        simp only [Bool.and_eq_true, beq_iff_eq] at hk
        exact ⟨o, n, rfl, rfl, hk.1, h⟩
      · cases h

theorem Ev.rederive_branch (now : Time) (bs : Banks) (e : Ev) (b : BranchId) :
    ∃ enabled, (e.rederive now bs).branches[b] = e.branches[b].restate enabled := by
  simp only [Ev.rederive, Ev.modDoors, Fin.getElem_fin, Vector.getElem_ofFn]
  exact ⟨_, rfl⟩

theorem Ev.rederive_netKeeps (now : Time) (bs : Banks) (e : Ev) :
    State.NetKeeps e.toState (e.rederive now bs).toState where
  bounds h b := by
    obtain ⟨enabled, hb⟩ := e.rederive_branch now bs b
    obtain ⟨hf, hs, -⟩ := Branch.restate_wf enabled (h b).1
    rw [hb]
    exact ⟨hf, hs⟩
  addresses h := by
    have hm : ∀ (b : BranchId) (d : Slot) (a : Nat), (d, a) ∈ (e.rederive now bs).bound b → (d, a) ∈ e.bound b := by
      intro b d a hd
      obtain ⟨v, hv, hb, ha⟩ := (State.mem_bound _ b d a).mp hd
      rw [Ev.rederive_door] at ha
      obtain ⟨o, n, ho, hn, hon, hr⟩ := swapDoor_binding ha
      obtain rfl : v = n := Option.some.inj (hv.symm.trans hn)
      exact (e.mem_bound b d a).mpr ⟨o, ho, hon.trans hb, hr⟩
    refine ⟨?_, fun b r hr => ?_⟩
    · have ha := h.1
      rw [State.addressWf_iff] at ha ⊢
      exact fun b d x a hd hx => ha b d x a (hm b d a hd) (hm b x a hx)
    · obtain ⟨enabled, hb⟩ := e.rederive_branch now bs b
      rw [hb] at hr
      unfold Branch.restate Branch.run at hr
      cases enabled <;> cases hr

theorem Ev.swapRequests_netKeeps (old : State) (hadNone : Bool) (e : Ev) :
    State.NetKeeps e.toState (e.swapRequests old hadNone).toState := by
  have push : ∀ (e : Ev) (r : AlarmReq), State.NetKeeps e.toState (e.push r).toState := fun e r => .refl _
  have drops : State.NetKeeps e.toState (slots.foldl (fun e d => Ev.swapDrop old e d) e).toState := by
    refine State.NetKeeps.foldl _ _ (fun e d _ => ?_) e
    unfold Ev.swapDrop
    split
    · exact push _ _
    · exact .refl _
  have lost : ∀ e : Ev, State.NetKeeps e.toState (slots.foldl (fun e d => Ev.swapLost old e d) e).toState := by
    refine State.NetKeeps.foldl _ _ fun e d _ => ?_
    have level := fun k => (e.enterLevel_touches d k).netKeeps (by rw [Ev.enterLevel_door])
    unfold Ev.swapLost
    split
    · split
      · exact .refl _
      · exact level _
    · exact level _
    · exact .refl _
  unfold Ev.swapRequests
  dsimp only
  split
  · exact ((drops.trans (push _ _)).trans (push _ _)).trans (lost _)
  · exact (drops.trans (push _ _)).trans (lost _)

theorem Ev.recompute_netKeeps (before : State) (e : Ev) : State.NetKeeps e.toState (Ev.recompute before e).toState :=
  (e.recompute_hands (P := fun _ => True) (fun _ _ => trivial) before (fun _ => trivial) fun _ _ => trivial).net

theorem Ev.swap_netKeeps (e : Ev) (id : BankId) : State.NetKeeps e.toState (e.swap id).toState := by
  rw [Ev.swap_eq]
  exact ((e.abortRuns_netKeeps.trans (Ev.rederive_netKeeps _ _ _)).trans (Ev.swapRequests_netKeeps _ _ _)).trans
    (Ev.recompute_netKeeps _ _)

theorem Ev.swapIfQuiescent_netKeeps (e : Ev) : State.NetKeeps e.toState e.swapIfQuiescent.toState := by
  unfold Ev.swapIfQuiescent
  split
  · split
    · exact e.swap_netKeeps _
    · exact .refl _
  · exact .refl _

theorem Ev.settle_netKeeps (e : Ev) : State.NetKeeps e.toState e.settle :=
  (e.swapIfQuiescent_netKeeps.trans (Ev.settled_netKeeps _)).trans (State.sendPolls_netKeeps _)

theorem Ev.settleJudging_netKeeps (e : Ev) : State.NetKeeps e.toState e.settleJudging :=
  ((e.swapIfQuiescent_netKeeps.trans (Ev.settled_netKeeps _)).trans (State.judgeFreeze_works _).sameNet.netKeeps).trans
    (State.sendPolls_netKeeps _)

theorem Ev.settleReset_netKeeps (e : Ev) : State.NetKeeps e.toState e.settleReset := by
  have h : e.takeAlarms.SameWorks
      (({ e.takeAlarms with ind := { e.takeAlarms.ind with live := e.takeAlarms.picture } } : State).freeze) := rfl
  exact ((Ev.takeAlarms_works e).trans h).sameNet.netKeeps.trans (State.sendPolls_netKeeps _)

/-! ### Resets -/

/-- The bounds of the branches and the addresses hold. -/
def State.NetWf (s : State) : Prop :=
  (∀ b : BranchId, s.branches[b].ForeignWf ∧ s.branches[b].StateWf) ∧ s.AddressWf ∧ s.RunsWf

theorem State.NetKeeps.netWf {s t : State} (h : s.NetKeeps t) (hs : s.NetWf) : t.NetWf := ⟨h.bounds hs.1, h.addresses hs.2⟩

theorem State.NetWf.netKeeps {t : State} (h : t.NetWf) (s : State) : s.NetKeeps t := ⟨fun _ => h.1, fun _ => h.2⟩

/-- A part with blank doors and branches. -/
theorem State.netWf_of_blank {s : State} (hd : ∀ d : Slot, s.doors[d] = Door.blank) (hb : ∀ b : BranchId, s.branches[b] = Branch.blank) :
    s.NetWf := by
  have hbound : ∀ b, s.bound b = [] := fun b => List.eq_nil_iff_forall_not_mem.mpr fun p hp => by
    obtain ⟨v, -, -, ha⟩ := (s.mem_bound b p.1 p.2).mp hp
    rw [hd] at ha
    cases ha
  refine ⟨fun b => ?_, fun b => ?_, fun b r hr => ?_⟩
  · rw [hb]
    exact ⟨⟨Nat.zero_le _, List.Pairwise.nil⟩, nofun, nofun⟩
  · rw [hbound]
    exact List.Pairwise.nil
  · rw [hb] at hr
    cases hr

theorem State.losePower_netKeeps (s : State) : s.NetKeeps s.losePower :=
  (State.netWf_of_blank (fun d => by simp [State.losePower, State.off]) fun b => by
    simp [State.losePower, State.off]).netKeeps s

/-- A change of sense or latch. -/
theorem Ev.modLine_netKeeps (e : Ev) (b : BranchId) (f : Branch → Branch)
    (h : ∀ r, (f r).state = r.state ∧ (f r).foreign = r.foreign ∧ (f r).inFlight = r.inFlight) :
    State.NetKeeps e.toState (e.modBranch b f).toState := by
  refine e.modBranch_netKeeps b f (fun k => ⟨k.1.congr (h _).2.1, k.2.congr (h _).1 (h _).2.2⟩) fun k => ?_
  rw [Branch.run_congr (h _).1]
  exact k

theorem Ev.setSense_netKeeps (e : Ev) (b : BranchId) (v : Sense) : State.NetKeeps e.toState (e.setSense b v).toState := by
  have h := e.modLine_netKeeps b (fun r => { r with sense := v }) fun _ => ⟨rfl, rfl, rfl⟩
  unfold Ev.setSense
  dsimp only
  repeat' split
  all_goals exact h

theorem Ev.sample_netKeeps (e : Ev) (b : BranchId) : State.NetKeeps e.toState (e.sample b).toState := by
  unfold Ev.sample
  split
  · exact .refl _
  · exact e.setSense_netKeeps b _

theorem Ev.raiseNoTable_netKeeps (e : Ev) : State.NetKeeps e.toState e.raiseNoTable.toState := by
  unfold Ev.raiseNoTable
  split <;> exact .refl _

theorem Ev.freshRuns_netKeeps (e : Ev) : State.NetKeeps e.toState e.freshRuns.toState := by
  refine State.NetKeeps.foldl _ _ (fun e b _ => ?_) e
  split
  · exact e.beginFresh_netKeeps b
  · exact .refl _

theorem Ev.powerOnLoad_branches (e : Ev) : e.powerOnLoad.branches = e.branches := by
  unfold Ev.powerOnLoad
  split <;> rfl

theorem State.powerOn_netKeeps (s : State) (pins : Pins) : s.NetKeeps (s.powerOn pins) := by
  unfold State.powerOn
  dsimp only
  generalize he : Ev.powerOnLoad _ = e
  have hw : e.NetWf := State.netWf_of_blank
    (fun d => by rw [← he, Ev.powerOnLoad_doors]; simp [State.losePower, State.off, State.begin, Ev.setFlag])
    fun b => by rw [← he, Ev.powerOnLoad_branches]; simp [State.losePower, State.off, State.begin, Ev.setFlag]
  refine (State.NetKeeps.netWf ?_ hw).netKeeps s
  exact (((State.NetKeeps.foldl _ _ (fun e b _ => e.sample_netKeeps b) e).trans (Ev.raiseNoTable_netKeeps _)).trans
    (Ev.freshRuns_netKeeps _)).trans (Ev.settleReset_netKeeps _)

theorem Ev.abandonRuns_netKeeps (e : Ev) : State.NetKeeps e.toState e.abandonRuns.toState := by
  refine State.NetKeeps.foldl _ _ (fun e b _ => ?_) e
  split
  · exact e.closeRun_netKeeps b none
  · exact .refl _

theorem State.restartState_branch (s : State) (flag : EventFlag) (pins : Pins) (b : BranchId) :
    (s.restartState flag pins).branches[b] = (s.branches[b].restate (s.enabled b)).resense pins.lineLow[b] := by
  simp [State.restartState]

theorem State.restartState_netKeeps (s : State) (flag : EventFlag) (pins : Pins) : s.NetKeeps (s.restartState flag pins) where
  bounds h b := by
    obtain ⟨hf, hs, -⟩ := Branch.restate_wf (s.enabled b) (h b).1
    rw [State.restartState_branch]
    exact ⟨hf, hs⟩
  addresses h := by
    have hbound : ∀ b, (s.restartState flag pins).bound b = s.bound b := fun b =>
      State.bound_congr (Banks.restarted_activeSet s.banks) fun d _ _ _ => by simp [State.restartState, Door.restarted]
    refine ⟨fun b => by rw [hbound]; exact h.1 b, fun b r hr => ?_⟩
    rw [State.restartState_branch] at hr
    obtain ⟨-, -, hn⟩ := Branch.restate_wf (r := { s.branches[b] with foreign := [] }) (s.enabled b)
      ⟨Nat.zero_le _, List.Pairwise.nil⟩
    have : ((s.branches[b].restate (s.enabled b)).resense pins.lineLow[b]).run = none := hn
    rw [this] at hr
    cases hr

theorem Ev.raiseAnew_netKeeps (e : Ev) : State.NetKeeps e.toState e.raiseAnew.toState := by
  have unbound : State.NetKeeps e.toState e.raiseUnbound.toState := by
    refine State.NetKeeps.foldl _ _ (fun e p _ => ?_) e
    split
    · exact (e.enterLevel_touches p.1 _).netKeeps (by rw [Ev.enterLevel_door])
    · exact .refl _
  have branch : ∀ e : Ev, State.NetKeeps e.toState (branchIds.foldl Ev.raiseBranch e).toState := by
    refine State.NetKeeps.foldl _ _ fun e b _ => ?_
    unfold Ev.raiseBranch
    dsimp only
    repeat' split
    all_goals exact .refl _
  exact (unbound.trans (branch _)).trans (Ev.raiseNoTable_netKeeps _)

end Sys2Proof.Machine
end


section
/-! SUPPORT. Calm events: those that end no zone mode and release no latch, and that keep line senses, heel sources
and branches legal. -/

namespace Sys2Proof.Machine

open Sys2Proof

/-! ### Lawful and calm -/

/-- Line senses, heel sources, the bounds of the branches and their addresses stay legal. -/
structure State.Lawful (s t : State) : Prop where
  sense : s.SenseWf → t.SenseWf
  heel : s.heel.Wf → t.heel.Wf
  net : s.NetKeeps t

/-- Lawful, and each zone keeps its mode and each line its latch. -/
structure State.Calm (s t : State) : Prop extends s.Lawful t where
  zones : ∀ z : ZoneId, t.zones[z].closed = s.zones[z].closed
  latch : ∀ b : BranchId, t.branches[b].latch = s.branches[b].latch

theorem State.Lawful.trans {s t u : State} (h : s.Lawful t) (k : t.Lawful u) : s.Lawful u :=
  ⟨k.sense ∘ h.sense, k.heel ∘ h.heel, h.net.trans k.net⟩

namespace State.Calm

variable {s t u : State}

theorem trans (h : s.Calm t) (k : t.Calm u) : s.Calm u :=
  ⟨h.toLawful.trans k.toLawful, fun z => (k.zones z).trans (h.zones z), fun b => (k.latch b).trans (h.latch b)⟩

/-- Where zones, heel and lines are the same. -/
theorem of_lines (hz : t.zones = s.zones) (hh : t.heel = s.heel)
    (hl : ∀ b : BranchId, t.branches[b].latch = s.branches[b].latch ∧ t.branches[b].sense = s.branches[b].sense)
    (hn : s.NetKeeps t) : s.Calm t :=
  ⟨⟨fun h b => by rw [(hl b).1, (hl b).2]; exact h b, fun h => by rwa [hh], hn⟩, fun z => by rw [hz], fun b => (hl b).1⟩

theorem refl (s : State) : s.Calm s := of_lines rfl rfl (fun _ => ⟨rfl, rfl⟩) (.refl s)

/-- Where zones, heel, branches and doors are the same. -/
theorem of_same (hz : t.zones = s.zones) (hh : t.heel = s.heel) (hd : t.doors = s.doors) (hb : t.branches = s.branches)
    (ha : t.activeSet = s.activeSet) : s.Calm t :=
  of_lines hz hh (fun b => by rw [hb]; exact ⟨rfl, rfl⟩) (State.SameNet.of_eq ha hd hb).netKeeps

end State.Calm

/-- The lines of the outer part. -/
theorem State.lines_get (s : State) (b : BranchId) : s.outer.lines[b] = (s.branches[b].latch, s.branches[b].sense) := by
  simp [State.outer]

theorem State.Calm.of_outer {s t : State} (h : t.outer = s.outer) (hn : s.NetKeeps t) : s.Calm t := by
  refine .of_lines (congrArg Outer.zones h) (congrArg Outer.heel h) (fun b => ?_) hn
  have hl := congrArg (fun o : Outer => o.lines[b]) h
  rw [State.lines_get, State.lines_get] at hl
  exact ⟨congrArg Prod.fst hl, congrArg Prod.snd hl⟩

/-- A fold of calm steps. -/
theorem State.Calm.foldl {α : Type} (f : Ev → α → Ev) (h : ∀ (e : Ev) (a : α), State.Calm e.toState (f e a).toState) (l : List α)
    (e : Ev) : State.Calm e.toState (l.foldl f e).toState := by
  induction l generalizing e with
  | nil => exact .refl _
  | cons a l ih => exact (h e a).trans (ih _)

theorem Ev.Hands.calm {e e' : Ev} (h : e.Hands (fun _ => True) e') (ho : e'.outer = e.outer) : State.Calm e.toState e'.toState :=
  .of_outer ho h.net

theorem Ev.settle_calm (e : Ev) : State.Calm e.toState e.settle := .of_outer e.settle_outer e.settle_netKeeps

theorem Ev.settleJudging_calm (e : Ev) : State.Calm e.toState e.settleJudging :=
  .of_outer e.settleJudging_outer e.settleJudging_netKeeps

theorem Ev.settleReset_calm (e : Ev) : State.Calm e.toState e.settleReset := by
  refine .of_outer ?_ e.settleReset_netKeeps
  have h : ∀ s : State, ({ s with ind := { s.ind with live := s.picture } } : State).outer = s.outer := fun _ => rfl
  unfold Ev.settleReset
  dsimp only
  rw [State.sendPolls_outer, State.freeze_outer, h, Ev.takeAlarms_outer]

/-! ### Lines -/

/-- A branch whose sense is OWN exactly with its latch set (R43). -/
def Branch.SenseWf (r : Branch) : Prop := r.sense = .own ↔ r.latch = true

theorem sampledSense_ne_own (low : Bool) : sampledSense low ≠ .own := by cases low <;> decide

/-- A change of one line keeps the heel and every other branch. -/
theorem Ev.modLine_lawful {e : Ev} {b : BranchId} {f : Branch → Branch}
    (h : ∀ r, (f r).state = r.state ∧ (f r).foreign = r.foreign ∧ (f r).inFlight = r.inFlight)
    (hs : (f e.branches[b]).SenseWf) : State.Lawful e.toState (e.modBranch b f).toState where
  sense k x := by
    by_cases hx : b = x
    · subst hx
      rw [Ev.modBranch_same]
      exact hs
    · rw [Ev.modBranch_other _ _ _ _ hx]
      exact k x
  heel := id
  net := e.modLine_netKeeps b f h

/-- A sense taken in: the branch with it, and nothing else but an alarm request. -/
theorem Ev.setSense_state (e : Ev) (b : BranchId) (v : Sense) :
    (e.setSense b v).toState = (e.modBranch b fun r => { r with sense := v }).toState := by
  unfold Ev.setSense
  dsimp only
  repeat' split
  all_goals rfl

theorem Ev.sample_calm (e : Ev) (b : BranchId) : State.Calm e.toState (e.sample b).toState := by
  unfold Ev.sample
  split
  · exact .refl _
  · next hl =>
    rw [Ev.setSense_state]
    have hlatch : e.branches[b].latch = false := by simpa using hl
    refine ⟨Ev.modLine_lawful (fun _ => ⟨rfl, rfl, rfl⟩) ?_, fun _ => rfl, fun x => ?_⟩
    · have hs : ({ e.branches[b] with sense := sampledSense e.pins.lineLow[b] } : Branch).SenseWf := by
        unfold Branch.SenseWf
        dsimp only
        rw [hlatch]
        exact ⟨fun k => absurd k (sampledSense_ne_own _), nofun⟩
      exact hs
    · by_cases hx : b = x
      · subst hx
        rw [Ev.modBranch_same]
      · rw [Ev.modBranch_other _ _ _ _ hx]

theorem Ev.latchSet_state (e : Ev) (b : BranchId) :
    (e.latchSet b).toState = (e.modBranch b fun r => { r with latch := true, sense := .own }).toState := by
  unfold Ev.latchSet
  rw [Ev.setSense_state]
  simp [Ev.modBranch]

theorem Ev.latchSet_lawful (e : Ev) (b : BranchId) : State.Lawful e.toState (e.latchSet b).toState := by
  rw [Ev.latchSet_state]
  exact Ev.modLine_lawful (fun _ => ⟨rfl, rfl, rfl⟩) ⟨fun _ => rfl, fun _ => rfl⟩

/-- The line latch is set and no other is changed (R42). -/
theorem Ev.latchSet_latch (e : Ev) (b x : BranchId) (h : e.branches[x].latch = true) :
    (e.latchSet b).branches[x].latch = true := by
  rw [Ev.latchSet_state]
  by_cases hx : b = x
  · subst hx
    rw [Ev.modBranch_same]
  · rw [Ev.modBranch_other _ _ _ _ hx]
    exact h

/-- The line latch is released and the line sampled (R42, R43). -/
theorem Ev.latchRelease_state {e : Ev} {b : BranchId} (h : e.branches[b].latch = true) :
    (e.latchRelease b).toState =
      (e.modBranch b fun r => { r with latch := false, sense := sampledSense e.pins.lineLow[b] }).toState := by
  unfold Ev.latchRelease Ev.sample
  rw [if_pos h, if_neg (by rw [Ev.modBranch_same]; exact Bool.false_ne_true), Ev.setSense_state]
  simp [Ev.modBranch]

theorem Ev.latchRelease_lawful (e : Ev) (b : BranchId) : State.Lawful e.toState (e.latchRelease b).toState := by
  by_cases h : e.branches[b].latch = true
  · rw [Ev.latchRelease_state h]
    exact Ev.modLine_lawful (fun _ => ⟨rfl, rfl, rfl⟩) ⟨fun k => absurd k (sampledSense_ne_own _), nofun⟩
  · rw [Ev.latchRelease, if_neg h]
    exact (State.Calm.refl _).toLawful

/-! ### Zone modes -/

theorem Ev.setMode_lawful (e : Ev) (z : ZoneId) (c : Bool) (st : Station) : State.Lawful e.toState (e.setMode z c st).toState := by
  unfold Ev.setMode
  split
  · exact (State.Calm.refl _).toLawful
  · exact ⟨id, id, (State.SameNet.of_eq (s := e.toState)
      (t := (e.modZone z fun _ => ⟨c, some st, e.uptime⟩).toState) rfl rfl rfl).netKeeps⟩

theorem Ev.setModes_lawful (zs : List ZoneId) (c : Bool) (st : Station) (e : Ev) :
    State.Lawful e.toState (e.setModes zs c st).toState := by
  unfold Ev.setModes
  induction zs generalizing e with
  | nil => exact (State.Calm.refl _).toLawful
  | cons z zs ih => exact (e.setMode_lawful z c st).trans (ih _)

/-- A mode that a zone takes. -/
theorem Ev.setMode_closed (e : Ev) (z x : ZoneId) (c : Bool) (st : Station) :
    (e.setMode z c st).zones[x].closed = if z = x then c else e.zones[x].closed := by
  unfold Ev.setMode
  split
  · next h =>
    split
    · next hx => rw [← hx, h]
    · rfl
  · by_cases hx : z = x
    · subst hx
      rw [if_pos rfl, Ev.modZone_same]
    · rw [if_neg hx, Ev.modZone_other _ _ _ _ hx]

theorem Ev.setModes_closed (zs : List ZoneId) (c : Bool) (st : Station) (e : Ev) (x : ZoneId) :
    (e.setModes zs c st).zones[x].closed = if x ∈ zs then c else e.zones[x].closed := by
  unfold Ev.setModes
  induction zs generalizing e with
  | nil => rfl
  | cons z zs ih =>
    rw [List.foldl_cons, ih, Ev.setMode_closed]
    by_cases hx : z = x
    · simp [hx]
    · simp [hx, Ne.symm hx]

/-! ### Orders that follow -/

theorem Ev.cancelPending_calm (e : Ev) : State.Calm e.toState e.cancelPending.toState := by
  refine .of_outer e.cancelPending_outer (State.SameNet.netKeeps (State.SameNet.of_eq e.cancelPending_moves.sources.set ?_ ?_)) <;>
    unfold Ev.cancelPending <;> split <;> rfl

theorem Ev.sourcesChanged_calm (before : State) (e : Ev) : State.Calm e.toState (Ev.sourcesChanged before e).toState := by
  refine .of_outer (Ev.sourcesChanged_outer before e) ?_
  unfold Ev.sourcesChanged
  split
  · exact e.cancelPending_calm.net.trans (Ev.recompute_netKeeps _ _)
  · exact Ev.recompute_netKeeps _ _

/-! ### Heel (R76, R77) -/

theorem HeelSource.stale_wf {h : HeelSource} (hw : h.Wf) : ({ h with fresh := false } : HeelSource).Wf := ⟨nofun, hw.2⟩

theorem clampHeel_wf (v : BitVec 16) (now : Time) : (⟨some (clampHeel v), now, true⟩ : HeelSource).Wf := by
  refine ⟨fun _ => rfl, fun x hx => ?_⟩
  obtain rfl : clampHeel v = x := Option.some.inj hx
  unfold clampHeel
  omega

theorem Heel.put_wf {h : Heel} {x : HeelSource} (hw : h.Wf) (hx : x.Wf) (src : HeelSrc) : (h.put src x).Wf := by
  cases src
  · exact ⟨hx, hw.2⟩
  · exact ⟨hw.1, hx⟩

theorem Heel.get_wf {h : Heel} (hw : h.Wf) (src : HeelSrc) : (h.get src).Wf := by
  cases src
  · exact hw.1
  · exact hw.2

/-- A change of the heel record alone. -/
theorem State.Calm.of_heel {s t : State} {h : Heel} (ht : t = { s with heel := h }) (hw : s.heel.Wf → h.Wf) : s.Calm t := by
  subst ht
  exact ⟨⟨id, hw, (State.SameNet.of_eq (s := s) (t := { s with heel := h }) rfl rfl rfl).netKeeps⟩, fun _ => rfl, fun _ => rfl⟩

theorem Ev.takeHeel_calm (e : Ev) (src : HeelSrc) (v : BitVec 16) : State.Calm e.toState (e.takeHeel src v).toState := by
  refine .of_heel (h := e.heel.put src ⟨some (clampHeel v), e.uptime, true⟩) ?_ fun hw => Heel.put_wf hw (clampHeel_wf v _) src
  unfold Ev.takeHeel
  dsimp only
  split <;> rfl

theorem Ev.judgeHeel_state (e : Ev) : e.judgeHeel.toState = e.toState := by
  unfold Ev.judgeHeel
  split <;> rfl

theorem Ev.heelStale_calm (e : Ev) (src : HeelSrc) : State.Calm e.toState (e.heelStale src).toState :=
  .of_heel (Ev.judgeHeel_state _) fun hw => Heel.put_wf hw (HeelSource.stale_wf (Heel.get_wf hw src)) src

theorem Ev.firstJudge_calm (e : Ev) : State.Calm e.toState e.firstJudge.toState := .of_heel (Ev.judgeHeel_state _) id

/-! ### Panel commands on doors and alarms -/

section Inert

variable (e : Ev) (d : Slot)

theorem Ev.requestRemote_hands (dir : Dir) : e.Hands (fun _ => True) (e.requestRemote d dir) :=
  e.request_hands (fun _ _ => trivial) d dir _ _

theorem Ev.doorClose_calm : State.Calm e.toState (e.doorClose d).1.toState := by
  have remote : ∀ e₁ : Ev, e.Hands (fun _ => True) e₁ → e₁.outer = e.outer →
      State.Calm e.toState (e₁.requestRemote d .closing).toState := fun e₁ h ho =>
    (h.trans (e₁.requestRemote_hands d .closing)).calm ((e₁.request_outer d _ _ _).trans ho)
  unfold Ev.doorClose
  dsimp only
  repeat' split
  · exact .refl _
  · exact .refl _
  · exact .refl _
  · exact .refl _
  · exact remote _ (e.endHalted_hands d) (e.endHalted_outer d)
  · exact remote _ ((e.toPhase_hands d _).trans (Ev.zeroRetry_hands _ d)) rfl
  · exact remote _ (.refl e) rfl

theorem Ev.doorOpen_calm : State.Calm e.toState (e.doorOpen d).1.toState := by
  have remote := (e.requestRemote_hands d .opening).calm (e.request_outer d _ _ _)
  unfold Ev.doorOpen
  dsimp only
  repeat' split
  case isFalse => exact remote
  all_goals exact .refl _

theorem Ev.doorStop_calm : State.Calm e.toState (e.doorStop d).1.toState := by
  unfold Ev.doorStop
  repeat' split
  · exact .refl _
  · exact (e.dropEntry_hands d _).calm rfl
  · exact ((e.place_hands d _).trans (Ev.dropMove_hands _ d _)).calm (by rw [Ev.dropMove_outer, Ev.place_outer])
  · exact (e.endHalted_hands d).calm (e.endHalted_outer d)
  · exact ((e.toPhase_hands d _).trans (Ev.zeroRetry_hands _ d)).calm rfl
  · exact .refl _

theorem Ev.rearm_calm : State.Calm e.toState (e.rearm d).toState := by
  unfold Ev.rearm
  dsimp only
  split
  · split
    · exact ((e.zeroRetry_hands d).trans (Ev.toPhase_hands _ d _)).calm rfl
    · refine (((e.zeroRetry_hands d).trans (Ev.toPhase_hands _ d _)).trans
        (Ev.needClose_hands (fun _ _ => trivial) _ d _)).calm ?_
      rw [Ev.needClose_outer]
      rfl
  · exact .refl _

theorem Ev.ackOne_calm (j : Subject) (k : AlarmKind) (src : Station) : State.Calm e.toState (e.ackOne j k src).toState := by
  unfold Ev.ackOne
  dsimp only
  split
  · exact Ev.rearm_calm (e.push _) _
  · exact .refl _

theorem Ev.ackAll_calm (p : PanelRec) (src : Station) : State.Calm e.toState (e.ackAll p src).toState :=
  State.Calm.foldl Ev.rearm Ev.rearm_calm _ { e with reqs := e.reqs ++ e.alarms.ackAllReqs p src }

end Inert

end Sys2Proof.Machine
end


section
/-! SUPPORT. Expiries, polls, rounds, requests, transmissions and restarts are calm: they end no zone mode and
release no latch. -/

namespace Sys2Proof.Machine

open Sys2Proof

/-! ### Expiries of a door -/

section Expiries

variable (e : Ev) (d : Slot)

theorem Ev.Touches.calm {e e' : Ev} {d : Slot} (h : Ev.Touches d e e') (ho : e'.outer = e.outer)
    (hb : e'.doors[d].binding = e.doors[d].binding) : State.Calm e.toState e'.toState := .of_outer ho (h.netKeeps hb)

theorem Ev.dwellExpired_calm : State.Calm e.toState (e.dwellExpired d).toState := by
  have idle : e.Hands (fun _ => True) (e.toPhase d .idle) := e.toPhase_hands d _
  refine Ev.Hands.calm ?_ (e.dwellExpired_outer d)
  unfold Ev.dwellExpired
  dsimp only
  split
  · exact idle.trans (Ev.request_hands (fun _ _ => trivial) _ d _ _ _)
  · exact idle

theorem Ev.retryExpired_outer (dir : Dir) (basis : Basis) : (e.retryExpired d dir basis).outer = e.outer := by
  unfold Ev.retryExpired
  dsimp only
  repeat' split
  all_goals simp

theorem Ev.retryExpired_calm (dir : Dir) (basis : Basis) : State.Calm e.toState (e.retryExpired d dir basis).toState := by
  have idle : e.Hands (fun _ => True) (e.toPhase d .idle) := e.toPhase_hands d _
  have again := fun dir o b => idle.trans (Ev.request_hands (fun _ _ => trivial) _ d dir o b)
  have rest := idle.trans (Ev.zeroRetry_hands _ d)
  refine Ev.Hands.calm ?_ (e.retryExpired_outer d dir basis)
  unfold Ev.retryExpired
  dsimp only
  repeat' split
  · exact rest
  · exact again _ _ _
  · exact again _ _ _
  · exact again _ _ _
  · exact rest

theorem Ev.leadExpired_calm : State.Calm e.toState (e.leadExpired d).toState := by
  refine ((e.place_hands d .close).trans (Ev.toPhase_hands _ d .driving)).calm ?_
  rw [Ev.toPhase_outer, Ev.place_outer]

theorem Ev.endTimeout_calm (dir : Dir) : State.Calm e.toState (e.endTimeout d dir).toState :=
  ((e.dropMove_hands d .idle).trans (Ev.enterEnd_hands _ d .travelTimeout dir trivial)).calm (e.endTimeout_outer d dir)

theorem Ev.issueExpired_calm (a : Admission) : State.Calm e.toState (e.issueExpired d a).toState :=
  ((e.place_hands (P := fun _ => True) d _).calm (e.place_outer d _)).trans (Ev.endTimeout_calm _ d a.dir)

theorem Ev.holdsExpired_calm : State.Calm e.toState (e.holdsExpired d).toState :=
  (e.modDoor_touches d _).calm rfl (by rw [Ev.modDoor_same])

end Expiries

/-! ### Polls and rounds -/

section Branches

variable (e : Ev) (b : BranchId)

theorem Branch.afterPoll_keepsLine (p : Poll) : Branch.KeepsLine (Branch.afterPoll p) := fun _ => ⟨rfl, rfl⟩

theorem Ev.pollAnswered_calm (p : Poll) (r : Report) (hb : e.branches[b].isPolling = true) :
    State.Calm e.toState (e.pollAnswered b p r).toState := by
  have h := e.modBranch_outer b _ (Branch.afterPoll_keepsLine p)
  refine .of_outer ?_ (e.pollAnswered_netKeeps b p r hb)
  unfold Ev.pollAnswered
  dsimp only
  repeat' split
  · rw [Ev.takeReport_outer, h]
  · exact h
  · exact h

theorem Ev.pollMissed_calm (p : Poll) : State.Calm e.toState (e.pollMissed b p).toState := by
  have h := e.modBranch_outer b _ (Branch.afterPoll_keepsLine p)
  refine .of_outer ?_ (e.pollMissed_netKeeps b p)
  unfold Ev.pollMissed
  dsimp only
  split
  · rw [Ev.takeMiss_outer, h]
  · exact h

theorem Ev.forgetForeign_calm : State.Calm e.toState (e.modBranch b fun r => { r with foreign := [] }).toState :=
  .of_outer (e.modBranch_outer b _ fun _ => ⟨rfl, rfl⟩)
    (e.modBranch_netKeeps b _ (fun h => ⟨⟨Nat.zero_le _, List.Pairwise.nil⟩, h.2⟩) id)

end Branches

/-! ### Management requests -/

theorem Ev.swap_calm (e : Ev) (id : BankId) : State.Calm e.toState (e.swap id).toState := .of_outer (e.swap_outer id) (e.swap_netKeeps id)

/-- A request whose service is calm. -/
def ServesCalm (f : Ev → Ev × Reply) : Prop := ∀ e : Ev, State.Calm e.toState (f e).1.toState

/-- Where zones, heel, doors, branches and the active set are the same. -/
theorem Ev.calm_of_same {e e' : Ev} (h : e'.zones = e.zones ∧ e'.heel = e.heel ∧ e'.doors = e.doors ∧ e'.branches = e.branches
    ∧ e'.activeSet = e.activeSet) : State.Calm e.toState e'.toState := .of_same h.1 h.2.1 h.2.2.1 h.2.2.2.1 h.2.2.2.2

theorem readStatus_calm (page : Byte) : ServesCalm fun e => e.readStatus page := by
  intro e
  dsimp only [Ev.readStatus]
  split
  · exact .refl _
  · dsimp only
    repeat' split
    all_goals exact Ev.calm_of_same ⟨rfl, rfl, rfl, rfl, rfl⟩

theorem readAlarms_calm (chunk : Byte) : ServesCalm fun e => e.readAlarms chunk := by
  intro e
  dsimp only [Ev.readAlarms]
  repeat' split
  all_goals exact Ev.calm_of_same ⟨rfl, rfl, rfl, rfl, rfl⟩

/-- A change of a bank that is not ACTIVE. -/
theorem Ev.putBank_calm (e : Ev) (id : BankId) (v : Bank) (h : (e.banks.get id).state ≠ .active) (hv : v.state ≠ .active) :
    State.Calm e.toState { e.toState with banks := e.banks.put id v } :=
  .of_same rfl rfl rfl rfl (Banks.put_activeSet _ id v h hv)

theorem loadBegin_calm : ServesCalm fun e => e.loadBegin := by
  intro e
  dsimp only [Ev.loadBegin]
  repeat' split
  · exact .refl _
  · exact .refl _
  · exact Ev.calm_of_same ⟨rfl, rfl, rfl, rfl, Banks.loadTarget_activeSet _⟩

theorem loadChunk_calm (table index : Byte) (bytes : List Byte) : ServesCalm fun e => e.loadChunk table index bytes := by
  intro e
  dsimp only [Ev.loadChunk]
  split
  · exact .refl _
  · next id h =>
    have hs := Banks.state_of_find h
    split
    · exact .refl _
    · exact e.putBank_calm id _ (by rw [hs]; decide) (by simp [hs])

theorem loadEnd_calm (check : BitVec 16) : ServesCalm fun e => e.loadEnd check := by
  intro e
  dsimp only [Ev.loadEnd]
  split
  · exact .refl _
  · next id h =>
    have hs : (e.banks.get id).state ≠ .active := by rw [Banks.state_of_find h]; decide
    split
    · exact e.putBank_calm id _ hs (by simp)
    · exact e.putBank_calm id _ hs (by simp [Bank.blank])

theorem activateBank_calm (from_ : BankState) (hf : from_ ≠ .active) : ServesCalm fun e => e.activateBank from_ := by
  intro e
  dsimp only [Ev.activateBank]
  split
  · exact .refl _
  · next id h =>
    repeat' split
    · exact .refl _
    · exact e.swap_calm id
    · exact e.putBank_calm id _ (by rw [Banks.state_of_find h]; exact hf) (by simp)

theorem startStore_calm : ServesCalm fun e => e.startStore := by
  intro e
  dsimp only [Ev.startStore]
  repeat' split
  all_goals exact Ev.calm_of_same ⟨rfl, rfl, rfl, rfl, rfl⟩

theorem enroll_calm (branch mode : Byte) : ServesCalm fun e => e.enroll branch mode := by
  have begin_ : ∀ (e : Ev) b, State.Calm e.toState (if mode = 0 then e.beginFresh b else e.beginAdd b).toState := by
    intro e b
    split
    · exact .of_outer (e.beginFresh_outer b) (e.beginFresh_netKeeps b)
    · exact .of_outer (e.beginAdd_outer b) (e.beginAdd_netKeeps b)
  intro e
  dsimp only [Ev.enroll]
  split
  · exact .refl _
  · split
    · exact .refl _
    · split
      · exact .refl _
      · exact .refl _
      · split
        · exact .refl _
        · exact begin_ _ _

theorem forgetForeign_calm (branch : Byte) : ServesCalm fun e => e.forgetForeign branch := by
  intro e
  dsimp only [Ev.forgetForeign]
  split
  · exact .refl _
  · exact e.forgetForeign_calm _

/-- The requests that only read. -/
theorem reads_calm : (∀ part, ServesCalm fun e => e.identify part) ∧ (∀ slot part, ServesCalm fun e => e.readDoor slot part)
    ∧ (∀ bank table index part, ServesCalm fun e => e.readRecord bank table index part) ∧ ServesCalm fun e => e.askRestart := by
  refine ⟨fun part e => ?_, fun slot part e => ?_, fun bank table index part e => ?_, fun e => .refl _⟩
  · dsimp only [Ev.identify]
    split <;> exact .refl _
  · dsimp only [Ev.readDoor]
    repeat' split
    all_goals exact .refl _
  · dsimp only [Ev.readRecord]
    repeat' split
    all_goals exact .refl _

/-- Every request of Table 10-3. -/
theorem requestOf_calm (code : Byte) (ops : List Byte) : ServesCalm (Ev.requestOf code ops) := by
  obtain ⟨identify, readDoor, readRecord, askRestart⟩ := reads_calm
  intro e
  unfold Ev.requestOf
  split
  · exact .refl _
  · unfold Ev.request_
    split
    · exact identify _ e
    · exact readStatus_calm _ e
    · exact readDoor _ _ e
    · exact readRecord _ _ _ _ e
    · exact readAlarms_calm _ e
    · exact loadBegin_calm e
    · exact loadChunk_calm _ _ _ e
    · exact loadEnd_calm _ e
    · exact activateBank_calm _ (by decide) e
    · exact activateBank_calm _ (by decide) e
    · exact startStore_calm e
    · exact enroll_calm _ _ e
    · exact forgetForeign_calm _ e
    · exact askRestart e
    · exact .refl _

theorem Ev.manager_calm (e : Ev) (src : Station) (tag code : Byte) {f : Ev → Ev × Reply} (hf : ServesCalm f) :
    State.Calm e.toState (e.manager src tag code f).toState := (hf e).trans (Ev.calm_of_same ⟨rfl, rfl, rfl, rfl, rfl⟩)

theorem State.rxDiscard_calm (s : State) : s.Calm s.rxDiscard := .of_same rfl rfl rfl rfl rfl

/-- A calm event, with its end. -/
theorem State.Calm.settled {s : State} {e : Ev} (h : s.Calm e.toState) : s.Calm e.settle := h.trans e.settle_calm

theorem State.requestFrame_calm (s : State) (route : Route) (payload : List Byte) (tag code : Byte)
    {f : Ev → Ev × Reply} (hf : ServesCalm f) : s.Calm (s.requestFrame route payload tag code f) := by
  unfold State.requestFrame
  split
  · exact (s.begin.manager_calm _ _ _ hf).settled
  · exact s.rxDiscard_calm
  · exact .refl s

theorem State.endStore_calm (s : State) (id : BankId) (readBack : NvImage) : s.Calm (s.endStore id readBack) :=
  .of_same rfl rfl rfl rfl rfl

/-! ### Resets -/

/-- Zones and lines after a restart: modes and latches as they were, and a sense as R45 says. -/
theorem State.restartState_calm (s : State) (flag : EventFlag) (pins : Pins) : s.Calm (s.restartState flag pins) := by
  refine ⟨⟨fun _ b => ?_, fun _ => ?_, s.restartState_netKeeps flag pins⟩, fun z => ?_, fun b => ?_⟩
  · rw [State.restartState_branch]
    cases hl : s.branches[b].latch <;> simp [-Fin.getElem_fin, Branch.resense, Branch.restate, hl, sampledSense_ne_own]
  · exact ⟨⟨nofun, nofun⟩, nofun, nofun⟩
  · simp [State.restartState]
  · rw [State.restartState_branch]
    rfl

theorem Ev.abandonRuns_outer (e : Ev) : e.abandonRuns.outer = e.outer := by
  refine foldl_keeps (fun e : Ev => e.outer) _ (fun e b => ?_) _ _
  split
  · exact e.closeRun_outer b none
  · rfl

theorem Ev.raiseAnew_outer (e : Ev) : e.raiseAnew.outer = e.outer := by
  have unbound : e.raiseUnbound.outer = e.outer := by
    refine foldl_keeps (fun e : Ev => e.outer) _ (fun e p => ?_) _ _
    split
    · exact e.enterLevel_outer _ _
    · rfl
  have branch : ∀ e : Ev, (branchIds.foldl Ev.raiseBranch e).outer = e.outer := by
    refine foldl_keeps (fun e : Ev => e.outer) _ (fun e b => ?_) _
    unfold Ev.raiseBranch
    dsimp only
    repeat' split
    all_goals rfl
  have noTable : ∀ e : Ev, e.raiseNoTable.outer = e.outer := fun e => by
    unfold Ev.raiseNoTable
    split <;> rfl
  rw [Ev.raiseAnew, noTable, branch, unbound]

theorem State.restart_calm (s : State) (flag : EventFlag) (pins : Pins) : s.Calm (s.restart flag pins) := by
  have h : s.Calm (s.begin.abandonRuns.restartState flag pins) :=
    (State.Calm.of_outer s.begin.abandonRuns_outer s.begin.abandonRuns_netKeeps).trans (State.restartState_calm _ flag pins)
  unfold State.restart
  generalize State.restartState flag pins s.begin.abandonRuns.toState = u at h ⊢
  exact (h.trans (.of_outer u.begin.raiseAnew_outer u.begin.raiseAnew_netKeeps)).trans (Ev.settleReset_calm _)

/-! ### Transmission -/

theorem Ev.transmitError_calm (e : Ev) : State.Calm e.toState e.transmitError.toState := by
  unfold Ev.transmitError
  dsimp only
  split <;> exact Ev.calm_of_same ⟨rfl, rfl, rfl, rfl, rfl⟩

theorem Ev.transmitDone_calm (e : Ev) (c : TxClass) : State.Calm e.toState (e.transmitDone c).toState := by
  unfold Ev.transmitDone
  dsimp only
  split <;> exact Ev.calm_of_same ⟨rfl, rfl, rfl, rfl, rfl⟩

theorem State.transmitted_calm (s : State) (c : TxClass) (pins : Pins) : s.Calm (s.transmitted c pins) := by
  have hd := s.begin.transmitDone_calm c
  unfold State.transmitted
  split
  · exact s.restart_calm _ pins
  · split
    · have hp : s.Calm (s.begin.transmitDone .part).partSent.toState := hd.trans (Ev.calm_of_same ⟨rfl, rfl, rfl, rfl, rfl⟩)
      dsimp only
      split
      · exact hp.trans (Ev.settleJudging_calm _)
      · exact hp.settled
    · exact State.Calm.settled hd

/-! ### The part without power -/

/-- A part right after a loss of power, in its blank values, is lawful. -/
theorem State.off_senses (s : State) : s.losePower.SenseWf ∧ s.losePower.heel.Wf ∧ ∀ z : ZoneId, s.losePower.zones[z].closed = false := by
  refine ⟨fun b => ?_, ⟨⟨nofun, nofun⟩, nofun, nofun⟩, fun z => ?_⟩
  · simp [State.losePower, State.off, Branch.blank]
  · simp [State.losePower, State.off, Zone.blank]

theorem State.losePower_lawful (s : State) : s.Lawful s.losePower :=
  ⟨fun _ => s.off_senses.1, fun _ => s.off_senses.2.1, s.losePower_netKeeps⟩

/-- Power-on leaves the modes, latches and senses of a part in its blank values as the samples give them. -/
theorem State.powerOn_calm (s : State) (pins : Pins) : ∃ u : State, u.zones = s.losePower.zones ∧ u.heel = s.losePower.heel
    ∧ u.branches = s.losePower.branches ∧ u.Calm (s.powerOn pins) := by
  have load : ∀ e : Ev, e.powerOnLoad.zones = e.zones ∧ e.powerOnLoad.heel = e.heel ∧ e.powerOnLoad.branches = e.branches := by
    intro e
    unfold Ev.powerOnLoad
    split <;> exact ⟨rfl, rfl, rfl⟩
  unfold State.powerOn
  dsimp only
  generalize he : Ev.setFlag _ EventFlag.powerOn = e
  obtain ⟨hz, hh, hb⟩ := load e
  refine ⟨e.powerOnLoad.toState, ?_, ?_, ?_, ?_⟩
  · rw [hz, ← he]; rfl
  · rw [hh, ← he]; rfl
  · rw [hb, ← he]; rfl
  have noTable : ∀ e : Ev, State.Calm e.toState e.raiseNoTable.toState := fun e => by
    unfold Ev.raiseNoTable
    split <;> exact .refl _
  have fresh : ∀ e : Ev, State.Calm e.toState e.freshRuns.toState := by
    refine State.Calm.foldl _ (fun e b => ?_) _
    split
    · exact .of_outer (e.beginFresh_outer b) (e.beginFresh_netKeeps b)
    · exact .refl _
  exact (((State.Calm.foldl _ Ev.sample_calm _ _).trans (noTable _)).trans (fresh _)).trans (Ev.settleReset_calm _)

theorem State.powerOn_lawful (s : State) (pins : Pins) : s.Lawful (s.powerOn pins) := by
  obtain ⟨u, -, hh, hb, hu⟩ := s.powerOn_calm pins
  refine ⟨fun _ => hu.sense fun b => ?_, fun _ => hu.heel ?_, s.powerOn_netKeeps pins⟩
  · rw [hb]
    exact s.off_senses.1 b
  · rw [hh]
    exact s.off_senses.2.1

end Sys2Proof.Machine
end


section
/-! SUPPORT. What sets an order source: zone modes and line senses (R28, R42, R43), and the PENDING bank that a new
source ends (R41). -/

namespace Sys2Proof.Machine

open Sys2Proof

/-! ### Zones and lines alone -/

/-- An operation on zone modes and line senses: doors, banks, runs and the rest of the part stay. -/
structure Ev.SetsSources (e e' : Ev) : Prop where
  rest : e' = { e with zones := e'.zones, branches := e'.branches, reqs := e'.reqs }
  line : ∀ b : BranchId, e'.branches[b] = { e.branches[b] with latch := e'.branches[b].latch, sense := e'.branches[b].sense }

namespace Ev.SetsSources

variable {e e₁ e₂ e₃ : Ev}

theorem refl (e : Ev) : e.SetsSources e := ⟨rfl, fun _ => rfl⟩

theorem trans (h : e₁.SetsSources e₂) (k : e₂.SetsSources e₃) : e₁.SetsSources e₃ :=
  ⟨by rw [k.rest, h.rest], fun b => by rw [k.line b, h.line b]⟩

theorem foldl {α : Type} (f : Ev → α → Ev) (h : ∀ (e : Ev) (a : α), e.SetsSources (f e a)) (l : List α) (e : Ev) :
    e.SetsSources (l.foldl f e) := by
  induction l generalizing e with
  | nil => exact .refl e
  | cons a l ih => exact (h e a).trans (ih _)

theorem push {e₁ e₂ : Ev} (h : e₁.SetsSources e₂) (r : AlarmReq) : e₁.SetsSources (e₂.push r) := h.trans ⟨rfl, fun _ => rfl⟩

end Ev.SetsSources

/-- Latch and sense of one branch. -/
theorem Ev.modLine_sets (e : Ev) (b : BranchId) (f : Branch → Branch)
    (h : ∀ r, f r = { r with latch := (f r).latch, sense := (f r).sense }) : e.SetsSources (e.modBranch b f) := by
  refine ⟨rfl, fun x => ?_⟩
  by_cases hx : b = x
  · subst hx
    rw [Ev.modBranch_same]
    exact h _
  · rw [Ev.modBranch_other _ _ _ _ hx]

theorem Ev.setMode_sets (e : Ev) (z : ZoneId) (c : Bool) (st : Station) : e.SetsSources (e.setMode z c st) := by
  unfold Ev.setMode
  split
  · exact .refl e
  · exact ⟨rfl, fun _ => rfl⟩

theorem Ev.setModes_sets (e : Ev) (zs : List ZoneId) (c : Bool) (st : Station) : e.SetsSources (e.setModes zs c st) :=
  .foldl _ (fun e z => e.setMode_sets z c st) zs e

theorem Ev.setSense_sets (e : Ev) (b : BranchId) (v : Sense) : e.SetsSources (e.setSense b v) := by
  have h := e.modLine_sets b (fun r => { r with sense := v }) fun _ => rfl
  unfold Ev.setSense
  dsimp only
  repeat' split
  · exact h
  · exact h.push _
  · exact h.push _
  · exact h

theorem Ev.sample_sets (e : Ev) (b : BranchId) : e.SetsSources (e.sample b) := by
  unfold Ev.sample
  split
  · exact .refl e
  · exact e.setSense_sets b _

theorem Ev.latchSet_sets (e : Ev) (b : BranchId) : e.SetsSources (e.latchSet b) :=
  (e.modLine_sets b (fun r => { r with latch := true }) fun _ => rfl).trans (Ev.setSense_sets _ b _)

theorem Ev.latchRelease_sets (e : Ev) (b : BranchId) : e.SetsSources (e.latchRelease b) := by
  unfold Ev.latchRelease
  split
  · exact (e.modLine_sets b (fun r => { r with latch := false }) fun _ => rfl).trans (Ev.sample_sets _ b)
  · exact .refl e

/-- All latches, where the panel holds the right. -/
theorem Ev.latches_set {f : Ev → BranchId → Ev} (h : ∀ (e : Ev) b, e.SetsSources (f e b)) (c : Bool) (e : Ev) :
    e.SetsSources (if c then branchIds.foldl f e else e) := by
  split
  · exact .foldl f h _ e
  · exact .refl e

/-! ### Zones by modes, branches by latches -/

theorem Ev.setMode_branches (e : Ev) (z : ZoneId) (c : Bool) (st : Station) : (e.setMode z c st).branches = e.branches := by
  unfold Ev.setMode
  split <;> rfl

theorem Ev.setModes_branches (e : Ev) (zs : List ZoneId) (c : Bool) (st : Station) : (e.setModes zs c st).branches = e.branches :=
  foldl_keeps (fun e : Ev => e.branches) _ (fun e z => e.setMode_branches z c st) _ _

theorem Ev.latchSet_zones (e : Ev) (b : BranchId) : (e.latchSet b).zones = e.zones := by
  rw [Ev.latchSet_state]
  rfl

theorem Ev.latchRelease_zones (e : Ev) (b : BranchId) : (e.latchRelease b).zones = e.zones := by
  by_cases h : e.branches[b].latch = true
  · rw [Ev.latchRelease_state h]
    rfl
  · rw [Ev.latchRelease, if_neg h]

theorem Ev.latches_zones {f : Ev → BranchId → Ev} (h : ∀ (e : Ev) b, (f e b).zones = e.zones) (c : Bool) (e : Ev) :
    (if c then branchIds.foldl f e else e : Ev).zones = e.zones := by
  split
  · exact foldl_keeps (fun e : Ev => e.zones) _ h _ _
  · rfl

/-- A latch that is set stays set while latches are set. -/
theorem Ev.latchSets_latch (l : List BranchId) (e : Ev) (x : BranchId) (h : e.branches[x].latch = true) :
    (l.foldl Ev.latchSet e).branches[x].latch = true := by
  induction l generalizing e with
  | nil => exact h
  | cons b l ih => exact ih _ (e.latchSet_latch b x h)

/-- All latches, lawful. -/
theorem Ev.latches_lawful {f : Ev → BranchId → Ev} (h : ∀ (e : Ev) b, State.Lawful e.toState (f e b).toState) (c : Bool) (e : Ev) :
    State.Lawful e.toState (if c then branchIds.foldl f e else e : Ev).toState := by
  split
  · generalize branchIds = l
    induction l generalizing e with
    | nil => exact (State.Calm.refl _).toLawful
    | cons b l ih => exact (h e b).trans (ih _)
  · exact (State.Calm.refl _).toLawful

/-! ### The commands of zones and lines -/

theorem Ev.closeAll_sets (e : Ev) (p : PanelRec) (src : Station) :
    e.SetsSources (if p.holds .line then branchIds.foldl Ev.latchSet (e.setModes (e.scopeZones p) true src)
      else e.setModes (e.scopeZones p) true src) :=
  (e.setModes_sets _ _ _).trans (Ev.latches_set Ev.latchSet_sets _ _)

theorem Ev.closeAll_lawful (e : Ev) (p : PanelRec) (src : Station) : State.Lawful e.toState (e.closeAll p src).1.toState :=
  ((Ev.setModes_lawful _ _ _ e).trans (Ev.latches_lawful Ev.latchSet_lawful _ _)).trans (Ev.sourcesChanged_calm _ _).toLawful

theorem Ev.releaseAll_lawful (e : Ev) (p : PanelRec) (src : Station) : State.Lawful e.toState (e.releaseAll p src).1.toState :=
  ((Ev.setModes_lawful _ _ _ e).trans (Ev.latches_lawful Ev.latchRelease_lawful _ _)).trans (Ev.sourcesChanged_calm _ _).toLawful

theorem Ev.closeAll_closed (e : Ev) (p : PanelRec) (src : Station) (z : ZoneId) :
    (e.closeAll p src).1.zones[z].closed = if z ∈ e.scopeZones p then true else e.zones[z].closed :=
  ((Ev.sourcesChanged_calm _ _).zones z).trans (by rw [Ev.latches_zones Ev.latchSet_zones, Ev.setModes_closed])

theorem Ev.releaseAll_closed (e : Ev) (p : PanelRec) (src : Station) (z : ZoneId) :
    (e.releaseAll p src).1.zones[z].closed = if z ∈ e.scopeZones p then false else e.zones[z].closed :=
  ((Ev.sourcesChanged_calm _ _).zones z).trans (by rw [Ev.latches_zones Ev.latchRelease_zones, Ev.setModes_closed])

/-- CLOSE-ALL releases no latch. -/
theorem Ev.closeAll_latch (e : Ev) (p : PanelRec) (src : Station) (b : BranchId) (h : e.branches[b].latch = true) :
    (e.closeAll p src).1.branches[b].latch = true := by
  have h' : (e.setModes (e.scopeZones p) true src).branches[b].latch = true := by rwa [Ev.setModes_branches]
  refine ((Ev.sourcesChanged_calm _ _).latch b).trans ?_
  split
  · exact Ev.latchSets_latch _ _ b h'
  · exact h'

/-- RELEASE-ALL of a panel without LINE releases no latch (R32). -/
theorem Ev.releaseAll_latch (e : Ev) (p : PanelRec) (src : Station) (b : BranchId) (hl : p.holds .line = false) :
    (e.releaseAll p src).1.branches[b].latch = e.branches[b].latch := by
  refine ((Ev.sourcesChanged_calm _ _).latch b).trans ?_
  rw [hl, if_neg Bool.false_ne_true, Ev.setModes_branches]

/-! ### A PENDING bank (R41) -/

/-- A zone that enters DOORS-CLOSED mode is a new order source. -/
theorem State.newlyOrdered_of_closed {before after : State} {z : ZoneId} (hb : before.zones[z].closed = false)
    (ha : after.zones[z].closed = true) : before.newlyOrdered after = true := by
  unfold State.newlyOrdered
  rw [Bool.or_eq_true, List.any_eq_true]
  exact .inl ⟨z, List.mem_finRange z, by rw [hb, ha]; rfl⟩

/-- At most one bank is PENDING, and a part without one has none. -/
theorem Banks.StatesWf.find_pending {bs : Banks} (h : bs.StatesWf) (id : BankId) :
    bs.find .pending = some id ↔ (bs.get id).state = .pending := by
  have hne : ¬ (bs.a.state = .pending ∧ bs.b.state = .pending) := by
    rintro ⟨ha, hb⟩
    rcases h with ⟨k, -⟩ | ⟨k, -⟩ | ⟨-, k⟩ <;> simp_all
  unfold Banks.find
  cases id <;> simp only [Banks.get] <;> split_ifs <;> simp_all

/-- No bank is PENDING any more, and the one that was is READY with ACTIVATION-CANCELLED set. -/
structure State.PendingCancelled (s t : State) : Prop where
  none : t.bankPending = false
  ready : ∀ id, (s.banks.get id).state = .pending → (t.banks.get id).state = .ready ∧ t.mgr.events.getLsbD 8 = true

theorem Ev.cancelPending_cancels (e : Ev) (h : e.banks.StatesWf) : e.PendingCancelled e.cancelPending.toState := by
  unfold Ev.cancelPending
  split
  · next id hid =>
    have hp := (h.find_pending id).mp hid
    have other : ∀ x, (e.banks.get x).state = .pending → x = id := fun x hx =>
      Option.some.inj (((h.find_pending x).mpr hx).symm.trans hid)
    refine ⟨?_, fun x hx => ?_⟩
    · cases id with
      | a =>
        have hb : e.banks.b.state ≠ .pending := fun k => nomatch other .b k
        simp [State.bankPending, Banks.find, Banks.setState, Banks.put, hb]
      | b =>
        have ha : e.banks.a.state ≠ .pending := fun k => nomatch other .a k
        simp [State.bankPending, Banks.find, Banks.setState, Banks.put, ha]
    · obtain rfl := other x hx
      refine ⟨by cases x <;> rfl, ?_⟩
      simp [Mgr.setFlag, EventFlag.bit]
  · next hn => exact ⟨by rw [State.bankPending, hn]; rfl, fun x hx => by rw [(h.find_pending x).mpr hx] at hn; cases hn⟩

/-- The recomputation of the orders keeps the banks and every event flag that is set. -/
theorem Ev.sourcesChanged_cancels {before : State} {e : Ev} (hb : e.banks = before.banks)
    (hw : before.banks.StatesWf) (hn : before.newlyOrdered e.toState = true) :
    before.PendingCancelled (Ev.sourcesChanged before e).toState := by
  have hc := e.cancelPending_cancels (hb ▸ hw)
  have hr := e.cancelPending.recompute_hands (P := fun _ => True) (fun _ _ => trivial) before (fun _ => trivial) fun _ _ => trivial
  rw [Ev.sourcesChanged, if_pos hn]
  refine ⟨?_, fun id hid => ?_⟩
  · rw [State.bankPending, hr.banks]
    exact hc.none
  · obtain ⟨h1, h2⟩ := hc.ready id (by rw [hb]; exact hid)
    rw [hr.banks]
    exact ⟨h1, hr.flags 8 h2⟩

/-- An event that keeps banks and event flags has no other end. -/
theorem State.PendingCancelled.settled {s : State} {e : Ev} (h : s.PendingCancelled e.toState) : s.PendingCancelled e.settle := by
  have hs : e.settle.banks = e.banks ∧ e.settle.mgr = e.mgr := by
    rw [e.settle_eq (e.swapIfQuiescent_of_not_pending h.none), State.sendPolls_rest, Ev.arbitrated_rest]
    exact ⟨rfl, rfl⟩
  refine ⟨?_, fun id hid => ?_⟩
  · rw [State.bankPending, hs.1]
    exact h.none
  · rw [hs.1, hs.2]
    exact h.ready id hid

end Sys2Proof.Machine
end


section
/-! SUPPORT. What a command can do to zone modes and line latches: nothing, a power-on reset, a loss of power, or one
of the four zone commands from a panel that passes the checks of R30. -/

namespace Sys2Proof.Machine

open Sys2Proof

/-! ### Panel commands -/

/-- What a panel command with a code does in an event: it is calm, or one of the four that set zone modes (R31, R32). -/
inductive Ev.ModeChange (src : Station) (p : PanelRec) (code : Byte) (e : Ev) : Ev → Prop
  | calm {e' : Ev} (h : State.Calm e.toState e'.toState) : ModeChange src p code e e'
  | closeZone (z : ZoneId) : ModeChange src p code e ((e.setMode z true src).sourcesChanged e.toState)
  | closeAll : ModeChange src p code e (e.closeAll p src).1
  | releaseZone (z : ZoneId) (hc : code = 3) (hr : p.holds .release = true) (hz : p.hasZone z = true) :
      ModeChange src p code e (e.releaseZone z src).1
  | releaseAll (hc : code = 4) (hr : p.holds .release = true) : ModeChange src p code e (e.releaseAll p src).1

/-- A zone operand in order is a zone of the panel's zone set. -/
theorem zoneOperand_none {b : Byte} {s : State} {p : PanelRec} {z : ZoneId} (h : zoneOperand b s p = none) (hz : zoneOf b = some z) :
    p.hasZone z = true := by
  unfold zoneOperand at h
  rw [hz] at h
  dsimp only at h
  split_ifs at h with h1 h2
  simpa using h2

theorem panelCmd_modeChange {code operand kind : Byte} {x : PanelCmd} (h : panelCmd code operand kind = some x) (src : Station)
    {p : PanelRec} {e : Ev} (hr : p.holds x.right = true) (ho : x.operand e.toState p = none) :
    e.ModeChange src p code (x.act src p e).1 := by
  have door : ∀ f : Ev → Slot → Ev × Answer, (∀ d, State.Calm e.toState (f e d).1.toState) →
      State.Calm e.toState ((cmdDoor operand f).act src p e).1.toState := fun f hf => by
    dsimp only [cmdDoor]
    split
    · exact hf _
    · exact .refl _
  unfold panelCmd at h
  split at h <;> cases h
  · dsimp only [cmdCloseZone]
    split
    · unfold Ev.closeZone
      split
      · exact .calm (.refl _)
      · exact .closeZone _
    · exact .calm (.refl _)
  · exact .closeAll
  · next hc =>
    dsimp only [cmdReleaseZone]
    split
    · next z hz => exact .releaseZone z (BitVec.eq_of_toNat_eq hc) hr (zoneOperand_none ho hz)
    · exact .calm (.refl _)
  · next hc => exact .releaseAll (BitVec.eq_of_toNat_eq hc) hr
  · exact .calm (door _ e.doorClose_calm)
  · exact .calm (door _ e.doorOpen_calm)
  · exact .calm (door _ e.doorStop_calm)
  · dsimp only [cmdAck]
    split
    · exact .calm (e.ackOne_calm _ _ _)
    · exact .calm (.refl _)
  · exact .calm (e.ackAll_calm p src)

/-- Each row is a command of Table 9-4 by its code. -/
theorem panelRow_cmd {i : Instr} {row : PanelRow} (h : panelRow i = some row) :
    ∃ operand kind, panelCmd row.code operand kind = some row.cmd := by
  cases i <;> cases h
  case ack subject kind _ => exact ⟨subject, kind, rfl⟩
  case closeZone zone _ => exact ⟨zone, 0, rfl⟩
  case releaseZone zone _ => exact ⟨zone, 0, rfl⟩
  case doorClose slot _ => exact ⟨slot, 0, rfl⟩
  case doorOpen slot _ => exact ⟨slot, 0, rfl⟩
  case doorStop slot _ => exact ⟨slot, 0, rfl⟩
  all_goals exact ⟨0, 0, rfl⟩

namespace Ev.ModeChange

variable {src : Station} {p : PanelRec} {code : Byte} {e e' : Ev}

theorem lawful (h : e.ModeChange src p code e') : State.Lawful e.toState e'.toState := by
  cases h with
  | calm h => exact h.toLawful
  | closeZone z => exact (e.setMode_lawful z true src).trans (Ev.sourcesChanged_calm _ _).toLawful
  | closeAll => exact e.closeAll_lawful p src
  | releaseZone z => exact (e.setMode_lawful z false src).trans (Ev.sourcesChanged_calm _ _).toLawful
  | releaseAll => exact e.releaseAll_lawful p src

/-- A zone leaves DOORS-CLOSED mode by a release command of its panel (R29). -/
theorem release (h : e.ModeChange src p code e') {z : ZoneId} (hz : e.zones[z].closed = true) (hz' : e'.zones[z].closed = false) :
    p.holds .release = true ∧ p.hasZone z = true ∧ (code = 3 ∨ code = 4) := by
  have mode : ∀ x c, ((e.setMode x c src).sourcesChanged e.toState).zones[z].closed = if x = z then c else e.zones[z].closed :=
    fun x c => ((Ev.sourcesChanged_calm _ _).zones z).trans (e.setMode_closed x z c src)
  cases h with
  | calm h => rw [h.zones, hz] at hz'; cases hz'
  | closeZone x =>
    rw [mode] at hz'
    split_ifs at hz'
    rw [hz] at hz'
    cases hz'
  | closeAll =>
    rw [Ev.closeAll_closed] at hz'
    split_ifs at hz'
    rw [hz] at hz'
    cases hz'
  | releaseZone x hc hr hx =>
    have hm : (e.releaseZone x src).1.zones[z].closed = if x = z then false else e.zones[z].closed := mode x false
    rw [hm] at hz'
    split_ifs at hz' with k
    · exact ⟨hr, k ▸ hx, .inl hc⟩
    · rw [hz] at hz'
      cases hz'
  | releaseAll hc hr =>
    rw [Ev.releaseAll_closed] at hz'
    split_ifs at hz' with k
    · have hs := (List.mem_filter.mp k).2
      rw [Bool.and_eq_true] at hs
      exact ⟨hr, hs.1, .inr hc⟩
    · rw [hz] at hz'
      cases hz'

/-- A latch is released by a RELEASE-ALL of a panel that holds RELEASE and LINE (R42). -/
theorem latchRelease (h : e.ModeChange src p code e') {b : BranchId} (hb : e.branches[b].latch = true)
    (hb' : e'.branches[b].latch = false) : p.holds .release = true ∧ p.holds .line = true ∧ code = 4 := by
  have mode : ∀ x c, ((e.setMode x c src).sourcesChanged e.toState).branches[b].latch = e.branches[b].latch :=
    fun x c => ((Ev.sourcesChanged_calm _ _).latch b).trans (by rw [Ev.setMode_branches])
  cases h with
  | calm h => rw [h.latch, hb] at hb'; cases hb'
  | closeZone x => rw [mode, hb] at hb'; cases hb'
  | closeAll => rw [e.closeAll_latch p src b hb] at hb'; cases hb'
  | releaseZone x hc hr hx =>
    have hm : (e.releaseZone x src).1.branches[b].latch = e.branches[b].latch := mode x false
    rw [hm, hb] at hb'
    cases hb'
  | releaseAll hc hr =>
    refine ⟨hr, ?_, hc⟩
    by_contra hl
    rw [e.releaseAll_latch p src b (by simpa using hl), hb] at hb'
    cases hb'

/-- A zone that enters DOORS-CLOSED mode ends a PENDING activation (R41). -/
theorem cancels (h : e.ModeChange src p code e') {z : ZoneId} (hz : e.zones[z].closed = false) (hz' : e'.zones[z].closed = true)
    (hw : e.banks.StatesWf) : e.PendingCancelled e'.toState := by
  have begins : ∀ e₁ : Ev, e.SetsSources e₁ → (e₁.sourcesChanged e.toState).zones[z].closed = true →
      e.PendingCancelled (e₁.sourcesChanged e.toState).toState := fun e₁ h₁ hc => by
    refine Ev.sourcesChanged_cancels (by rw [h₁.rest]) hw (State.newlyOrdered_of_closed hz ?_)
    rwa [(Ev.sourcesChanged_calm _ _).zones z] at hc
  cases h with
  | calm h => rw [h.zones, hz] at hz'; cases hz'
  | closeZone x => exact begins _ (e.setMode_sets x true src) hz'
  | closeAll => exact begins _ (e.closeAll_sets p src) hz'
  | releaseZone x => exact begins _ (e.setMode_sets x false src) hz'
  | releaseAll => exact begins _ ((e.setModes_sets _ _ _).trans (Ev.latches_set Ev.latchRelease_sets _ _)) hz'

end Ev.ModeChange

/-! ### Commands -/

/-- A command carries a COMMAND of a station with a code: as its row, or as a frame heard on the trunk. -/
def Carries (c : Instr) (src : Station) (code : Byte) : Prop :=
  (∃ row, panelRow c = some row ∧ row.route.src = src ∧ row.code = code)
    ∨ ∃ bytes f, (c = .trunkFrame bytes ∨ c = .arbitrationLost bytes) ∧ parseFrame bytes = some f
        ∧ f.kind = kindCommand ∧ f.route.src = src ∧ at_ f.payload 0 = code

/-- What a command leaves of zone modes and lines. A frame that wins the trunk is taken after the part's own transmission
has stopped, so that only the trunk differs at its event (R153). -/
inductive State.Ran (s : State) (c : Instr) : State → Prop
  | calm {t : State} (h : s.Calm t) : Ran s c t
  | powerOn (pins : Pins) (hc : c = .powerOnReset pins) : Ran s c (s.powerOn pins)
  | powerLoss (hc : c = .powerLoss) : Ran s c s.losePower
  | command (src : Station) (p : PanelRec) (tag code : Byte) (a : Answer) (tr : Trunk) (e : Ev) (hg : Carries c src code)
      (hp : s.panel src = some p) (h : Ev.ModeChange src p code (State.begin { s with trunk := tr }) e) :
      Ran s c (e.answer src tag code a).settle

theorem Ev.answer_calm (e : Ev) (src : Station) (tag code : Byte) (a : Answer) :
    State.Calm e.toState (e.answer src tag code a).toState := Ev.calm_of_same ⟨rfl, rfl, rfl, rfl, rfl⟩

section Commands

variable {s : State} {c : Instr}

/-- A COMMAND taken by the Order Unit. -/
theorem State.orderUnit_ran {src : Station} {tag code : Byte} {x : Option PanelCmd} (hg : Carries c src code)
    (hx : ∀ y, x = some y → ∃ operand kind, panelCmd code operand kind = some y) (tr : Trunk) (hs : s.Calm { s with trunk := tr }) :
    s.Ran c ((State.begin { s with trunk := tr }).orderUnit src tag code x).settle := by
  unfold Ev.orderUnit
  split
  · exact .calm (hs.trans (State.Calm.settled (Ev.answer_calm (State.begin { s with trunk := tr }) _ _ _ _)))
  · next p y hy =>
    obtain ⟨rfl, hp, hr, ho⟩ := State.checkCommand_inr hy
    obtain ⟨operand, kind, hk⟩ := hx y rfl
    exact .command src p tag code _ tr _ hg hp (panelCmd_modeChange hk src hr ho)

theorem State.panelRow_ran {row : PanelRow} (h : panelRow c = some row) :
    s.Ran c (s.commandFrame row.route row.payload row.tag row.code (some row.cmd)) := by
  unfold State.commandFrame
  split
  · exact State.orderUnit_ran (.inl ⟨row, h, rfl, rfl⟩) (fun y hy => Option.some.inj hy ▸ panelRow_cmd h) s.trunk (.refl s)
  · exact .calm s.rxDiscard_calm
  · exact .calm (.refl s)

/-- A frame heard on the trunk. -/
theorem State.hear_ran {bytes : List Byte} (hc : c = .trunkFrame bytes ∨ c = .arbitrationLost bytes) (tr : Trunk)
    (hs : s.Calm { s with trunk := tr }) : s.Ran c (State.hear { s with trunk := tr } bytes) := by
  unfold State.hear
  split
  · next f hf =>
    unfold State.takeFrame
    split
    · exact .calm hs
    · exact .calm (hs.trans (State.rxDiscard_calm _))
    · next hd =>
      unfold State.takeCommand
      split
      · exact .calm hs
      · exact State.orderUnit_ran (.inr ⟨bytes, f, hc, hf, State.deliver_orderUnit_kind hd, rfl, rfl⟩)
          (fun y hy => ⟨_, _, hy⟩) tr hs
    · unfold State.takeHeelFrame
      split
      · exact .calm hs
      · exact .calm (hs.trans (State.Calm.settled (Ev.takeHeel_calm (State.begin { s with trunk := tr }) _ _)))
    · unfold State.takeRequest
      split
      · exact .calm hs
      · exact .calm (hs.trans (State.Calm.settled (Ev.manager_calm (State.begin { s with trunk := tr }) _ _ _ (requestOf_calm _ _))))
  · exact .calm hs

end Commands

/-! ### The commands, one by one -/

/-- An outcome that is calm. -/
def State.CalmBy (s : State) (o : Host.Outcome State Fault Refusal) : Prop := ∀ t, o = .next t → s.Calm t

/-- The outcome of a command of a powered part, or nothing (log entry 4). -/
theorem State.live_ran {s : State} {c : Instr} {f : State → State} {t : State} (h : s.live f = .next t) (hf : s.Ran c (f s)) :
    s.Ran c t := by
  unfold State.live at h
  injection h with h
  subst h
  split
  · exact hf
  · exact .calm (.refl s)

theorem State.live_calm {s : State} {f : State → State} (hf : s.Calm (f s)) : s.CalmBy (s.live f) := by
  intro t h
  unfold State.live at h
  injection h with h
  subst h
  split
  · exact hf
  · exact .refl s

/-- The run of a branch at one of its steps. -/
theorem Branch.runAt_some {r : Branch} {step : RunStep} {q : Run} (h : r.runAt step = some q) : r.run = some q := by
  unfold Branch.runAt at h
  split at h
  · next q' hq =>
    split at h
    · rw [hq, h]
    · cases h
  · cases h

theorem State.judgeFreeze_calm (s : State) : s.Calm s.judgeFreeze := .of_outer s.judgeFreeze_outer s.judgeFreeze_works.sameNet.netKeeps

section Commands

variable (s : State)

theorem execHeel_calm (route : Route) (value : BitVec 16) : s.CalmBy (execHeel route value s) := by
  refine State.live_calm ?_
  split
  · exact (s.begin.takeHeel_calm _ value).settled
  · exact .refl s

theorem execStoreEnd_calm (readBack : NvImage) : s.CalmBy (execStoreEnd readBack s) := by
  refine State.live_calm ?_
  split
  · split
    · exact s.endStore_calm _ readBack
    · exact .refl s
  · exact .refl s

theorem execTransmitStart_calm : s.CalmBy (execTransmitStart s) := State.live_calm (.of_same rfl rfl rfl rfl rfl)

theorem execTransmitError_calm : s.CalmBy (execTransmitError s) := by
  refine State.live_calm ?_
  split
  · exact s.begin.transmitError_calm.settled
  · exact .refl s

theorem execTransmitSuccess_calm (pins : Pins) : s.CalmBy (execTransmitSuccess pins s) := by
  refine State.live_calm ?_
  split
  · exact s.transmitted_calm _ pins
  · exact .refl s

theorem execStatusReply_calm (b : BranchId) (bytes : List Byte) : s.CalmBy (execStatusReply b bytes s) := by
  refine State.live_calm ?_
  split
  · next q hq =>
    split
    · exact (s.begin.pollAnswered_calm b q _ (Branch.poll?_some hq).1).settled
    · exact .refl s
  · exact .refl s

theorem execPollMiss_calm (b : BranchId) : s.CalmBy (execPollMiss b s) := by
  refine State.live_calm ?_
  split
  · exact (s.begin.pollMissed_calm b _).settled
  · exact .refl s

/-- A sample of a released line takes its level, and the orders follow (R43). -/
theorem execLineSample_calm (b : BranchId) (low : Bool) : s.CalmBy (execLineSample b low s) := by
  refine State.live_calm ?_
  have hl : s.Calm (s.setLine b low) := .of_same rfl rfl rfl rfl rfl
  exact ((hl.trans ((s.setLine b low).begin.sample_calm b)).trans (Ev.sourcesChanged_calm _ _)).settled

theorem execDwellExpiry_calm (d : Slot) : s.CalmBy (execDwellExpiry d s) := by
  refine State.live_calm ?_
  split
  · exact (s.begin.dwellExpired_calm d).settled
  · exact .refl s

theorem execRetryExpiry_calm (d : Slot) : s.CalmBy (execRetryExpiry d s) := by
  refine State.live_calm ?_
  split
  · exact (s.begin.retryExpired_calm d _ _).settled
  · exact .refl s

theorem execWarningLeadExpiry_calm (d : Slot) : s.CalmBy (execWarningLeadExpiry d s) := by
  refine State.live_calm ?_
  split
  · exact (s.begin.leadExpired_calm d).settled
  · exact .refl s

theorem execIssueDeadlineExpiry_calm (d : Slot) : s.CalmBy (execIssueDeadlineExpiry d s) := by
  refine State.live_calm ?_
  split
  · exact (s.begin.issueExpired_calm d _).settled
  · exact .refl s

theorem execDeadlineExpiry_calm (d : Slot) : s.CalmBy (execDeadlineExpiry d s) := by
  refine State.live_calm ?_
  split
  · exact (s.begin.endTimeout_calm d _).settled
  · exact .refl s

theorem execLinkLostHoldExpiry_calm (d : Slot) : s.CalmBy (execLinkLostHoldExpiry d s) := by
  refine State.live_calm ?_
  split
  · exact (s.begin.holdsExpired_calm d).settled
  · exact .refl s

theorem execHeelSourceStale_calm (src : HeelSrc) : s.CalmBy (execHeelSourceStale src s) := by
  refine State.live_calm ?_
  split
  · exact (s.begin.heelStale_calm src).settled
  · exact .refl s

theorem execHeelStaleFirstJudge_calm : s.CalmBy (execHeelStaleFirstJudge s) := by
  refine State.live_calm ?_
  split
  · exact s.begin.firstJudge_calm.settled
  · exact .refl s

theorem execReannounceExpiry_calm : s.CalmBy (execReannounceExpiry s) := by
  refine State.live_calm ?_
  split
  · unfold State.reannounced State.reannounce
    repeat' split
    all_goals exact .of_same rfl rfl rfl rfl rfl
  · exact .refl s

theorem execSpacingPoint_calm : s.CalmBy (execSpacingPoint s) := by
  refine State.live_calm ?_
  split
  · exact s.judgeFreeze_calm
  · exact .refl s

theorem execRefreshPoint_calm : s.CalmBy (execRefreshPoint s) := by
  refine State.live_calm ?_
  split
  · exact s.judgeFreeze_calm
  · exact .refl s

theorem execSnapshotRelease_calm : s.CalmBy (execSnapshotRelease s) := by
  refine State.live_calm ?_
  split
  · exact .of_same rfl rfl rfl rfl rfl
  · exact .refl s

/-- A round of a run that goes on. -/
theorem Ev.beginRound_calm (e : Ev) (b : BranchId) {r : Run} (he : e.branches[b].run = some r) :
    State.Calm e.toState (e.beginRound b r).toState := .of_outer (e.beginRound_outer b r) (e.beginRound_netKeeps b he r id id)

theorem execCallAnswer_calm (b : BranchId) (serial : Serial) : s.CalmBy (execCallAnswer b serial s) := by
  refine State.live_calm ?_
  split
  · next r hr =>
    exact (State.Calm.of_outer (s.begin.takeAnswer_outer b r serial)
      (s.begin.takeAnswer_netKeeps b (Branch.runAt_some hr) serial)).settled
  · exact .refl s

theorem execAssignSent_calm (b : BranchId) : s.CalmBy (execAssignSent b s) := by
  refine State.live_calm ?_
  split
  · next r hr => exact (s.begin.beginRound_calm b (Branch.runAt_some hr)).settled
  · exact .refl s

theorem execCallAnswerFault_calm (b : BranchId) : s.CalmBy (execCallAnswerFault b s) := by
  refine State.live_calm ?_
  split
  · next r hr =>
    have he := Branch.runAt_some hr
    refine (State.Calm.of_outer (s.begin.noProgress_outer b r _ fun e r' => e.beginRound_outer b r')
      (s.begin.noProgress_netKeeps b he _ fun r' hp hn => s.begin.beginRound_netKeeps b he r' (fun _ => hn) fun k => ?_)).settled
    rwa [State.RunWf, hp]
  · exact .refl s

theorem execCallNoAnswer_calm (b : BranchId) : s.CalmBy (execCallNoAnswer b s) := by
  refine State.live_calm ?_
  split
  · exact (State.Calm.of_outer (s.begin.endRun_outer b none) (s.begin.endRun_netKeeps b none)).settled
  · exact .refl s

theorem execRestartPin_calm (pins : Pins) : s.CalmBy (execRestartPin pins s) := State.live_calm (s.restart_calm _ pins)

/-- The rows of Table 10-3. -/
theorem requestRow_calm {c : Instr} {row : RequestRow} (h : requestRow c = some row) : s.CalmBy (exec c s) := by
  obtain ⟨identify, readDoor, readRecord, askRestart⟩ := reads_calm
  have hc : ServesCalm row.serve := by
    cases c <;> cases h
    case identify => exact identify _
    case readStatus => exact readStatus_calm _
    case readDoor => exact readDoor _ _
    case readRecord => exact readRecord _ _ _ _
    case readAlarms => exact readAlarms_calm _
    case loadBegin => exact loadBegin_calm
    case loadChunk => exact loadChunk_calm _ _ _
    case loadEnd => exact loadEnd_calm _
    case activate => exact activateBank_calm _ (by decide)
    case rollback => exact activateBank_calm _ (by decide)
    case store => exact startStore_calm
    case enroll => exact enroll_calm _ _
    case forgetForeign => exact forgetForeign_calm _
    case restartRequest => exact askRestart
  have he : exec c s = s.live fun s => s.requestFrame row.route row.payload row.tag row.code row.serve := by
    cases c <;> cases h <;> rfl
  rw [he]
  exact State.live_calm (s.requestFrame_calm _ _ _ _ hc)

theorem execTrunkFrame_ran {bytes : List Byte} {t : State} (h : execTrunkFrame bytes s = .next t) : s.Ran (.trunkFrame bytes) t :=
  State.live_ran h (State.hear_ran (.inl rfl) s.trunk (.refl s))

theorem execArbitrationLost_ran {winner : List Byte} {t : State} (h : execArbitrationLost winner s = .next t) :
    s.Ran (.arbitrationLost winner) t := by
  refine State.live_ran h ?_
  split
  · exact State.hear_ran (.inr rfl) _ (.of_same rfl rfl rfl rfl rfl)
  · exact .calm (.refl s)

theorem execPowerLoss_ran {t : State} (h : execPowerLoss s = .next t) : s.Ran .powerLoss t := State.live_ran h (.powerLoss rfl)

theorem execPowerOnReset_ran {pins : Pins} {t : State} (h : execPowerOnReset pins s = .next t) : s.Ran (.powerOnReset pins) t := by
  obtain rfl : s.powerOn pins = t := Host.Outcome.next.inj h
  exact .powerOn pins rfl

end Commands

/-- Every command. -/
theorem exec_ran (c : Instr) (s t : State) (h : exec c s = .next t) : s.Ran c t := by
  cases hp : panelRow c with
  | some row =>
    rw [exec_panelRow hp] at h
    exact State.live_ran h (State.panelRow_ran hp)
  | none =>
    cases hr : requestRow c with
    | some row => exact .calm (requestRow_calm s hr t h)
    | none =>
      cases c with
      | powerOnReset => exact execPowerOnReset_ran s h
      | powerLoss => exact execPowerLoss_ran s h
      | trunkFrame => exact execTrunkFrame_ran s h
      | arbitrationLost => exact execArbitrationLost_ran s h
      | restartPin => exact .calm (execRestartPin_calm s _ t h)
      | heel => exact .calm (execHeel_calm s _ _ t h)
      | storeEnd => exact .calm (execStoreEnd_calm s _ t h)
      | transmitStart => exact .calm (execTransmitStart_calm s t h)
      | transmitError => exact .calm (execTransmitError_calm s t h)
      | transmitSuccess => exact .calm (execTransmitSuccess_calm s _ t h)
      | statusReply => exact .calm (execStatusReply_calm s _ _ t h)
      | pollMiss => exact .calm (execPollMiss_calm s _ t h)
      | lineSample => exact .calm (execLineSample_calm s _ _ t h)
      | dwellExpiry => exact .calm (execDwellExpiry_calm s _ t h)
      | retryExpiry => exact .calm (execRetryExpiry_calm s _ t h)
      | warningLeadExpiry => exact .calm (execWarningLeadExpiry_calm s _ t h)
      | issueDeadlineExpiry => exact .calm (execIssueDeadlineExpiry_calm s _ t h)
      | deadlineExpiry => exact .calm (execDeadlineExpiry_calm s _ t h)
      | linkLostHoldExpiry => exact .calm (execLinkLostHoldExpiry_calm s _ t h)
      | heelSourceStale => exact .calm (execHeelSourceStale_calm s _ t h)
      | heelStaleFirstJudge => exact .calm (execHeelStaleFirstJudge_calm s t h)
      | reannounceExpiry => exact .calm (execReannounceExpiry_calm s t h)
      | spacingPoint => exact .calm (execSpacingPoint_calm s t h)
      | refreshPoint => exact .calm (execRefreshPoint_calm s t h)
      | snapshotRelease => exact .calm (execSnapshotRelease_calm s t h)
      | callAnswer => exact .calm (execCallAnswer_calm s _ _ t h)
      | assignSent => exact .calm (execAssignSent_calm s _ t h)
      | callAnswerFault => exact .calm (execCallAnswerFault_calm s _ t h)
      | callNoAnswer => exact .calm (execCallNoAnswer_calm s _ t h)
      | closeZone | closeAll | releaseZone | releaseAll | doorClose | doorOpen | doorStop | ack | ackAll => cases hp
      | _ => cases hr

/-! ### The obligations -/

/-- A command keeps line senses, heel sources and branches legal. -/
theorem State.Ran.lawful {s t : State} {c : Instr} (h : s.Ran c t) : s.Lawful t := by
  cases h with
  | calm h => exact h.toLawful
  | powerOn pins hc => exact s.powerOn_lawful pins
  | powerLoss hc => exact s.losePower_lawful
  | command src p tag code a tr e hg hp h =>
    have hs : s.Calm { s with trunk := tr } := .of_same rfl rfl rfl rfl rfl
    exact (hs.toLawful.trans h.lawful).trans ((e.answer_calm src tag code a).trans (Ev.settle_calm _)).toLawful

/-- A step: a command, or a tick. -/
theorem step_lawful (s t : State) (h : step s = .next t) : s.Lawful t := by
  unfold step at h
  split at h
  · injection h with h
    subst h
    have hc : s.Calm s.tick := by
      unfold State.tick
      split <;> exact .of_same rfl rfl rfl rfl rfl
    exact hc.toLawful
  · next c rest _ =>
    have hs : s.Calm { s with pending := rest } := .of_same rfl rfl rfl rfl rfl
    exact hs.toLawful.trans (exec_ran c _ t h).lawful

/-- Settles O11: each command changes lines, heel and branches by operations that keep their bounds. -/
theorem everyStepKeepsLinesHeelAndBranches : Obligations.EveryStepKeepsLinesHeelAndBranches := by
  intro s t h
  have hl := step_lawful s t h
  exact ⟨hl.sense, hl.heel, hl.net.bounds, hl.net.addresses⟩

/-- A command with code 4 is a RELEASE-ALL. -/
theorem Carries.releaseAll {c : Instr} {src : Station} (h : Carries c src 4) :
    (∃ tag route, c = .releaseAll route tag ∧ route.src = src)
      ∨ ∃ bytes f, (c = .trunkFrame bytes ∨ c = .arbitrationLost bytes) ∧ parseFrame bytes = some f
          ∧ f.kind = kindCommand ∧ f.route.src = src ∧ at_ f.payload 0 = 4 := by
  rcases h with ⟨row, hr, hs, hc⟩ | h
  · refine .inl ?_
    cases c <;> cases hr
    case inl.releaseAll.refl route tag => exact ⟨tag, route, rfl, hs⟩
    all_goals simp at hc
  · exact .inr h

/-- A command with code 3 is a RELEASE-ZONE. -/
theorem Carries.releaseZone {c : Instr} {src : Station} (h : Carries c src 3) :
    (∃ zone tag route, c = .releaseZone route zone tag ∧ route.src = src)
      ∨ ∃ bytes f, (c = .trunkFrame bytes ∨ c = .arbitrationLost bytes) ∧ parseFrame bytes = some f
          ∧ f.kind = kindCommand ∧ f.route.src = src ∧ at_ f.payload 0 = 3 := by
  rcases h with ⟨row, hr, hs, hc⟩ | h
  · refine .inl ?_
    cases c <;> cases hr
    case inl.releaseZone.refl route zone tag => exact ⟨zone, tag, route, rfl, hs⟩
    all_goals simp at hc
  · exact .inr h

/-- Settles O14: only RELEASE-ALL calls for a release of latches, and only from a panel holding LINE. -/
theorem onlyReleaseAllReleasesLatches : Obligations.OnlyReleaseAllReleasesLatches := by
  intro c s t b hx hb hb'
  cases exec_ran c s t hx with
  | calm h => rw [h.latch, hb] at hb'; cases hb'
  | powerOn pins hc => exact .inr (.inl ⟨pins, hc⟩)
  | powerLoss hc => exact .inr (.inr hc)
  | command src p tag code a tr e hg hp h =>
    rw [((e.answer_calm src tag code a).trans (Ev.settle_calm _)).latch] at hb'
    obtain ⟨hr, hl, rfl⟩ := h.latchRelease hb hb'
    exact .inl ⟨src, p, hp, hr, hl, hg.releaseAll⟩

/-- Settles O13: of the commands only the four of zones change modes, and what begins an order source returns a PENDING
bank to READY before the event ends. -/
theorem onlyReleasesEndZoneModes : Obligations.OnlyReleasesEndZoneModes := by
  intro c s t z hx hpow
  cases exec_ran c s t hx with
  | calm h =>
    refine ⟨fun hz hz' => ?_, fun hz hz' => ?_⟩ <;>
    · rw [h.zones, hz] at hz'
      cases hz'
  | powerOn pins hc =>
    refine ⟨fun _ _ => .inl ⟨pins, hc⟩, fun _ hz' => ?_⟩
    obtain ⟨u, hu, -, -, hcalm⟩ := s.powerOn_calm pins
    rw [hcalm.zones, hu, s.off_senses.2.2] at hz'
    cases hz'
  | powerLoss => cases hpow
  | command src p tag code a tr e hg hp h =>
    have hend := ((e.answer_calm src tag code a).trans (Ev.settle_calm _)).zones z
    refine ⟨fun hz hz' => ?_, fun hz hz' hw => ?_⟩
    · rw [hend] at hz'
      obtain ⟨hr, hz, hc⟩ := h.release hz hz'
      refine .inr ⟨src, p, hp, hr, hz, ?_⟩
      rcases hc with rfl | rfl
      · rcases hg.releaseZone with k | ⟨bytes, f, h1, h2, h3, h4, h5⟩
        · exact .inl k
        · exact .inr (.inr ⟨bytes, f, h1, h2, h3, h4, .inl h5⟩)
      · rcases hg.releaseAll with k | ⟨bytes, f, h1, h2, h3, h4, h5⟩
        · exact .inr (.inl k)
        · exact .inr (.inr ⟨bytes, f, h1, h2, h3, h4, .inr h5⟩)
    · rw [hend] at hz'
      have hc := h.cancels hz hz' hw
      have hk : State.PendingCancelled s (e.answer src tag code a).toState := ⟨hc.none, hc.ready⟩
      exact ⟨hk.settled.none, hk.settled.ready⟩

end Sys2Proof.Machine
end


section
/-! SUPPORT. The recomputation of the orders, door by door (R37 to R40, R148): a door whose order does not change is left
alone, and one whose order begins or ends takes its order set or its order release. -/

namespace Sys2Proof.Machine

open Sys2Proof

/-! ### Operations that leave a door alone -/

/-- The order sources and the uptime stay, and a door of a branch without a run keeps its record. -/
structure Ev.Spares (d : Slot) (e e' : Ev) : Prop where
  sources : e.SameSources e'.toState
  uptime : e'.uptime = e.uptime
  keeps : e.NoRunFor d → e'.NoRunFor d ∧ e'.doors[d] = e.doors[d]

namespace Ev.Spares

variable {d : Slot} {e e₁ e₂ e₃ : Ev}

theorem refl (e : Ev) : Ev.Spares d e e := ⟨.refl _, rfl, fun h => ⟨h, rfl⟩⟩

theorem trans (h : Ev.Spares d e₁ e₂) (k : Ev.Spares d e₂ e₃) : Ev.Spares d e₁ e₃ := by
  refine ⟨h.sources.trans k.sources, k.uptime.trans h.uptime, fun hn => ?_⟩
  obtain ⟨hn₂, hd₂⟩ := h.keeps hn
  obtain ⟨hn₃, hd₃⟩ := k.keeps hn₂
  exact ⟨hn₃, hd₃.trans hd₂⟩

theorem foldl {α : Type} (f : Ev → α → Ev) (l : List α) (h : ∀ (e : Ev), ∀ a ∈ l, Ev.Spares d e (f e a)) (e : Ev) :
    Ev.Spares d e (l.foldl f e) := by
  induction l generalizing e with
  | nil => exact .refl e
  | cons a l ih => exact (h e a (by simp)).trans (ih (fun e x hx => h e x (by simp [hx])) _)

end Ev.Spares

/-- An operation on another door. -/
theorem Ev.Touches.spares {x d : Slot} {e e' : Ev} (h : Ev.Touches x e e') (hx : x ≠ d) : Ev.Spares d e e' :=
  ⟨h.sources, h.uptime, fun hn => ⟨h.noRunFor hn, h.other (Ne.symm hx)⟩⟩

/-! ### The end of a run and the doors of other branches -/

/-- The record of a slot, if it has one, is not on the branch. -/
def State.OffBranch (s : State) (b : BranchId) (d : Slot) : Prop := ∀ v, s.doorRec d = some v → v.branch ≠ b

theorem Ev.bindPair_off {e : Ev} {b : BranchId} {d : Slot} (h : e.OffBranch b d) (p : Serial × Nat) :
    (e.bindPair b p).OffBranch b d ∧ (e.bindPair b p).doors[d] = e.doors[d] := by
  unfold Ev.bindPair
  split
  · next x hx =>
    refine ⟨h, Ev.modDoor_other _ _ _ _ fun k => ?_⟩
    obtain ⟨v, hv, hb⟩ := State.doorOfSerial_some hx
    exact h v (k ▸ hv) hb
  · exact ⟨h, rfl⟩

theorem Ev.bindPairs_off {b : BranchId} {d : Slot} (ps : List (Serial × Nat)) {e : Ev} (h : e.OffBranch b d) :
    (ps.foldl (fun e p => e.bindPair b p) e).OffBranch b d ∧ (ps.foldl (fun e p => e.bindPair b p) e).doors[d] = e.doors[d] := by
  induction ps generalizing e with
  | nil => exact ⟨h, rfl⟩
  | cons p ps ih =>
    obtain ⟨h1, hd1⟩ := Ev.bindPair_off h p
    obtain ⟨h2, hd2⟩ := ih h1
    exact ⟨h2, hd2.trans hd1⟩

theorem Ev.markUnbound_off {e : Ev} {b : BranchId} {d : Slot} (h : e.OffBranch b d) : (e.markUnbound b).doors[d] = e.doors[d] := by
  have hl : ∀ p ∈ e.branchDoors b, p.1 ≠ d := fun p hp k => by
    obtain ⟨hv, hb⟩ := (e.mem_branchDoors b p.1 p.2).mp hp
    exact h p.2 (k ▸ hv) hb
  unfold Ev.markUnbound
  generalize e.branchDoors b = l at hl
  induction l generalizing e with
  | nil => rfl
  | cons p l ih =>
    have hp := hl p (by simp)
    have hrest : ∀ q ∈ l, q.1 ≠ d := fun q hq => hl q (by simp [hq])
    rw [List.foldl_cons]
    split
    · have ht := e.enterLevel_touches p.1 .linkLost
      rw [ih (fun v hv => h v ((ht.doorRec d).symm.trans hv)) hrest, ht.other (Ne.symm hp)]
    · exact ih h hrest

theorem Ev.closeRun_off {e : Ev} {b : BranchId} {d : Slot} (h : e.OffBranch b d) : (e.closeRun b none).doors[d] = e.doors[d] := by
  cases hr : e.branches[b].run with
  | none => rw [Ev.closeRun_of_noRun hr]
  | some r =>
    obtain ⟨h1, hd1⟩ := Ev.bindPairs_off r.pairs h
    rw [Ev.closeRun_of_run hr]
    exact (Ev.markUnbound_off h1).trans hd1

/-- The end of a run begins none. -/
theorem Ev.closeRun_noRun {e : Ev} (b x : BranchId) (h : e.branches[x].run = none) : (e.closeRun b none).branches[x].run = none := by
  cases hr : e.branches[b].run with
  | none => rwa [Ev.closeRun_of_noRun hr]
  | some r =>
    rw [Ev.closeRun_of_run hr]
    have hx : b ≠ x := fun k => by rw [k, h] at hr; cases hr
    rw [Ev.modBranch_other _ _ _ _ hx, Branch.run_congr ((e.boundRun_binds b r none).branch x).1]
    exact h

/-- The abort of a run for one door spares every door whose own branch has no run (R148). -/
theorem Ev.abortFor_spares (e : Ev) (x d : Slot) : Ev.Spares d e (e.abortFor x) := by
  have hr := e.abortFor_rebinds x
  refine ⟨hr.sources, hr.uptime, fun hn => ?_⟩
  unfold Ev.abortFor
  split
  · next v _ =>
    split
    · next hc =>
      have hrun : (e.branches[v.branch].run).isSome = true := (Bool.and_eq_true _ _ ▸ hc).2
      have hoff : e.OffBranch v.branch d := fun w hw k => by
        have hnone := (congrArg (fun b : BranchId => e.branches[b].run) k).symm.trans (hn w hw)
        exact absurd (Option.isSome_iff_ne_none.mp hrun) (not_not.mpr hnone)
      refine ⟨fun w hw => ?_, Ev.closeRun_off hoff⟩
      have hw' : w ∈ e.doorRec d := by rwa [← (e.closeRun_rebinds v.branch none).sources.doorRec d]
      exact Ev.closeRun_noRun _ _ (hn w hw')
    · exact ⟨hn, rfl⟩
  · exact ⟨hn, rfl⟩

/-! ### Order set and release of another door -/

section Other

variable (e : Ev) {x d : Slot} (hx : x ≠ d)
include hx

theorem Ev.request_spares (dir : Dir) (o : Origin) (b : Basis) : Ev.Spares d e (e.request x dir o b) := by
  have ha := e.abortFor_spares x d
  rcases e.request_cases x dir o b with ⟨h, -⟩ | ⟨-, -, ht, -⟩
  · rwa [h]
  · exact ha.trans (ht.spares hx)

theorem Ev.needClose_spares (o : Origin) : Ev.Spares d e (e.needClose x o) := by
  unfold Ev.needClose
  dsimp only
  split
  · split
    · exact (e.toPhase_touches x _).spares hx
    · exact e.request_spares hx _ _ _
  · exact .refl e

omit hx in
theorem Ev.withdrawOpen_touches (d : Slot) : Ev.Touches d e (e.withdrawOpen d) := by
  unfold Ev.withdrawOpen
  dsimp only
  generalize he : (if e.doors[d].goal = some .opening then _ else e : Ev) = e₁
  have h₁ : Ev.Touches d e e₁ := by
    subst he
    split
    · split
      · exact e.dropEntry_touches d _
      · exact e.endHalted_touches d
      · exact (e.toPhase_touches d _).trans (Ev.zeroRetry_touches _ d)
      · exact .refl d e
    · exact .refl d e
  split
  · exact h₁.trans (e₁.place_touches d _)
  · exact h₁

theorem Ev.orderOutcome_spares : Ev.Spares d e (e.orderOutcome x) := by
  unfold Ev.orderOutcome
  dsimp only
  split
  · split
    · exact (e.needClose_spares hx _).trans ((Ev.enterLevel_touches _ x _).spares hx)
    · exact e.needClose_spares hx _
  · exact .refl e

theorem Ev.orderSet_spares : Ev.Spares d e (e.orderSet x) :=
  ((e.abortFor_spares x d).trans ((Ev.withdrawOpen_touches _ x).spares hx)).trans (Ev.orderOutcome_spares _ hx)

theorem Ev.handOrder_spares (before : State) : Ev.Spares d e (e.handOrder before x) := by
  unfold Ev.handOrder
  split
  · exact e.orderSet_spares hx
  · exact (e.orderRelease_touches x).spares hx
  · exact .refl e

end Other

/-! ### Order set and release of the door itself -/

/-- The record of a door after its order set (R38, R39). -/
def Door.orderSet (now : Time) (r : Door) : Door :=
  let w := r.withdrawn
  if w.phase = .idle then
    let c := w.closeChecked true now .order
    if c.phase = .heldLocal then { c with conds := { c.conds with localOpen := true } } else c
  else w

/-- The record of a door once an open that is queued, driven or waits for its retry is withdrawn (R38). -/
def Door.openDropped (r : Door) : Door :=
  if r.goal = some .opening then
    match r.phase with
    | .queued => { r with entry := none, phase := .idle, timer := .none }
    | .driving => r.stopped
    | .retryWait => { r with phase := .idle, timer := .none, retry := 0 }
    | _ => r
  else r

/-- A command slot that holds OPEN takes HALT (R38). -/
theorem Door.withdrawn_eq (r : Door) :
    r.withdrawn = if r.openDropped.slot = .openDoor then { r.openDropped with slot := .halt } else r.openDropped := by
  unfold Door.withdrawn Door.openDropped
  generalize r.phase = p
  generalize r.goal = g
  cases p <;> rcases g with _ | _ | _ <;> rfl

theorem Ev.withdrawOpen_door (e : Ev) (d : Slot) : (e.withdrawOpen d).doors[d] = e.doors[d].withdrawn := by
  rw [Door.withdrawn_eq]
  unfold Ev.withdrawOpen
  dsimp only
  generalize he : (if e.doors[d].goal = some .opening then _ else e : Ev) = e₁
  have hd : e₁.doors[d] = e.doors[d].openDropped := by
    subst he
    unfold Door.openDropped
    split
    · next hg =>
      cases hp : e.doors[d].phase
      case queued => exact e.dropEntry_door d .idle
      case driving =>
        have hm : e.doors[d].move ≠ .none := fun k => by
          rw [Door.goal, hp, k] at hg
          cases hg
        rw [Door.stopped_of_driving hp hm]
        exact e.endHalted_door d
      case retryWait => exact (Ev.zeroRetry_door _ d).trans (by rw [Ev.toPhase_door])
      all_goals rfl
    · rfl
  rw [hd]
  split
  · rw [Ev.place_door_of_ne _ _ _ (by decide), hd]
  · exact hd

/-- Under an order the door's own order set is one operation on it. -/
theorem Ev.orderSet_own (e : Ev) (d : Slot) (hn : e.NoRunFor d) (hh : e.orderHeld d = true) :
    Ev.Touches d e (e.orderSet d) ∧ (e.orderSet d).doors[d] = e.doors[d].orderSet e.uptime := by
  have hw := e.withdrawOpen_touches d
  have hwn := hw.noRunFor hn
  have hc := (e.withdrawOpen d).needClose_touches d .order hwn
  have hcd := (e.withdrawOpen d).needClose_door d .order hwn
  rw [hw.orderHeld, hh, hw.uptime, Ev.withdrawOpen_door] at hcd
  unfold Ev.orderSet Ev.orderOutcome Door.orderSet
  dsimp only
  rw [e.abortFor_of_noRun d hn, Ev.withdrawOpen_door, hcd]
  split
  · split
    · refine ⟨(hw.trans hc).trans (Ev.enterLevel_touches _ d _), ?_⟩
      rw [Ev.enterLevel_door, hcd]
      rfl
    · exact ⟨hw.trans hc, hcd⟩
  · exact ⟨hw, Ev.withdrawOpen_door e d⟩

/-- The record of a door once its order-driven work is withdrawn (R40). -/
def Door.workDropped (r : Door) : Door :=
  match r.phase, r.entry, r.move with
  | .queued, some en, _ =>
    if en.dir = Dir.closing ∧ en.origin ≠ Origin.remote then { r with entry := none, phase := .idle, timer := .none }
    else r
  | .warning, _, .admitted a =>
    if a.origin ≠ Origin.remote then { r with slot := .warnOff, move := .none, phase := .idle, timer := .none }
    else r
  | .heldLocal, _, _ | .dwell, _, _ | .retryWait, _, _ | .failed, _, _ =>
    { r with phase := .idle, timer := .none }
  | _, _, _ => r

theorem Door.released_eq (r : Door) :
    r.released = { r.workDropped with
      retry := 0, conds := { r.workDropped.conds with travelTimeout := none, closeFailed := none, localOpen := false } } := rfl

theorem Door.workDropped_queued {r : Door} {en : Entry} (hp : r.phase = .queued) (he : r.entry = some en) :
    r.workDropped = if en.dir = Dir.closing ∧ en.origin ≠ Origin.remote then { r with entry := none, phase := .idle, timer := .none }
      else r := by
  rw [Door.workDropped, hp, he]

theorem Door.workDropped_warning {r : Door} {a : Admission} (hp : r.phase = .warning) (hm : r.move = .admitted a) :
    r.workDropped = if a.origin ≠ Origin.remote then { r with slot := .warnOff, move := .none, phase := .idle, timer := .none }
      else r := by
  rw [Door.workDropped, hp, hm]

theorem Door.workDropped_rests {r : Door} (hp : r.phase.rests = true) :
    r.workDropped = if r.phase = .idle then r else { r with phase := .idle, timer := .none } := by
  unfold Door.workDropped
  revert hp
  generalize r.phase = p
  cases p <;> intro hp <;> first | rfl | cases hp

theorem Origin.ofOrder_iff (o : Origin) : o.ofOrder = true ↔ o ≠ .remote := by cases o <;> decide

theorem Ev.releasePhase_door (e : Ev) (d : Slot) : (e.releasePhase d).doors[d] = e.doors[d].workDropped := by
  unfold Ev.releasePhase
  dsimp only
  split
  · next en hp he =>
    rw [Door.workDropped_queued hp he]
    simp only [Bool.and_eq_true, beq_iff_eq, Origin.ofOrder_iff]
    split
    · exact e.dropEntry_door d .idle
    · rfl
  · next a hp hm =>
    rw [Door.workDropped_warning hp hm]
    simp only [Origin.ofOrder_iff]
    split
    · rw [Ev.dropMove_door, Ev.place_door_of_ne _ _ _ (by decide)]
    · rfl
  case h_7 hl hd hr hf hq hw =>
    unfold Door.workDropped
    split
    · next en hp he => exact (hq en hp he).elim
    · next a hp hm => exact (hw a hp hm).elim
    · next hp => exact (hl hp).elim
    · next hp => exact (hd hp).elim
    · next hp => exact (hr hp).elim
    · next hp => exact (hf hp).elim
    · rfl
  all_goals
    next hp =>
    have hi : e.doors[d].phase ≠ .idle := by rw [hp]; decide
    rw [Ev.toPhase_door, Door.workDropped_rests (by rw [hp]; rfl), if_neg hi]

theorem Ev.orderRelease_door (e : Ev) (d : Slot) : (e.orderRelease d).doors[d] = e.doors[d].released := by
  rw [Door.released_eq, Ev.orderRelease, Ev.dropCond_door, Ev.dropCond_door, Ev.dropCond_door, Ev.zeroRetry_door,
    Ev.releasePhase_door]
  rfl

/-! ### The recomputation -/

/-- The record of a door once its order has changed from one word to another, or has stayed (R37). -/
def Door.handed (before after : Bool) (now : Time) (r : Door) : Door :=
  match before, after with
  | false, true => r.orderSet now
  | true, false => r.released
  | _, _ => r

theorem Ev.handOrder_own (before : State) (e : Ev) (d : Slot) (hn : e.NoRunFor d) :
    Ev.Touches d e (Ev.handOrder before e d)
      ∧ (Ev.handOrder before e d).doors[d] = e.doors[d].handed (before.orderHeld d) (e.orderHeld d) e.uptime := by
  unfold Ev.handOrder
  split
  · next hb ha =>
    rw [hb, ha]
    exact e.orderSet_own d hn ha
  · next hb ha =>
    rw [hb, ha]
    exact ⟨e.orderRelease_touches d, e.orderRelease_door d⟩
  · next h1 h2 =>
    refine ⟨.refl d e, ?_⟩
    revert h1 h2
    cases before.orderHeld d <;> cases e.orderHeld d <;> intro h1 h2
    · rfl
    · exact absurd rfl (h1 rfl)
    · exact absurd rfl (h2 rfl)
    · rfl

/-- A slot that is not fitted holds no order (R37). -/
theorem State.orderHeld_of_unfitted {s : State} {d : Slot} (h : s.doorRec d = none) : s.orderHeld d = false := by
  unfold State.orderHeld
  rw [h]

theorem State.fittedDoors_nodup (s : State) : (s.fittedDoors.map Prod.fst).Nodup := by
  refine List.Pairwise.map Prod.fst (fun _ _ h => h) (R := fun p q : Slot × DoorRec => p.1 ≠ q.1) ?_
  refine List.Pairwise.filterMap _ (R := fun a b : Slot => a ≠ b) ?_ (List.nodup_finRange 64)
  rintro x y hxy _ hp _ hq
  obtain ⟨v, -, rfl⟩ := Option.map_eq_some_iff.mp hp
  obtain ⟨w, -, rfl⟩ := Option.map_eq_some_iff.mp hq
  exact hxy

/-- Each door takes what its own order hands it, and nothing from the orders of other doors. -/
theorem Ev.recompute_door {before : State} {e : Ev} {d : Slot} (hr : e.doorRec d = before.doorRec d) (hn : e.NoRunFor d) :
    (Ev.recompute before e).doors[d] = e.doors[d].handed (before.orderHeld d) (e.orderHeld d) e.uptime := by
  have others : ∀ (l : List (Slot × DoorRec)), d ∉ l.map Prod.fst → ∀ e₁ : Ev,
      Ev.Spares d e₁ (l.foldl (fun e p => e.handOrder before p.1) e₁) := fun l hl e₁ =>
    Ev.Spares.foldl _ l (fun e₂ p hp => e₂.handOrder_spares (fun k => hl (List.mem_map.mpr ⟨p, hp, k⟩)) before) e₁
  unfold Ev.recompute
  cases hv : e.doorRec d with
  | none =>
    have hl : d ∉ e.fittedDoors.map Prod.fst := fun k => by
      obtain ⟨p, hp, hd⟩ := List.mem_map.mp k
      have := (e.mem_fittedDoors p.1 p.2).mp hp
      rw [hd, hv] at this
      cases this
    rw [((others _ hl e).keeps hn).2, State.orderHeld_of_unfitted (hr ▸ hv), State.orderHeld_of_unfitted hv]
    rfl
  | some v =>
    obtain ⟨l₁, l₂, hl⟩ := List.append_of_mem ((e.mem_fittedDoors d v).mpr hv)
    have hnd := e.fittedDoors_nodup
    rw [hl, List.map_append, List.map_cons] at hnd
    have h1 : d ∉ l₁.map Prod.fst := fun k => (List.nodup_append.mp hnd).2.2 d k d (by simp) rfl
    have h2 : d ∉ l₂.map Prod.fst := (List.nodup_cons.mp (List.nodup_append.mp hnd).2.1).1
    rw [hl, List.foldl_append, List.foldl_cons]
    have s₁ := others l₁ h1 e
    generalize l₁.foldl (fun e p => e.handOrder before p.1) e = e₁ at s₁
    obtain ⟨hn₁, hd₁⟩ := s₁.keeps hn
    obtain ⟨ht, hd₂⟩ := Ev.handOrder_own before e₁ d hn₁
    rw [((others l₂ h2 _).keeps (ht.noRunFor hn₁)).2, hd₂, hd₁, s₁.sources.orderHeld, s₁.uptime]

end Sys2Proof.Machine
end


section
/-! SUPPORT. A change of zone modes and line senses as a whole event (R37 to R41): the doors follow their orders. -/

namespace Sys2Proof.Machine

open Sys2Proof

/-! ### The event of a change of sources -/

theorem Ev.cancelPending_spares (e : Ev) (d : Slot) : Ev.Spares d e e.cancelPending := by
  refine ⟨e.cancelPending_moves.sources, ?_, fun hn => ?_⟩
  · unfold Ev.cancelPending
    split <;> rfl
  · have hb : e.cancelPending.branches = e.branches ∧ e.cancelPending.doors = e.doors := by
      unfold Ev.cancelPending
      split <;> exact ⟨rfl, rfl⟩
    refine ⟨fun v hv => ?_, by rw [hb.2]⟩
    rw [e.cancelPending_moves.sources.doorRec] at hv
    rw [hb.1]
    exact hn v hv

theorem Ev.sourcesChanged_sources (before : State) (e : Ev) : e.SameSources (Ev.sourcesChanged before e).toState := by
  unfold Ev.sourcesChanged
  split
  · exact e.cancelPending_moves.sources.trans (Ev.recompute_moves before _).sources
  · exact (Ev.recompute_moves before e).sources

theorem Ev.sourcesChanged_door {before : State} {e : Ev} {d : Slot} (hr : e.doorRec d = before.doorRec d) (hn : e.NoRunFor d) :
    (Ev.sourcesChanged before e).doors[d] = e.doors[d].handed (before.orderHeld d) (e.orderHeld d) e.uptime := by
  unfold Ev.sourcesChanged
  split
  · have hs := e.cancelPending_spares d
    obtain ⟨hn', hd⟩ := hs.keeps hn
    rw [Ev.recompute_door ((hs.sources.doorRec d).trans hr) hn', hd, hs.sources.orderHeld, hs.uptime]
  · exact Ev.recompute_door hr hn

/-- Where no bank is PENDING none becomes so. -/
theorem Ev.sourcesChanged_bankPending {before : State} {e : Ev} (h : e.bankPending = false) :
    (Ev.sourcesChanged before e).bankPending = false := by
  have hc : e.cancelPending = e := by
    unfold Ev.cancelPending
    split
    · next id hid => simp [State.bankPending, hid] at h
    · rfl
  have hr := e.recompute_hands (P := fun _ => True) (fun _ _ => trivial) before (fun _ => trivial) fun _ _ => trivial
  rw [Ev.sourcesChanged, hc, ite_self, State.bankPending, hr.banks]
  exact h

/-- The alarm list is that of before the event until its requests are taken (R103). -/
theorem Ev.sourcesChanged_alarms (before : State) (e : Ev) : (Ev.sourcesChanged before e).alarms = e.alarms := by
  have hc : e.cancelPending.alarms = e.alarms := by
    unfold Ev.cancelPending
    split <;> rfl
  have hr := fun e : Ev => (e.recompute_hands (P := fun _ => True) (fun _ _ => trivial) before (fun _ => trivial) fun _ _ => trivial).alarms
  unfold Ev.sourcesChanged
  split
  · rw [hr, hc]
  · exact hr e

/-- An event in which no source changes hands nothing. -/
theorem Ev.sourcesChanged_self (e : Ev) : e.sourcesChanged e.toState = e := by
  have hn : e.toState.newlyOrdered e.toState = false := by
    simp only [State.newlyOrdered, Bool.or_eq_false_iff, List.any_eq_false, Bool.and_not_self, Bool.false_eq_true,
      not_false_eq_true, implies_true, and_self]
  rw [Ev.sourcesChanged, hn, if_neg Bool.false_ne_true]
  unfold Ev.recompute
  generalize e.fittedDoors = l
  induction l with
  | nil => rfl
  | cons p l ih =>
    have hp : e.handOrder e.toState p.1 = e := by
      unfold Ev.handOrder
      cases e.orderHeld p.1 <;> rfl
    rw [List.foldl_cons, hp, ih]

/-! ### The doors at its end -/

/-- What an event leaves in which the modes and senses of `e` come about in the state `s`. -/
structure State.Followed (s : State) (e f : Ev) : Prop where
  sets : s.begin.SetsSources e
  sources : e.SameSources f.toState
  alarms : f.alarms = s.alarms
  uptime : f.uptime = s.uptime
  door : ∀ d : Slot, s.NoRunFor d → f.doors[d] = s.doors[d].handed (s.orderHeld d) (e.orderHeld d) s.uptime
  waits : s.bankPending = false → f.bankPending = false
  cancels : s.banks.StatesWf → s.newlyOrdered e.toState = true → f.bankPending = false

/-- An event on modes and senses keeps the records of the active set. -/
theorem Ev.SetsSources.doorRec {e e' : Ev} (h : e.SetsSources e') (d : Slot) : e'.doorRec d = e.doorRec d :=
  State.doorRec_congr (by rw [h.rest]; rfl) d

theorem Ev.SetsSources.noRunFor {e e' : Ev} (h : e.SetsSources e') {d : Slot} (hn : e.NoRunFor d) : e'.NoRunFor d := by
  intro v hv
  rw [h.doorRec] at hv
  rw [h.line]
  exact hn v hv

theorem Ev.SetsSources.followed {s : State} {e : Ev} (h : s.begin.SetsSources e) (tr : Trunk) :
    s.Followed e { e.sourcesChanged s with trunk := tr } where
  sets := h
  sources := ⟨(Ev.sourcesChanged_sources s e).set, (Ev.sourcesChanged_sources s e).zones, (Ev.sourcesChanged_sources s e).sense⟩
  alarms := (Ev.sourcesChanged_alarms s e).trans (by rw [h.rest]; rfl)
  uptime := (congrArg Outer.uptime (Ev.sourcesChanged_outer s e)).trans (by rw [h.rest]; rfl)
  door d hn := by
    have hd : e.doors = s.doors ∧ e.uptime = s.uptime := by rw [h.rest]; exact ⟨rfl, rfl⟩
    refine (Ev.sourcesChanged_door (h.doorRec d) (h.noRunFor hn)).trans ?_
    rw [hd.1, hd.2]
    rfl
  waits hb := Ev.sourcesChanged_bankPending (by rw [h.rest]; exact hb)
  cancels hw hn := (Ev.sourcesChanged_cancels (by rw [h.rest]; rfl) hw hn).none

namespace State.Followed

variable {s : State} {e f : Ev}

/-- Without a swap each door is as its order left it, or admitted from its entry. -/
theorem admits (h : s.Followed e f) (hb : f.bankPending = false) {d : Slot} (hn : s.NoRunFor d) :
    f.settle.Admits d (s.doors[d].handed (s.orderHeld d) (f.settle.orderHeld d) s.uptime) := by
  have hq := f.swapIfQuiescent_of_not_pending hb
  rw [(h.sources.trans (f.settle_sources hq)).orderHeld, ← h.door d hn]
  exact f.settle_admits hq d

/-- A door whose order stays, without an entry, is left alone. -/
theorem door_kept (h : s.Followed e f) (hb : s.bankPending = false) {d : Slot} (hn : s.NoRunFor d)
    (ho : s.orderHeld d = f.settle.orderHeld d) (he : s.doors[d].entry = none) : f.settle.doors[d] = s.doors[d] := by
  have ha := h.admits (h.waits hb) hn
  have hd : s.doors[d].handed (s.orderHeld d) (f.settle.orderHeld d) s.uptime = s.doors[d] := by
    rw [← ho]
    cases s.orderHeld d <;> rfl
  rw [hd] at ha
  exact ha.of_no_entry he

end State.Followed

/-! ### Order sets and releases (R38 to R40) -/

/-- A withdrawn open leaves no entry and no move behind. -/
theorem Door.withdrawn_idle {r : Door} (hf : r.flowWf = true) (hp : r.withdrawn.phase = .idle) :
    r.withdrawn.entry = none ∧ r.withdrawn.move = .none := by
  have hd : r.openDropped.phase = .idle → r.openDropped.entry = none ∧ r.openDropped.move = .none := by
    unfold Door.openDropped
    split
    · split
      · next hq =>
        have hm : r.move = .none := Door.flowWf_queued hf hq
        exact fun _ => ⟨rfl, hm⟩
      · exact fun _ => Door.stopped_rests hf
      · next hq =>
        have hr : r.entry = none ∧ r.move = .none := Door.flowWf_rests hf (by rw [hq]; rfl)
        exact fun _ => hr
      · exact fun hi => Door.flowWf_rests hf (by rw [hi]; rfl)
    · exact fun hi => Door.flowWf_rests hf (by rw [hi]; rfl)
  rw [Door.withdrawn_eq] at hp ⊢
  split at hp
  · next hs =>
    rw [if_pos hs]
    exact hd hp
  · next hs =>
    rw [if_neg hs]
    exact hd hp

/-- What an order set leaves in the queue is a close. -/
theorem Door.withdrawn_closing {r : Door} (hf : r.flowWf = true) {en : Entry} (he : r.withdrawn.entry = some en) :
    en.dir = .closing := by
  have hq : ∀ en, r.entry = some en → r.phase = .queued := fun en k => by
    rcases r.flowWf_iff.mp hf with ⟨h, -⟩ | ⟨-, h, -⟩ | ⟨-, h, -⟩ | ⟨-, h, -⟩
    · exact h
    all_goals rw [h] at k; cases k
  have hd : r.openDropped.entry = some en → en.dir = .closing := by
    intro he
    unfold Door.openDropped at he
    split at he
    · split at he
      · cases he
      · rw [(Door.stopped_rests hf).1] at he
        cases he
      · next hp =>
        have hr : r.entry = some en := he
        rw [hq en hr] at hp
        cases hp
      · next hp _ _ => exact absurd (hq en he) hp
    · next hg =>
      rw [Door.goal, hq en he, he] at hg
      cases hdir : en.dir with
      | closing => rfl
      | opening => exact absurd (congrArg some hdir) hg
  rw [Door.withdrawn_eq] at he
  split at he <;> exact hd he

/-- The need-close check of a door that needs no close (R16). -/
theorem Door.closeChecked_none {r : Door} {now : Time} {o : Origin}
    (h : r.link ≠ .online ∨ r.atClosed = true ∨ r.conds.travelTimeout ≠ none) : r.closeChecked true now o = r := by
  refine if_neg ?_
  rintro ⟨-, hl, hc, -, ht⟩
  rcases h with k | k | k
  · exact k hl
  · rw [hc] at k
    cases k
  · exact k ht

/-- The need-close check of a door that is IDLE and away from its closed position (R16, R18). -/
theorem Door.closeChecked_idle {r : Door} {now : Time} {o : Origin}
    (h : ¬(r.link ≠ .online ∨ r.atClosed = true ∨ r.conds.travelTimeout ≠ none)) (hp : r.phase = .idle) (hm : r.move = .none) :
    r.closeChecked true now o =
      if r.handleOpen = true then { r with phase := .heldLocal, timer := .none }
      else { r.enqueued now .closing o .order with retry := o.retryAfter r.retry } := by
  simp only [not_or, not_not, Bool.not_eq_true] at h
  obtain ⟨hl, hc, ht⟩ := h
  unfold Door.closeChecked
  rw [if_pos ⟨rfl, hl, hc, hp, ht⟩, if_pos hm]

/-- The order set of a door as the obligations state it. -/
theorem State.Admits.orderBegins {s t : State} {d : Slot} (h : t.Admits d (s.doors[d].orderSet s.uptime))
    (hf : s.doors[d].flowWf = true) : s.OrderBegins t d := by
  unfold State.OrderBegins
  unfold Door.orderSet at h
  have hidle := Door.withdrawn_idle hf
  have hclose : ∀ en, s.doors[d].withdrawn.entry = some en → en.dir = .closing := fun en => Door.withdrawn_closing hf
  generalize s.doors[d].withdrawn = w at h hidle hclose
  dsimp only at h ⊢
  by_cases hp : w.phase = .idle
  · obtain ⟨he, hm⟩ := hidle hp
    rw [if_pos hp] at h
    rw [if_neg (not_not.mpr hp)]
    by_cases hc : w.link ≠ .online ∨ w.atClosed = true ∨ w.conds.travelTimeout ≠ none
    · rw [if_pos hc]
      rw [Door.closeChecked_none hc, hp, if_neg (show Phase.idle ≠ .heldLocal by decide)] at h
      exact h.of_no_entry he
    · rw [if_neg hc]
      rw [Door.closeChecked_idle hc hp hm] at h
      by_cases ho : w.handleOpen = true
      · rw [if_pos ho] at h ⊢
        exact h.of_no_entry he
      · rw [if_neg ho] at h ⊢
        exact h.keptOrAdmitted fun en hen => .inl (by cases hen; rfl)
  · rw [if_neg hp] at h
    rw [if_pos hp]
    exact h.keptOrAdmitted fun en he => .inl (hclose en he)

theorem State.closed_of_anyZoneClosed {s : State} (h : s.anyZoneClosed = false) (z : ZoneId) : s.zones[z].closed = false := by
  have := List.any_eq_false.mp h z (List.mem_finRange z)
  simpa using this

theorem State.lineHeld_of_anyLineHeld {s : State} (h : s.anyLineHeld = false) (b : BranchId) : s.lineHeld b = false := by
  have := List.any_eq_false.mp h b (List.mem_finRange b)
  simpa using this

/-- Where no order source begins, none stands that did not stand before. -/
theorem State.newlyOrdered_eq_false {s t : State} (h : s.newlyOrdered t = false) :
    (∀ z : ZoneId, s.zones[z].closed = false → t.zones[z].closed = false)
      ∧ ∀ b : BranchId, s.lineHeld b = false → t.lineHeld b = false := by
  obtain ⟨hz, hl⟩ := Bool.or_eq_false_iff.mp h
  refine ⟨fun z hs => ?_, fun b hs => ?_⟩
  · have := List.any_eq_false.mp hz z (List.mem_finRange z)
    simpa [-Fin.getElem_fin, hs] using this
  · have := List.any_eq_false.mp hl b (List.mem_finRange b)
    simpa [hs] using this

theorem State.lineHeld_of_outer {s t : State} (h : t.outer = s.outer) (b : BranchId) : t.lineHeld b = s.lineHeld b := by
  have hs := congrArg (fun o : Outer => o.lines[b]) h
  rw [State.lines_get, State.lines_get] at hs
  have hsense : t.branches[b].sense = s.branches[b].sense := congrArg Prod.snd hs
  rw [State.lineHeld, hsense, State.lineHeld]

/-- Without an effective order source no door holds an order (R37). -/
theorem State.orderHeld_of_quiet {s : State} (hz : ∀ z : ZoneId, s.zones[z].closed = false) (hl : ∀ b, s.lineHeld b = false)
    (d : Slot) : s.orderHeld d = false := by
  unfold State.orderHeld
  split
  · rw [hz, hl]
    rfl
  · rfl

namespace State.Followed

variable {s : State} {e f : Ev}

/-- Beside no order source, where none begins, none stands at the end of the event. -/
theorem quiet (h : s.Followed e f) (hz : s.anyZoneClosed = false) (hl : s.anyLineHeld = false)
    (hn : s.newlyOrdered e.toState = false) (d : Slot) : f.settle.orderHeld d = false := by
  obtain ⟨hnz, hnl⟩ := State.newlyOrdered_eq_false hn
  refine State.orderHeld_of_quiet (fun z => ?_) (fun b => ?_) d
  · rw [f.settle_calm.zones z, h.sources.zones]
    exact hnz z (State.closed_of_anyZoneClosed hz z)
  · have hf : f.lineHeld b = e.lineHeld b := by rw [State.lineHeld, h.sources.sense, State.lineHeld]
    rw [State.lineHeld_of_outer f.settle_outer, hf]
    exact hnl b (State.lineHeld_of_anyLineHeld hl b)

/-- The doors follow a change of zone modes and line senses. -/
theorem ordersFollow (h : s.Followed e f) : s.OrdersFollow f.settle := by
  refine ⟨fun hb d => ?_, fun d hf hn => ⟨fun hw hp hs ht => ?_, fun hb hs ht => ?_⟩⟩
  · have hq := f.swapIfQuiescent_of_not_pending (h.waits hb)
    rw [(h.sources.trans (f.settle_sources hq)).doorRec, h.sets.doorRec]
    rfl
  · have hb : f.bankPending = false := by
      rcases hp with hp | ⟨hz, hl⟩
      · exact h.waits hp
      · by_cases hnew : s.newlyOrdered e.toState = true
        · exact h.cancels hw hnew
        · rw [h.quiet hz hl (by simpa using hnew) d] at ht
          cases ht
    have ha := h.admits hb hn
    rw [hs, ht] at ha
    exact State.Admits.orderBegins ha hf
  · have ha := h.admits (h.waits hb) hn
    rw [hs, ht] at ha
    exact State.Admits.keptOrAdmitted ha fun en _ => .inr ht

end State.Followed

end Sys2Proof.Machine
end


section
/-! SUPPORT. The four zone commands and LINE_SAMPLE as changes of order sources. -/

namespace Sys2Proof.Machine

open Sys2Proof

/-- A panel command whose whole effect is a change of zone modes and line senses, and what follows from it. -/
def PanelCmd.SetsOrders (x : PanelCmd) : Prop :=
  ∀ (src : Station) (p : PanelRec) (e : Ev), ∃ e', e.SetsSources e' ∧ (x.act src p e).1 = e'.sourcesChanged e.toState

theorem Ev.closeZone_eq (e : Ev) (z : ZoneId) (src : Station) :
    e.closeZone z src = ((e.setMode z true src).sourcesChanged e.toState, if e.zones[z].closed then .done else .accepted) := by
  unfold Ev.closeZone
  split
  · next h => rw [Ev.setMode, if_pos h, Ev.sourcesChanged_self]
  · rfl

theorem cmdCloseZone_setsOrders (zone : Byte) : (cmdCloseZone zone).SetsOrders := by
  intro src p e
  dsimp only [cmdCloseZone]
  split
  · next z _ => exact ⟨_, e.setMode_sets z true src, by rw [Ev.closeZone_eq]⟩
  · exact ⟨e, .refl e, e.sourcesChanged_self.symm⟩

theorem cmdReleaseZone_setsOrders (zone : Byte) : (cmdReleaseZone zone).SetsOrders := by
  intro src p e
  dsimp only [cmdReleaseZone]
  split
  · next z _ => exact ⟨_, e.setMode_sets z false src, rfl⟩
  · exact ⟨e, .refl e, e.sourcesChanged_self.symm⟩

theorem cmdCloseAll_setsOrders : cmdCloseAll.SetsOrders := fun src p e => ⟨_, e.closeAll_sets p src, rfl⟩

theorem cmdReleaseAll_setsOrders : cmdReleaseAll.SetsOrders := fun _ _ e =>
  ⟨_, (e.setModes_sets _ _ _).trans (Ev.latches_set Ev.latchRelease_sets _ _), rfl⟩

/-- A command that is refused, or carried out: modes and senses as it sets them, and the doors that follow. -/
theorem State.orderUnit_followed (s : State) (src : Station) (tag code : Byte) {x : PanelCmd} (hx : x.SetsOrders) :
    ∃ e, s.Followed e (s.begin.orderUnit src tag code (some x)) := by
  unfold Ev.orderUnit
  split
  · refine ⟨s.begin, ?_⟩
    have h := (Ev.SetsSources.refl s.begin).followed
    rw [show s.begin.sourcesChanged s = s.begin from s.begin.sourcesChanged_self] at h
    exact h _
  · next p y hy =>
    obtain ⟨hxy, -⟩ := State.checkCommand_inr hy
    obtain rfl := Option.some.inj hxy
    obtain ⟨e, he, hact⟩ := hx src p s.begin
    refine ⟨e, ?_⟩
    rw [hact]
    exact he.followed _

/-- A zone command has no effect, is discarded for a full answer class, or is such an event. -/
theorem State.commandFrame_followed (s : State) (route : Route) (payload : List Byte) (tag code : Byte) {x : PanelCmd}
    (hx : x.SetsOrders) : s.commandFrame route payload tag code (some x) = s
      ∨ s.commandFrame route payload tag code (some x) = s.rxDiscard
      ∨ ∃ e f, s.Followed e f ∧ s.commandFrame route payload tag code (some x) = f.settle := by
  unfold State.commandFrame
  split
  · obtain ⟨e, h⟩ := s.orderUnit_followed route.src tag code hx
    exact .inr (.inr ⟨e, _, h, rfl⟩)
  · exact .inr (.inl rfl)
  · exact .inl rfl

/-- The event of a line sample. -/
theorem State.lineSample_followed (s : State) (b : BranchId) (low : Bool) :
    (s.setLine b low).Followed ((s.setLine b low).begin.sample b)
      (((s.setLine b low).begin.sample b).sourcesChanged (s.setLine b low)) :=
  (Ev.sample_sets _ b).followed (((s.setLine b low).begin.sample b).sourcesChanged (s.setLine b low)).trunk

/-- The outcome of a command: nothing, or on a powered part its event. -/
theorem State.live_next {s t : State} {f : State → State} (h : s.live f = .next t) : t = s ∨ t = f s := by
  have h : (if s.powered then f s else s) = t := Host.Outcome.next.inj h
  split at h
  · exact .inr h.symm
  · exact .inl h.symm

/-- Settles O16: a change of orders hands a door nothing where its order stays, and without an entry it is not admitted. -/
theorem orderChangesTouchNoOtherDoor : Obligations.OrderChangesTouchNoOtherDoor := by
  intro c s t d hc h hb ho he hn
  have row : ∀ {x : PanelCmd} (_ : x.SetsOrders) (route payload tag code),
      (s.live fun s => s.commandFrame route payload tag code (some x)) = .next t → t.doors[d] = s.doors[d] := by
    intro x hx route payload tag code h
    rcases State.live_next h with ht | ht
    · rw [ht]
    · rcases s.commandFrame_followed route payload tag code hx with k | k | ⟨e, f, hf, k⟩
      · rw [ht.trans k]
      · rw [ht.trans k]
        rfl
      · rw [ht.trans k] at ho ⊢
        exact hf.door_kept hb hn ho he
  rcases hc with ⟨r, a, b, rfl⟩ | ⟨r, a, rfl⟩ | ⟨r, a, b, rfl⟩ | ⟨r, a, rfl⟩ | ⟨b, low, rfl⟩
  · exact row (cmdCloseZone_setsOrders a) _ _ _ _ h
  · exact row cmdCloseAll_setsOrders _ _ _ _ h
  · exact row (cmdReleaseZone_setsOrders a) _ _ _ _ h
  · exact row cmdReleaseAll_setsOrders _ _ _ _ h
  · have h : execLineSample b low s = .next t := h
    rcases State.live_next h with ht | ht
    · rw [ht]
    · rw [ht] at ho ⊢
      exact (s.lineSample_followed b low).door_kept hb hn ho he

end Sys2Proof.Machine
end


section
/-! SUPPORT. One pair of the alarm list (R107 to R109, R113): what raises and clears of other pairs leave of its entry and
its mark. -/

namespace Sys2Proof.Machine

open Sys2Proof

/-- The entries and the marks of one pair. -/
def Alarms.ofPair (a : Alarms) (j : Subject) (k : AlarmKind) : List AlarmEntry × List Mark :=
  (a.entries.filter fun x => x.isPair j k, a.marks.filter fun m => m.isPair j k)

theorem Alarms.entry_eq (a : Alarms) (j : Subject) (k : AlarmKind) : a.entry j k = (a.ofPair j k).1.head? := by
  rw [Alarms.entry, Alarms.ofPair, List.head?_filter]

theorem Alarms.mark_eq (a : Alarms) (j : Subject) (k : AlarmKind) : a.mark j k = (a.ofPair j k).2.head? := by
  rw [Alarms.mark, Alarms.ofPair, List.head?_filter]

section Pair

variable {j j' : Subject} {k k' : AlarmKind}

/-- No entry is that of two pairs. -/
theorem AlarmEntry.not_isPair {x : AlarmEntry} (h : ¬(j' = j ∧ k' = k)) (hx : x.isPair j' k' = true) : x.isPair j k = false := by
  obtain ⟨rfl, rfl⟩ := (x.isPair_iff j' k').mp hx
  exact Bool.eq_false_iff.mpr fun hk => h ((x.isPair_iff j k).mp hk)

theorem Mark.not_isPair {m : Mark} (h : ¬(j' = j ∧ k' = k)) (hm : m.isPair j' k' = true) : m.isPair j k = false := by
  obtain ⟨rfl, rfl⟩ := (m.isPair_iff j' k').mp hm
  exact Bool.eq_false_iff.mpr fun hk => h ((m.isPair_iff j k).mp hk)

/-! ### Changes of the list -/

theorem Alarms.ofPair_append (a : Alarms) (x : AlarmEntry) :
    (a.append x).ofPair j k = ((a.ofPair j k).1 ++ (if x.isPair j k then [x] else []), (a.ofPair j k).2) := by
  simp only [Alarms.ofPair, Alarms.append, List.filter_append, List.filter_cons, List.filter_nil]

theorem Alarms.ofPair_without (a : Alarms) (h : ¬(j' = j ∧ k' = k)) : (a.without j' k').ofPair j k = a.ofPair j k := by
  simp only [Alarms.ofPair, Alarms.without, List.filter_filter]
  congr 1
  refine List.filter_congr fun x _ => ?_
  cases hx : x.isPair j' k'
  · simp
  · simp [AlarmEntry.not_isPair h hx]

theorem Alarms.ofPair_without_same (a : Alarms) : (a.without j k).ofPair j k = ([], (a.ofPair j k).2) := by
  simp [Alarms.ofPair, Alarms.without, List.filter_filter]

theorem Alarms.ofPair_unmark (a : Alarms) (h : ¬(j' = j ∧ k' = k)) : (a.unmark j' k').ofPair j k = a.ofPair j k := by
  simp only [Alarms.ofPair, Alarms.unmark, List.filter_filter]
  congr 1
  refine List.filter_congr fun x _ => ?_
  cases hx : x.isPair j' k'
  · simp
  · simp [Mark.not_isPair h hx]

theorem Alarms.ofPair_unmark_same (a : Alarms) : (a.unmark j k).ofPair j k = ((a.ofPair j k).1, []) := by
  simp [Alarms.ofPair, Alarms.unmark, List.filter_filter]

theorem Alarms.ofPair_replace (a : Alarms) {y : AlarmEntry} (h : ¬(y.subject = j ∧ y.kind = k)) :
    (a.replace y).ofPair j k = a.ofPair j k := by
  have hy : y.isPair j k = false := AlarmEntry.not_isPair h ((y.isPair_iff _ _).mpr ⟨rfl, rfl⟩)
  simp only [Alarms.ofPair, Alarms.replace]
  congr 1
  induction a.entries with
  | nil => rfl
  | cons x l ih =>
    rw [List.map_cons, List.filter_cons, List.filter_cons, ih]
    cases hx : x.isPair y.subject y.kind
    · rfl
    · simp [hy, AlarmEntry.not_isPair h hx]

theorem filter_insertMark {p : Mark → Bool} {m : Mark} (h : p m = false) (l : List Mark) : (insertMark m l).filter p = l.filter p := by
  induction l with
  | nil => simp [insertMark, h]
  | cons x l ih =>
    unfold insertMark
    split
    · rw [List.filter_cons, if_neg (by rw [h]; exact Bool.false_ne_true)]
    · rw [List.filter_cons, List.filter_cons, ih]

theorem Alarms.ofPair_setMark (a : Alarms) {m : Mark} (h : ¬(m.subject = j ∧ m.kind = k)) :
    (a.setMark m).ofPair j k = a.ofPair j k := by
  have hm : m.isPair j k = false := Mark.not_isPair h ((m.isPair_iff _ _).mpr ⟨rfl, rfl⟩)
  have hu := a.ofPair_unmark (j' := m.subject) (k' := m.kind) h
  have he : (a.setMark m).ofPair j k = (a.unmark m.subject m.kind).ofPair j k := by
    simp only [Alarms.ofPair, Alarms.setMark, Alarms.unmark, filter_insertMark (p := fun m => m.isPair j k) hm]
  rw [he, hu]

theorem filter_insertMark_own {p : Mark → Bool} {m : Mark} (h : p m = true) {l : List Mark} (hl : ∀ x ∈ l, p x = false) :
    (insertMark m l).filter p = [m] := by
  induction l with
  | nil => simp [insertMark, h]
  | cons x l ih =>
    have hn : (x :: l).filter p = [] := List.filter_eq_nil_iff.mpr fun y hy => by rw [hl y hy]; exact Bool.false_ne_true
    unfold insertMark
    split
    · rw [List.filter_cons, if_pos h, hn]
    · rw [List.filter_cons, if_neg (by rw [hl x (by simp)]; exact Bool.false_ne_true), ih fun y hy => hl y (by simp [hy])]

theorem Alarms.ofPair_setMark_same (a : Alarms) (m : Mark) :
    (a.setMark m).ofPair m.subject m.kind = ((a.ofPair m.subject m.kind).1, [m]) := by
  have hm : m.isPair m.subject m.kind = true := (m.isPair_iff _ _).mpr ⟨rfl, rfl⟩
  have hi := filter_insertMark_own (p := fun x => x.isPair m.subject m.kind) hm
    (l := a.marks.filter fun x => !x.isPair m.subject m.kind) fun x hx => by simpa using (List.mem_filter.mp hx).2
  simp only [Alarms.ofPair, Alarms.setMark, hi]

/-! ### Requests on other pairs -/

theorem State.listNew_alarms (s : State) (j : Subject) (k : AlarmKind) :
    (s.listNew j k).alarms = s.alarms.append ⟨j, k, s.uptime, true, none, 1⟩ := rfl

theorem State.unlist_alarms (s : State) (x : AlarmEntry) : (s.unlist x).alarms = s.alarms.without x.subject x.kind := rfl

theorem State.putMark_alarms (s : State) (c : Change) (m : Mark) : (s.putMark c m).alarms = s.alarms.setMark m := rfl

/-- A new entry of another pair. -/
theorem State.listNew_ofPair (s : State) (h : ¬(j' = j ∧ k' = k)) : (s.listNew j' k').alarms.ofPair j k = s.alarms.ofPair j k := by
  have hx : (⟨j', k', s.uptime, true, none, 1⟩ : AlarmEntry).isPair j k = false :=
    Bool.eq_false_iff.mpr fun hk => h ((AlarmEntry.isPair_iff _ _ _).mp hk)
  rw [State.listNew_alarms, Alarms.ofPair_append, hx]
  simp

/-- A raise of another pair leaves this one, or evicts its acknowledged entry (R108). -/
theorem State.takeRaise_ofPair (s : State) (h : ¬(j' = j ∧ k' = k)) :
    (s.takeRaise j' k').alarms.ofPair j k = s.alarms.ofPair j k
      ∨ (s.takeRaise j' k').alarms.ofPair j k = ([], (s.alarms.ofPair j k).2)
        ∧ ∃ x ∈ (s.alarms.ofPair j k).1, x.ackBy.isSome = true := by
  unfold State.takeRaise
  split
  · next x hx =>
    obtain ⟨rfl, rfl⟩ := (Alarms.entry_some hx).2
    refine .inl ?_
    split
    · exact Alarms.ofPair_replace _ h
    · have hy : ({ x with active := true, ackBy := none, raisedAt := s.uptime, count := countUp x.count } : AlarmEntry).isPair j k = false :=
        Bool.eq_false_iff.mpr fun hk => h ((AlarmEntry.isPair_iff _ _ _).mp hk)
      rw [State.noticeEntry_alarms, State.withAlarms_alarms, Alarms.ofPair_append, Alarms.ofPair_without _ h, hy]
      simp
  · split
    · exact .inl (Alarms.ofPair_setMark _ h)
    · split
      · exact .inl (s.listNew_ofPair h)
      · split
        · next old ho =>
          have hacked : old.ackBy.isSome = true := List.find?_some (p := fun x : AlarmEntry => x.ackBy.isSome) ho
          have hmem := List.mem_of_find?_eq_some ho
          rw [State.listNew_ofPair _ h, State.unlist_alarms]
          by_cases hp : old.subject = j ∧ old.kind = k
          · obtain ⟨rfl, rfl⟩ := hp
            exact .inr ⟨Alarms.ofPair_without_same _,
              old, List.mem_filter.mpr ⟨hmem, (old.isPair_iff _ _).mpr ⟨rfl, rfl⟩⟩, hacked⟩
          · exact .inl (Alarms.ofPair_without _ hp)
        · exact .inl (Alarms.ofPair_setMark _ h)

/-- A clear of another pair leaves this one (R109). -/
theorem State.takeClear_ofPair (s : State) (h : ¬(j' = j ∧ k' = k)) :
    (s.takeClear j' k').alarms.ofPair j k = s.alarms.ofPair j k := by
  unfold State.takeClear
  split
  · next x hx =>
    obtain ⟨rfl, rfl⟩ := (Alarms.entry_some hx).2
    split
    · dsimp only
      split
      · exact Alarms.ofPair_without _ h
      · exact Alarms.ofPair_replace _ h
    · rfl
  · split
    · exact Alarms.ofPair_unmark _ h
    · rfl

end Pair

/-! ### The pair of a notice kind (R105) -/

/-- The entry of the pair is active, and the pair is not both listed and marked (R104, R105). -/
def Alarms.Clearable (a : Alarms) (j : Subject) (k : AlarmKind) : Prop :=
  (∀ x ∈ (a.ofPair j k).1, x.active = true) ∧ ((a.ofPair j k).1 = [] ∨ (a.ofPair j k).2 = [])

/-- The pair is neither listed nor marked. -/
def Alarms.Absent (a : Alarms) (j : Subject) (k : AlarmKind) : Prop := a.ofPair j k = ([], [])

theorem Alarms.Absent.unlisted {a : Alarms} {j : Subject} {k : AlarmKind} (h : a.Absent j k) : a.entry j k = none ∧ a.mark j k = none := by
  rw [Alarms.entry_eq, Alarms.mark_eq, h]
  exact ⟨rfl, rfl⟩

theorem Alarms.Absent.clearable {a : Alarms} {j : Subject} {k : AlarmKind} (h : a.Absent j k) : a.Clearable j k := by
  rw [Alarms.Clearable, h]
  exact ⟨nofun, .inl rfl⟩

theorem Alarms.Absent.of_none {a : Alarms} {j : Subject} {k : AlarmKind} (he : a.entry j k = none) (hm : a.mark j k = none) :
    a.Absent j k := by
  rw [Alarms.entry_eq, List.head?_eq_none_iff] at he
  rw [Alarms.mark_eq, List.head?_eq_none_iff] at hm
  exact Prod.ext he hm

/-- A well-formed list holds the entry of a notice kind only while it is active (R105). -/
theorem Alarms.Wf.clearable {a : Alarms} (h : a.Wf) {j : Subject} {k : AlarmKind} (hk : k.isNotice = true) : a.Clearable j k := by
  obtain ⟨-, -, hs, -, hmarks, -⟩ := h
  refine ⟨fun x hx => ?_, ?_⟩
  · obtain ⟨hmem, hp⟩ := List.mem_filter.mp hx
    obtain ⟨-, rfl⟩ := (x.isPair_iff j k).mp hp
    by_contra ha
    have := (hs x hmem).1 (by simpa using ha)
    rw [this.2] at hk
    cases hk
  · by_contra hn
    obtain ⟨hn1, hn2⟩ := not_or.mp hn
    obtain ⟨m, hm⟩ := List.exists_mem_of_ne_nil _ hn2
    obtain ⟨hmem, hp⟩ := List.mem_filter.mp hm
    obtain ⟨rfl, rfl⟩ := (m.isPair_iff j k).mp hp
    have he := hmarks m hmem
    rw [Alarms.entry_eq, List.head?_eq_none_iff] at he
    exact hn1 he

/-- A raise or clear of another kind, or a clear. -/
def AlarmReq.sparing (k : AlarmKind) : AlarmReq → Prop
  | .raise _ k' => k' ≠ k
  | .clear _ _ => True
  | _ => False

section Clears

variable {s : State} {j : Subject} {k : AlarmKind}

/-- A clear of a notice kind takes its entry or mark away (R109). -/
theorem State.takeClear_absent (h : s.alarms.Clearable j k) (hk : k.isNotice = true) : (s.takeClear j k).alarms.Absent j k := by
  unfold State.takeClear
  split
  · next x hx =>
    obtain ⟨hmem, hp⟩ := Alarms.entry_some hx
    have hxm : x ∈ (s.alarms.ofPair j k).1 := List.mem_filter.mpr ⟨hmem, (x.isPair_iff j k).mpr hp⟩
    obtain ⟨rfl, rfl⟩ := hp
    rw [if_pos (h.1 x hxm), hk, Bool.true_or, if_pos rfl, State.unlist_alarms, Alarms.Absent, Alarms.ofPair_without_same]
    have hm := h.2.resolve_left (List.ne_nil_of_mem hxm)
    rw [hm]
  · next he =>
    rw [Alarms.entry_eq, List.head?_eq_none_iff] at he
    split
    · rw [State.noticeMark_alarms, State.withAlarms_alarms, Alarms.Absent, Alarms.ofPair_unmark_same, he]
    · next hm => exact .of_none (by rw [Alarms.entry_eq, he]; rfl) hm

/-- Requests of other kinds. -/
theorem State.takeReq_clearable (h : s.alarms.Clearable j k) (hk : k.isNotice = true) {r : AlarmReq} (hr : r.sparing k) :
    (s.takeReq r).alarms.Clearable j k := by
  unfold State.takeReq
  cases r with
  | raise j' k' =>
    rcases s.takeRaise_ofPair (j := j) (k := k) (fun hp => hr hp.2) with ho | ⟨ho, -⟩ <;> dsimp only <;> rw [Alarms.Clearable, ho]
    · exact h
    · exact ⟨nofun, .inl rfl⟩
  | clear j' k' =>
    dsimp only
    by_cases hp : j' = j ∧ k' = k
    · obtain ⟨rfl, rfl⟩ := hp
      exact (State.takeClear_absent h hk).clearable
    · rw [Alarms.Clearable, s.takeClear_ofPair hp]
      exact h
  | _ => cases hr

theorem State.takeReq_absent (h : s.alarms.Absent j k) {r : AlarmReq} (hk : k.isNotice = true) (hr : r.sparing k) :
    (s.takeReq r).alarms.Absent j k := by
  unfold State.takeReq
  cases r with
  | raise j' k' =>
    rcases s.takeRaise_ofPair (j := j) (k := k) (fun hp => hr hp.2) with ho | ⟨ho, -⟩ <;> dsimp only <;> rw [Alarms.Absent, ho]
    · exact h
    · rw [h]
  | clear j' k' =>
    dsimp only
    by_cases hp : j' = j ∧ k' = k
    · obtain ⟨rfl, rfl⟩ := hp
      exact State.takeClear_absent h.clearable hk
    · rw [Alarms.Absent, s.takeClear_ofPair hp]
      exact h
  | _ => cases hr

/-- A mark that enters the list (R113). -/
theorem State.fillFrom_clearable (ms : List Mark) {s : State} (h : s.alarms.Clearable j k) : (s.fillFrom ms).alarms.Clearable j k := by
  induction ms generalizing s with
  | nil => exact h
  | cons m ms ih =>
    unfold State.fillFrom
    split
    · refine ih ?_
      by_cases hp : m.subject = j ∧ m.kind = k
      · obtain ⟨rfl, rfl⟩ := hp
        rw [State.listNew_alarms, State.withAlarms_alarms, Alarms.Clearable, Alarms.ofPair_append, Alarms.ofPair_unmark_same]
        refine ⟨fun x hx => ?_, .inr rfl⟩
        rcases List.mem_append.mp hx with hx | hx
        · exact h.1 x hx
        · split at hx
          · rw [List.mem_singleton.mp hx]
          · cases hx
      · rw [Alarms.Clearable, State.listNew_ofPair _ hp, State.withAlarms_alarms, Alarms.ofPair_unmark _ hp]
        exact h
    · exact h

theorem State.fillFrom_absent (ms : List Mark) {s : State} (h : s.alarms.Absent j k)
    (hm : ∀ m ∈ ms, ¬(m.subject = j ∧ m.kind = k)) : (s.fillFrom ms).alarms.Absent j k := by
  induction ms generalizing s with
  | nil => exact h
  | cons m ms ih =>
    have hp := hm m (by simp)
    unfold State.fillFrom
    split
    · refine ih ?_ fun x hx => hm x (by simp [hx])
      rw [Alarms.Absent, State.listNew_ofPair _ hp, State.withAlarms_alarms, Alarms.ofPair_unmark _ hp]
      exact h
    · exact h

theorem State.fill_absent (h : s.alarms.Absent j k) : s.fill.alarms.Absent j k := by
  refine State.fillFrom_absent _ h fun m hm hp => ?_
  have hf : m ∈ (s.alarms.ofPair j k).2 := List.mem_filter.mpr ⟨hm, (m.isPair_iff j k).mpr hp⟩
  rw [h] at hf
  cases hf

/-- Requests that clear a pair of a notice kind and do not raise it again leave it neither listed nor marked. -/
theorem State.takeReqs_absent (hk : k.isNotice = true) (rs : List AlarmReq) {s : State} {freed : Bool}
    (hs : s.alarms.Clearable j k) (hr : ∀ r ∈ rs, r.sparing k) (hc : s.alarms.Absent j k ∨ .clear j k ∈ rs) :
    (s.takeReqs freed rs).alarms.Absent j k := by
  induction rs generalizing s freed with
  | nil => exact hc.resolve_right (by simp)
  | cons r rs ih =>
    have hr' : ∀ x ∈ rs, x.sparing k := fun x hx => hr x (by simp [hx])
    have h1 : (s.takeReq r).alarms.Clearable j k := State.takeReq_clearable hs hk (hr r (by simp))
    have h2 : (s.takeReq r).alarms.Absent j k ∨ .clear j k ∈ rs := by
      rcases hc with hc | hc
      · exact .inl (State.takeReq_absent hc hk (hr r (by simp)))
      · rcases List.mem_cons.mp hc with rfl | hc
        · exact .inl (State.takeClear_absent hs hk)
        · exact .inr hc
    unfold State.takeReqs
    split
    · exact ih (State.fillFrom_clearable _ h1) hr' (h2.imp_left State.fill_absent)
    · exact ih h1 hr' h2

end Clears

/-- What the alarm requests of an event leave, where no bank is swapped. -/
theorem State.Followed.settle_alarms {s : State} {e f : Ev} (h : s.Followed e f) (hb : s.bankPending = false) :
    ∃ u : State, u.alarms = s.alarms ∧ u.uptime = s.uptime ∧ f.settle.alarms = (u.takeReqs false f.reqs).alarms := by
  exact ⟨f.arbiters.toState, f.arbiters_alarms.1.trans h.alarms, f.arbiters_alarms.2.trans h.uptime,
    Ev.settle_alarms (f.swapIfQuiescent_of_not_pending (h.waits hb))⟩

end Sys2Proof.Machine
end


section
/-! SUPPORT. CLOSE-ZONE and CLOSE-ALL (R31): the modes and lines they set, and the LINE-EXTERNAL they clear (R44). -/

namespace Sys2Proof.Machine

open Sys2Proof

/-! ### The outer part after a change of sources -/

theorem Ev.SetsSources.outer {e e' : Ev} (h : e.SetsSources e') :
    e'.outer = { e.outer with zones := e'.zones, lines := e'.outer.lines } := by
  have hr := h.rest
  generalize e'.zones = z, e'.branches = b, e'.reqs = r at hr ⊢
  rw [hr]
  rfl

theorem Ev.SetsSources.answered_outer {s : State} {e : Ev} (h : s.begin.SetsSources e) (src : Station) (tag code : Byte)
    (a : Answer) : ((e.sourcesChanged s).answer src tag code a).settle.outer =
      { s.outer with zones := e.zones, lines := e.outer.lines, answers := s.withAnswer src tag code a } := by
  have ht : e.trunk = s.trunk := by rw [h.rest]; rfl
  have hw : e.toState.withAnswer src tag code a = s.withAnswer src tag code a := by
    rw [State.withAnswer, State.withAnswer, State.answerFrame, State.answerFrame, ht]
  rw [Ev.settle_outer, Ev.answer_outer (s := e.toState) (Ev.sourcesChanged_outer s e), hw, h.outer]
  rfl

/-! ### Modes and latches -/

/-- The record of a zone after a change of several modes: one already in the mode keeps its record (R28). -/
theorem Ev.setModes_zone (zs : List ZoneId) (c : Bool) (st : Station) (e : Ev) (x : ZoneId) :
    (e.setModes zs c st).zones[x] = if x ∈ zs ∧ e.zones[x].closed ≠ c then ⟨c, some st, e.uptime⟩ else e.zones[x] := by
  have one : ∀ (e : Ev) z, (e.setMode z c st).zones[x] =
      if z = x ∧ e.zones[x].closed ≠ c then ⟨c, some st, e.uptime⟩ else e.zones[x] := by
    intro e z
    unfold Ev.setMode
    split
    · next hc =>
      refine (if_neg ?_).symm
      rintro ⟨rfl, k⟩
      exact k hc
    · next hc =>
      by_cases hz : z = x
      · subst hz
        rw [Ev.modZone_same, if_pos ⟨rfl, hc⟩]
      · rw [Ev.modZone_other _ _ _ _ hz, if_neg fun k => hz k.1]
  unfold Ev.setModes
  induction zs generalizing e with
  | nil => rw [if_neg (by simp)]; rfl
  | cons z zs ih =>
    have hu : (e.setMode z c st).uptime = e.uptime := by rw [(e.setMode_sets z c st).rest]
    rw [List.foldl_cons, ih, one, hu]
    by_cases hz : z = x
    · by_cases hc : e.zones[x].closed = c
      · simp [-Fin.getElem_fin, hz, hc]
      · simp [-Fin.getElem_fin, hz, hc]
    · simp [-Fin.getElem_fin, hz, Ne.symm hz]

/-- The latches of several branches are set, and their senses are OWN (R42, R43). -/
theorem Ev.latchSets_line (l : List BranchId) (e : Ev) (x : BranchId) :
    ((l.foldl Ev.latchSet e).branches[x].latch, (l.foldl Ev.latchSet e).branches[x].sense) =
      if x ∈ l then (true, .own) else (e.branches[x].latch, e.branches[x].sense) := by
  induction l generalizing e with
  | nil => rfl
  | cons b l ih =>
    rw [List.foldl_cons, ih, Ev.latchSet_state]
    by_cases hx : b = x
    · subst hx
      rw [Ev.modBranch_same]
      simp
    · rw [Ev.modBranch_other _ _ _ _ hx]
      simp [-Fin.getElem_fin, Ne.symm hx]

/-! ### LINE-EXTERNAL cleared (R44) -/

/-- A line that becomes OWN clears LINE-EXTERNAL if it leaves EXTERNAL. -/
theorem Ev.latchSet_reqs (e : Ev) (b : BranchId) :
    (e.latchSet b).reqs = e.reqs ++ if e.branches[b].sense = .external then [.clear (.branch b) .lineExternal] else [] := by
  unfold Ev.latchSet Ev.setSense
  rw [Ev.modBranch_same]
  dsimp only
  split
  · next h => rw [h]; exact (List.append_nil _).symm
  · rw [if_neg (by decide)]
    split
    · rfl
    · exact (List.append_nil _).symm

theorem Ev.latchSets_reqs (l : List BranchId) (e : Ev) :
    ∃ rs, (l.foldl Ev.latchSet e).reqs = e.reqs ++ rs ∧ (∀ r ∈ rs, ∃ b, r = .clear (.branch b) .lineExternal)
      ∧ ∀ b ∈ l, e.branches[b].sense = .external → .clear (.branch b) .lineExternal ∈ rs := by
  induction l generalizing e with
  | nil => exact ⟨[], (List.append_nil _).symm, nofun, nofun⟩
  | cons x l ih =>
    obtain ⟨rs, hr, hc, hb⟩ := ih (e.latchSet x)
    refine ⟨(if e.branches[x].sense = .external then [.clear (.branch x) .lineExternal] else []) ++ rs, ?_, fun r hm => ?_,
      fun b hm hs => ?_⟩
    · rw [List.foldl_cons, hr, Ev.latchSet_reqs, List.append_assoc]
    · rcases List.mem_append.mp hm with hm | hm
      · split at hm
        · exact ⟨x, List.mem_singleton.mp hm⟩
        · cases hm
      · exact hc r hm
    · by_cases hx : x = b
      · subst hx
        rw [if_pos hs]
        simp
      · refine List.mem_append_right _ (hb b ?_ ?_)
        · exact (List.mem_cons.mp hm).resolve_left (Ne.symm hx)
        · rw [Ev.latchSet_state, Ev.modBranch_other _ _ _ _ hx]
          exact hs

/-- The recomputation of the orders raises no LINE-EXTERNAL. -/
theorem Ev.sourcesChanged_sparing (before : State) (e : Ev) :
    ∃ rs, (Ev.sourcesChanged before e).reqs = e.reqs ++ rs ∧ ∀ r ∈ rs, r.sparing .lineExternal := by
  have hc : e.cancelPending.reqs = e.reqs := by
    unfold Ev.cancelPending
    split <;> rfl
  have hr : ∀ r : AlarmReq, r.ofRun → r.sparing .lineExternal := by
    rintro r (⟨d, rfl⟩ | ⟨b, rfl⟩) <;> simp [AlarmReq.sparing]
  have hrec := fun e : Ev => (e.recompute_hands hr before (fun _ => by simp [AlarmReq.sparing]) fun _ _ => trivial).reqs
  unfold Ev.sourcesChanged
  split
  · obtain ⟨rs, h, hP⟩ := hrec e.cancelPending
    exact ⟨rs, by rw [h, hc], hP⟩
  · exact hrec e

/-! ### CLOSE-ZONE -/

theorem zoneOperand_of_scope {zone : Byte} {z : ZoneId} {s : State} {p : PanelRec} (hz : zoneOf zone = some z)
    (hs : s.hasZone z = true) (hp : p.hasZone z = true) : zoneOperand zone s p = none := by
  unfold zoneOperand
  rw [hz]
  dsimp only
  rw [hs, hp]
  rfl

/-- A zone that goes into DOORS-CLOSED mode gives an order to each of its doors (R37). -/
theorem State.orderHeld_of_closed {s : State} {d : Slot} {r : DoorRec} {z : ZoneId} (hr : s.doorRec d = some r) (hz : r.zone = z)
    (hc : s.zones[z].closed = true) : s.orderHeld d = true := by
  subst hz
  unfold State.orderHeld
  rw [hr]
  dsimp only
  rw [hc, Bool.true_or]

theorem closeZone_closes {s : State} {route : Route} {tag : Byte} {p : PanelRec} (hp : s.panel route.src = some p)
    (hr : p.holds .mode = true) (hw : s.banks.StatesWf) {zone : Byte} {z : ZoneId} (hc : s.Commanded route [1, zone, 0, tag])
    (hz : zoneOf zone = some z) (hsz : s.hasZone z = true) (hpz : p.hasZone z = true) :
    ∃ t, exec (.closeZone route zone tag) s = .next t
      ∧ s.OrdersFollow t
      ∧ (s.zones[z].closed = true → t.outer = { s.outer with answers := s.withAnswer route.src tag 1 .done })
      ∧ (s.zones[z].closed = false →
          t.outer =
            { s.outer with
              zones := s.zones.set z ⟨true, some route.src, s.uptime⟩
              answers := s.withAnswer route.src tag 1 .accepted }
          ∧ ∀ (d : Slot) (r : DoorRec), s.doorRec d = some r → r.zone = z → t.orderHeld d = true) := by
  have he := s.begin.setMode_sets z true route.src
  have hact : (cmdCloseZone zone).act route.src p s.begin =
      ((s.begin.setMode z true route.src).sourcesChanged s, if s.zones[z].closed then .done else .accepted) := by
    dsimp only [cmdCloseZone]
    rw [hz]
    exact s.begin.closeZone_eq z route.src
  have hrun := exec_panelRow_of_accepted (i := .closeZone route zone tag) rfl hc hp hr (zoneOperand_of_scope hz hsz hpz)
  dsimp only at hrun
  rw [hact] at hrun
  have hf : s.Followed (s.begin.setMode z true route.src) (((s.begin.setMode z true route.src).sourcesChanged s).answer route.src
      tag 1 (if s.zones[z].closed then .done else .accepted)) := he.followed _
  have hlines : (s.begin.setMode z true route.src).outer.lines = s.outer.lines := by
    simp only [State.outer, Ev.setMode_branches]
    rfl
  refine ⟨_, hrun, hf.ordersFollow, fun hcl => ?_, fun hcl => ⟨?_, fun d r hd hrz => ?_⟩⟩
  · have hzones : (s.begin.setMode z true route.src).zones = s.zones :=
      congrArg (fun e : Ev => e.zones) (if_pos hcl)
    rw [he.answered_outer, hlines, hzones, hcl, if_pos rfl]
    rfl
  · have hzones : (s.begin.setMode z true route.src).zones = s.zones.set z ⟨true, some route.src, s.uptime⟩ := by
      have hne : ¬s.zones[z].closed = true := by rw [hcl]; exact Bool.false_ne_true
      exact congrArg (fun e : Ev => e.zones) (if_neg hne)
    rw [he.answered_outer, hlines, hzones, hcl, if_neg Bool.false_ne_true]
  · have hclosed : (s.begin.setMode z true route.src).zones[z].closed = true := by rw [Ev.setMode_closed, if_pos rfl]
    have hb := hf.cancels hw (State.newlyOrdered_of_closed hcl hclosed)
    have hs := hf.sources.trans (Ev.settle_sources _ (Ev.swapIfQuiescent_of_not_pending _ hb))
    rw [hs.orderHeld]
    exact State.orderHeld_of_closed ((he.doorRec d).trans hd) hrz hclosed

/-! ### CLOSE-ALL -/

theorem State.mem_scopeZones (s : State) (p : PanelRec) (z : ZoneId) :
    z ∈ s.scopeZones p ↔ (p.hasZone z && s.hasZone z) = true := by
  unfold State.scopeZones
  rw [List.mem_filter]
  exact ⟨And.right, fun h => ⟨List.mem_finRange z, h⟩⟩

/-- The modes and lines that CLOSE-ALL sets. -/
def Ev.allClosed (e : Ev) (p : PanelRec) (src : Station) : Ev :=
  if p.holds .line then branchIds.foldl Ev.latchSet (e.setModes (e.scopeZones p) true src)
  else e.setModes (e.scopeZones p) true src

theorem Ev.allClosed_zones (s : State) (p : PanelRec) (src : Station) :
    (s.begin.allClosed p src).zones = Vector.ofFn fun z : ZoneId =>
      if p.hasZone z && s.hasZone z && !s.zones[z].closed then ⟨true, some src, s.uptime⟩ else s.zones[z] := by
  have hz : (s.begin.allClosed p src).zones = (s.begin.setModes (s.begin.scopeZones p) true src).zones :=
    Ev.latches_zones Ev.latchSet_zones _ _
  refine Vector.ext fun i hi => ?_
  have hm := Ev.setModes_zone (s.begin.scopeZones p) true src s.begin ⟨i, hi⟩
  rw [hz, Vector.getElem_ofFn]
  refine hm.trans ?_
  have hiff : ((⟨i, hi⟩ : ZoneId) ∈ s.begin.scopeZones p ∧ s.begin.zones[(⟨i, hi⟩ : ZoneId)].closed ≠ true) ↔
      (p.hasZone ⟨i, hi⟩ && s.hasZone ⟨i, hi⟩ && !s.zones[(⟨i, hi⟩ : ZoneId)].closed) = true := by
    rw [State.mem_scopeZones, Bool.and_eq_true _ (!_), Bool.not_eq_true', ← Bool.not_eq_true]
    exact Iff.rfl
  exact if_congr hiff rfl rfl

theorem Ev.allClosed_lines (s : State) (p : PanelRec) (src : Station) :
    (s.begin.allClosed p src).outer.lines = if p.holds .line then Vector.replicate 4 (true, .own) else s.outer.lines := by
  have hb : (s.begin.setModes (s.begin.scopeZones p) true src).branches = s.branches := Ev.setModes_branches _ _ _ _
  unfold Ev.allClosed
  split
  · refine Vector.ext fun i hi => ?_
    have hm : (⟨i, hi⟩ : BranchId) ∈ branchIds := List.mem_finRange _
    have h := Ev.latchSets_line branchIds (s.begin.setModes (s.begin.scopeZones p) true src) ⟨i, hi⟩
    rw [if_pos hm] at h
    rw [Vector.getElem_replicate]
    exact (State.lines_get _ ⟨i, hi⟩).trans h
  · simp only [State.outer, hb]

/-- CLOSE-ALL is ACCEPTED where a zone or a latch of its scope changes, else DONE. -/
theorem Ev.closeAll_answer (s : State) (p : PanelRec) (src : Station) :
    (cmdCloseAll.act src p s.begin).2 =
      if (∃ z : ZoneId, p.hasZone z = true ∧ s.hasZone z = true ∧ s.zones[z].closed = false)
          ∨ (p.holds .line = true ∧ ∃ b : BranchId, s.branches[b].latch = false)
        then .accepted else .done := by
  have hz : ((s.begin.scopeZones p).any fun z => !s.zones[z].closed) = true ↔
      ∃ z : ZoneId, p.hasZone z = true ∧ s.hasZone z = true ∧ s.zones[z].closed = false := by
    simp only [List.any_eq_true, State.mem_scopeZones, Bool.and_eq_true, Bool.not_eq_true', and_assoc]
    exact Iff.rfl
  have hb : (branchIds.any fun b => !s.branches[b].latch) = true ↔ ∃ b : BranchId, s.branches[b].latch = false := by
    simp only [List.any_eq_true, Bool.not_eq_true']
    exact ⟨fun ⟨b, _, h⟩ => ⟨b, h⟩, fun ⟨b, h⟩ => ⟨b, List.mem_finRange b, h⟩⟩
  refine if_congr ?_ rfl rfl
  rw [Bool.or_eq_true, Bool.and_eq_true]
  exact or_congr hz (and_congr Iff.rfl hb)

/-- CLOSE-ALL of a panel with LINE clears the LINE-EXTERNAL of each line that was EXTERNAL. -/
theorem Ev.allClosed_reqs (e : Ev) (p : PanelRec) (src : Station) :
    ∃ rs, (e.allClosed p src).reqs = e.reqs ++ rs ∧ (∀ r ∈ rs, r.sparing .lineExternal)
      ∧ ∀ b : BranchId, p.holds .line = true → e.branches[b].sense = .external → .clear (.branch b) .lineExternal ∈ rs := by
  have hm : (e.setModes (e.scopeZones p) true src).reqs = e.reqs := by
    refine foldl_keeps (fun e : Ev => e.reqs) _ (fun e z => ?_) _ _
    unfold Ev.setMode
    split <;> rfl
  unfold Ev.allClosed
  split
  · obtain ⟨rs, hr, hc, hb⟩ := Ev.latchSets_reqs branchIds (e.setModes (e.scopeZones p) true src)
    refine ⟨rs, by rw [hr, hm], fun r h => ?_, fun b _ hs => hb b (List.mem_finRange b) ?_⟩
    · obtain ⟨b, rfl⟩ := hc r h
      trivial
    · rw [Ev.setModes_branches]
      exact hs
  · next hl => exact ⟨[], by rw [hm, List.append_nil], nofun, fun _ h => absurd h hl⟩

theorem closeAll_closes {s : State} {route : Route} {tag : Byte} {p : PanelRec} (hp : s.panel route.src = some p)
    (hr : p.holds .mode = true) (hc : s.Commanded route [2, 0, 0, tag]) :
    ∃ t, exec (.closeAll route tag) s = .next t
      ∧ s.OrdersFollow t
      ∧ t.outer =
          { s.outer with
            zones := Vector.ofFn fun z : ZoneId =>
              if p.hasZone z && s.hasZone z && !s.zones[z].closed then ⟨true, some route.src, s.uptime⟩
              else s.zones[z]
            lines := if p.holds .line then Vector.replicate 4 (true, .own) else s.outer.lines
            answers := s.withAnswer route.src tag 2
              (if (∃ z : ZoneId, p.hasZone z = true ∧ s.hasZone z = true ∧ s.zones[z].closed = false)
                  ∨ (p.holds .line = true ∧ ∃ b : BranchId, s.branches[b].latch = false)
                then .accepted else .done) }
      ∧ ∀ b : BranchId, p.holds .line = true → s.branches[b].sense = .external → s.alarms.Wf →
          s.bankPending = false →
          t.alarms.entry (.branch b) .lineExternal = none ∧ t.alarms.mark (.branch b) .lineExternal = none := by
  have he : s.begin.SetsSources (s.begin.allClosed p route.src) := s.begin.closeAll_sets p route.src
  have hrun : exec (.closeAll route tag) s = .next (((s.begin.allClosed p route.src).sourcesChanged s).answer route.src
      tag 2 (cmdCloseAll.act route.src p s.begin).2).settle :=
    exec_panelRow_of_accepted (i := .closeAll route tag) rfl hc hp hr rfl
  have hf : s.Followed (s.begin.allClosed p route.src) (((s.begin.allClosed p route.src).sourcesChanged s).answer route.src
      tag 2 (cmdCloseAll.act route.src p s.begin).2) := he.followed _
  refine ⟨_, hrun, hf.ordersFollow, (he.answered_outer route.src tag 2 _).trans ?_, fun b hl hs ha hb => ?_⟩
  · rw [Ev.allClosed_zones, Ev.allClosed_lines, Ev.closeAll_answer]
  · refine Alarms.Absent.unlisted ?_
    obtain ⟨u, hu, -, ht⟩ := hf.settle_alarms hb
    obtain ⟨rs, hrs, hsp, hmem⟩ := s.begin.allClosed_reqs p route.src
    obtain ⟨qs, hqs, hqp⟩ := Ev.sourcesChanged_sparing s (s.begin.allClosed p route.src)
    have hreqs : (((s.begin.allClosed p route.src).sourcesChanged s).answer route.src tag 2
        (cmdCloseAll.act route.src p s.begin).2).reqs = rs ++ qs := hqs.trans (by rw [hrs]; rfl)
    rw [Alarms.Absent, ht, hreqs]
    refine State.takeReqs_absent rfl _ (hu ▸ ha.clearable rfl) (fun r hr => ?_) (.inr (List.mem_append_left _ (hmem b hl hs)))
    exact (List.mem_append.mp hr).elim (hsp r) (hqp r)

/-- Settles O22: the commands set modes and lines, and the doors follow. -/
theorem closesCloseZonesAndLines : Obligations.ClosesCloseZonesAndLines := by
  intro s route tag p hp hr hw
  exact ⟨fun zone z hc hz hsz hpz => closeZone_closes hp hr hw hc hz hsz hpz, fun hc => closeAll_closes hp hr hc⟩

end Sys2Proof.Machine
end


section
/-! SUPPORT. LINE_SAMPLE (R43, R44): the sense that a sample gives, and what its alarm request leaves of the list. -/

namespace Sys2Proof.Machine

open Sys2Proof

/-! ### The sample -/

/-- A change of a branch that leaves its record as it is. -/
theorem Ev.modBranch_self {e : Ev} {b : BranchId} {f : Branch → Branch} (h : f e.branches[b] = e.branches[b]) : e.modBranch b f = e := by
  have hs : e.branches.set b (f e.branches[b]) = e.branches := by
    rw [h]
    exact Vector.set_getElem_self b.isLt
  unfold Ev.modBranch
  rw [hs]

/-- The sense of a branch after a sample of its line (R43). -/
def Branch.sampled (low : Bool) (r : Branch) : Sense := if r.latch then r.sense else sampledSense low

theorem Ev.sample_state (e : Ev) (b : BranchId) :
    (e.sample b).toState = (e.modBranch b fun r => { r with sense := r.sampled e.pins.lineLow[b] }).toState := by
  unfold Ev.sample
  split
  · next hl =>
    rw [Ev.modBranch_self]
    rw [Branch.sampled, if_pos hl]
  · next hl =>
    have hs : e.branches[b].sampled e.pins.lineLow[b] = sampledSense e.pins.lineLow[b] := if_neg hl
    rw [Ev.setSense_state]
    unfold Ev.modBranch
    dsimp only
    rw [hs]

/-- A sample that finds the sense as it stands changes nothing. -/
theorem Ev.sample_self {e : Ev} {b : BranchId} (h : e.branches[b].sampled e.pins.lineLow[b] = e.branches[b].sense) : e.sample b = e := by
  unfold Ev.sample
  split
  · rfl
  · next hl =>
    rw [Branch.sampled, if_neg hl] at h
    unfold Ev.setSense
    dsimp only
    rw [if_pos h.symm, Ev.modBranch_self]
    rw [h]

/-- A line found low raises LINE-EXTERNAL where its sense becomes EXTERNAL, and one found high clears it where its sense
was EXTERNAL (R44). -/
theorem Ev.sample_reqs {e : Ev} {b : BranchId} (hl : e.branches[b].latch = false)
    (hs : e.branches[b].sense ≠ sampledSense e.pins.lineLow[b]) :
    (e.sample b).reqs = e.reqs ++ if e.pins.lineLow[b] then [.raise (.branch b) .lineExternal]
      else if e.branches[b].sense = .external then [.clear (.branch b) .lineExternal] else [] := by
  unfold Ev.sample Ev.setSense
  dsimp only
  rw [hl, if_neg Bool.false_ne_true, if_neg hs]
  cases e.pins.lineLow[b]
  · rw [if_neg (by decide), if_neg Bool.false_ne_true]
    split
    · rfl
    · exact (List.append_nil _).symm
  · rw [if_pos (show sampledSense true = .external from rfl), if_pos rfl]
    rfl

/-! ### Orders that only begin -/

/-- A raise of a kind other than LINE-EXTERNAL. -/
def AlarmReq.raisesOther (r : AlarmReq) : Prop := ∃ j k, r = .raise j k ∧ k ≠ .lineExternal

theorem AlarmReq.raisesOther_of_run {r : AlarmReq} (h : r.ofRun) : r.raisesOther := by
  rcases h with ⟨d, rfl⟩ | ⟨b, rfl⟩
  · exact ⟨_, _, rfl, by decide⟩
  · exact ⟨_, _, rfl, by decide⟩

/-- A recomputation that ends no order hands raises only (R38, R39). -/
theorem Ev.recompute_raises {before : State} {e : Ev} (h : ∀ d, before.orderHeld d = true → e.orderHeld d = true) :
    e.Hands AlarmReq.raisesOther (Ev.recompute before e) := by
  have hl : ∀ p ∈ e.fittedDoors, e.fitted p.1 = true := fun p hp =>
    State.fitted_of_doorRec ((e.mem_fittedDoors p.1 p.2).mp hp)
  unfold Ev.recompute
  generalize e.fittedDoors = l at hl
  induction l generalizing e with
  | nil => exact .refl e
  | cons p l ih =>
    have hm := Ev.handOrder_moves before e p.1 (hl p (by simp))
    have hh : e.Hands AlarmReq.raisesOther (e.handOrder before p.1) := by
      unfold Ev.handOrder
      split
      · exact e.orderSet_hands (fun _ => AlarmReq.raisesOther_of_run) p.1 ⟨_, _, rfl, by decide⟩
      · next hb ha =>
        rw [h _ hb] at ha
        cases ha
      · exact .refl e
    exact hh.trans (ih (fun d hd => (hm.sources.orderHeld d).trans (h d hd)) fun q hq =>
      (hm.sources.fitted _).trans (hl q (by simp [hq])))

theorem Ev.sourcesChanged_raises {before : State} {e : Ev} (h : ∀ d, before.orderHeld d = true → e.orderHeld d = true) :
    ∃ rs, (Ev.sourcesChanged before e).reqs = e.reqs ++ rs ∧ ∀ r ∈ rs, r.raisesOther := by
  have hc : e.cancelPending.reqs = e.reqs := by
    unfold Ev.cancelPending
    split <;> rfl
  unfold Ev.sourcesChanged
  split
  · have hs := e.cancelPending_moves.sources
    obtain ⟨rs, hr, hP⟩ := (Ev.recompute_raises fun d hd => (hs.orderHeld d).trans (h d hd)).reqs
    exact ⟨rs, by rw [hr, hc], hP⟩
  · exact (Ev.recompute_raises h).reqs

/-! ### A raise that is taken (R108) -/

/-- Raises remove no entry but by eviction, after which nothing is filled. -/
theorem State.takeReqs_raises (s : State) {rs : List AlarmReq} (h : ∀ r ∈ rs, ∃ j k, r = .raise j k) :
    s.takeReqs false rs = rs.foldl State.takeReq s := by
  refine s.takeReqs_of_no_removal rs ?_
  induction rs generalizing s with
  | nil => rfl
  | cons r rs ih =>
    obtain ⟨j, k, rfl⟩ := h r (by simp)
    unfold State.laterRemoves
    rw [ih _ fun x hx => h x (by simp [hx])]
    rfl

section Raise

variable {j : Subject} {k : AlarmKind}

/-- A raise of an absent pair, with room in the list or an acknowledged entry that makes room. -/
theorem State.takeRaise_listed {s : State} (h : s.alarms.Absent j k)
    (hr : s.alarms.entries.length < 64 ∨ ∃ x ∈ s.alarms.entries, x.ackBy ≠ none) :
    (s.takeRaise j k).alarms.ofPair j k = ([⟨j, k, s.uptime, true, none, 1⟩], []) := by
  have new : ∀ u : State, u.uptime = s.uptime → u.alarms.Absent j k →
      (u.listNew j k).alarms.ofPair j k = ([⟨j, k, s.uptime, true, none, 1⟩], []) := fun u hu hA => by
    rw [State.listNew_alarms, Alarms.ofPair_append, hA, hu, if_pos ((AlarmEntry.isPair_iff _ _ _).mpr ⟨rfl, rfl⟩)]
    rfl
  obtain ⟨he, hm⟩ := h.unlisted
  unfold State.takeRaise
  rw [he, hm]
  dsimp only
  split
  · exact new s rfl h
  · next hfull =>
    split
    · next old _ =>
      refine new _ rfl ?_
      rw [State.unlist_alarms]
      by_cases hp : old.subject = j ∧ old.kind = k
      · obtain ⟨rfl, rfl⟩ := hp
        rw [Alarms.Absent, Alarms.ofPair_without_same, h]
      · rw [Alarms.Absent, Alarms.ofPair_without _ hp]
        exact h
    · next hn =>
      obtain ⟨x, hx, ha⟩ := hr.resolve_left hfull
      have := List.find?_eq_none.mp hn x hx
      exact absurd (Option.isSome_iff_ne_none.mpr ha) this

/-- A raise of an absent pair that finds the list full of unacknowledged entries. -/
theorem State.takeRaise_marked {s : State} (h : s.alarms.Absent j k) (hl : s.alarms.entries.length = 64)
    (hu : ∀ x ∈ s.alarms.entries, x.ackBy = none) : (s.takeRaise j k).alarms.ofPair j k = ([], [⟨j, k, none⟩]) := by
  obtain ⟨he, hm⟩ := h.unlisted
  have hn : (s.alarms.entries.find? fun x => x.ackBy.isSome) = none :=
    List.find?_eq_none.mpr fun x hx => by rw [hu x hx]; exact Bool.false_ne_true
  unfold State.takeRaise
  rw [he, hm]
  dsimp only
  rw [if_neg (by omega), hn, State.putMark_alarms]
  rw [show (s.alarms.setMark ⟨j, k, none⟩).ofPair j k = _ from Alarms.ofPair_setMark_same s.alarms ⟨j, k, none⟩, h]

/-- Raises of other kinds leave the mark of a pair, and its unacknowledged entry. -/
theorem State.raises_ofPair {rs : List AlarmReq} (hr : ∀ r ∈ rs, ∃ j' k', r = .raise j' k' ∧ k' ≠ k) {s : State}
    (hu : ∀ x ∈ (s.alarms.ofPair j k).1, x.ackBy = none) : (rs.foldl State.takeReq s).alarms.ofPair j k = s.alarms.ofPair j k := by
  induction rs generalizing s with
  | nil => rfl
  | cons r rs ih =>
    obtain ⟨j', k', rfl, hk⟩ := hr r (by simp)
    have hs : (s.takeReq (.raise j' k')).alarms.ofPair j k = s.alarms.ofPair j k := by
      refine (s.takeRaise_ofPair (j := j) (k := k) fun hp => hk hp.2).resolve_right ?_
      rintro ⟨-, x, hx, ha⟩
      rw [hu x hx] at ha
      cases ha
    rw [List.foldl_cons, ih (fun x hx => hr x (by simp [hx])) (by rw [hs]; exact hu), hs]

end Raise

/-! ### The whole event -/

section Sample

variable (s : State) (b : BranchId) (low : Bool)

/-- The event of a sample before the orders follow. -/
def State.sampledLine : Ev := (s.setLine b low).begin.sample b

theorem State.setLine_low : (s.setLine b low).pins.lineLow[b] = low := Vector.getElem_set_self b.isLt

theorem State.sampledLine_branches :
    (s.sampledLine b low).branches = s.branches.set b { s.branches[b] with sense := s.branches[b].sampled low } := by
  have h : (s.sampledLine b low).branches = s.branches.set b
      { s.branches[b] with sense := s.branches[b].sampled (s.setLine b low).pins.lineLow[b] } :=
    congrArg State.branches (Ev.sample_state _ b)
  rw [h, s.setLine_low]

theorem State.sampledLine_zones : (s.sampledLine b low).zones = s.zones :=
  (congrArg State.zones (Ev.sample_state (s.setLine b low).begin b)).trans rfl

theorem State.sampledLine_lines : (s.sampledLine b low).outer.lines =
    s.outer.lines.set b (s.branches[b].latch,
      if s.branches[b].latch then s.branches[b].sense else if low then .external else .clear) := by
  simp only [State.outer, s.sampledLine_branches, Vector.map_set]
  rfl

theorem State.lineSample_outer : ((s.sampledLine b low).sourcesChanged (s.setLine b low)).settle.outer =
    { s.outer with
      pins := { s.pins with lineLow := s.pins.lineLow.set b low }
      lines := s.outer.lines.set b (s.branches[b].latch,
        if s.branches[b].latch then s.branches[b].sense else if low then .external else .clear) } := by
  have he : (s.setLine b low).begin.SetsSources (s.sampledLine b low) := Ev.sample_sets _ b
  rw [Ev.settle_outer, Ev.sourcesChanged_outer, he.outer, s.sampledLine_zones, s.sampledLine_lines]
  rfl

/-- A line that becomes EXTERNAL ends no order (R37). -/
theorem State.sampledLine_held (h : s.branches[b].latch = false) (d : Slot) (hd : s.orderHeld d = true) :
    (s.sampledLine b true).orderHeld d = true := by
  have hr : (s.sampledLine b true).doorRec d = s.doorRec d := (Ev.sample_sets (s.setLine b true).begin b).doorRec d
  have hline : ∀ x : BranchId, s.lineHeld x = true → (s.sampledLine b true).lineHeld x = true := fun x hx => by
    have hs : s.branches[b].sampled true = .external := if_neg (by rw [h]; exact Bool.false_ne_true)
    unfold State.lineHeld at hx ⊢
    rw [s.sampledLine_branches, hs]
    by_cases hbx : b = x
    · subst hbx
      rw [show (s.branches.set b _)[b] = _ from Vector.getElem_set_self b.isLt]
      rfl
    · rw [show (s.branches.set b _)[x] = s.branches[x] from Vector.getElem_set_ne _ _ fun hv => hbx (Fin.ext hv)]
      exact hx
  unfold State.orderHeld at hd ⊢
  rw [hr, s.sampledLine_zones]
  split
  · next r hdr =>
    rw [hdr] at hd
    dsimp only at hd
    rw [Bool.or_eq_true] at hd ⊢
    exact hd.imp_right (hline r.branch)
  · next hdr =>
    rw [hdr] at hd
    cases hd

/-! ### The alarm requests of a sample (R44) -/

/-- The event of a sample once the orders follow. -/
def State.lineEvent : Ev := (s.sampledLine b low).sourcesChanged (s.setLine b low)

variable {s b low}

theorem State.lineEvent_raises (hl : s.branches[b].latch = false) (hs : s.branches[b].sense ≠ .external) :
    ∃ rs, (s.lineEvent b true).reqs = .raise (.branch b) .lineExternal :: rs ∧ ∀ r ∈ rs, r.raisesOther := by
  obtain ⟨rs, hr, hP⟩ := Ev.sourcesChanged_raises (before := s.setLine b true) (e := s.sampledLine b true)
    (s.sampledLine_held b hl)
  have hlow := s.setLine_low b true
  have hne : s.branches[b].sense ≠ sampledSense (s.setLine b true).pins.lineLow[b] := by rw [hlow]; exact hs
  have hq : (s.sampledLine b true).reqs = _ := Ev.sample_reqs (e := (s.setLine b true).begin) hl hne
  rw [show (s.setLine b true).begin.pins.lineLow[b] = true from hlow, if_pos rfl] at hq
  exact ⟨rs, by rw [State.lineEvent, hr, hq]; rfl, hP⟩

theorem State.lineEvent_clears (hl : s.branches[b].latch = false) (hs : s.branches[b].sense = .external) :
    ∃ rs, (s.lineEvent b false).reqs = .clear (.branch b) .lineExternal :: rs ∧ ∀ r ∈ rs, r.sparing .lineExternal := by
  obtain ⟨rs, hr, hP⟩ := Ev.sourcesChanged_sparing (s.setLine b false) (s.sampledLine b false)
  have hlow := s.setLine_low b false
  have hne : s.branches[b].sense ≠ sampledSense (s.setLine b false).pins.lineLow[b] := by
    rw [hlow, hs]
    decide
  have hq : (s.sampledLine b false).reqs = _ := Ev.sample_reqs (e := (s.setLine b false).begin) hl hne
  rw [show (s.setLine b false).begin.pins.lineLow[b] = false from hlow, if_neg Bool.false_ne_true,
    if_pos (show (s.setLine b false).begin.branches[b].sense = .external from hs)] at hq
  exact ⟨rs, by rw [State.lineEvent, hr, hq]; rfl, hP⟩

/-- A sense that stays as it is asks nothing of the alarm list. -/
theorem State.lineEvent_reqs_of_same (h : s.branches[b].sampled low = s.branches[b].sense) : (s.lineEvent b low).reqs = [] := by
  have hs : s.sampledLine b low = (s.setLine b low).begin := Ev.sample_self ((s.setLine_low b low).symm ▸ h)
  rw [State.lineEvent, hs]
  exact congrArg Ev.reqs (s.setLine b low).begin.sourcesChanged_self

theorem State.lineEvent_alarms (hb : s.bankPending = false) :
    ∃ u : State, u.alarms = s.alarms ∧ u.uptime = s.uptime
      ∧ (s.lineEvent b low).settle.alarms = (u.takeReqs false (s.lineEvent b low).reqs).alarms :=
  (s.lineSample_followed b low).settle_alarms hb

/-- A line that becomes EXTERNAL has its notice listed, or marked where the list is full of unacknowledged entries. -/
theorem State.lineSample_raised (hb : s.bankPending = false) (hl : s.branches[b].latch = false)
    (hs : s.branches[b].sense ≠ .external) (hA : s.alarms.Absent (.branch b) .lineExternal) :
    (s.alarms.entries.length < 64 ∨ (∃ x ∈ s.alarms.entries, x.ackBy ≠ none) →
      (s.lineEvent b true).settle.alarms.entry (.branch b) .lineExternal =
        some ⟨.branch b, .lineExternal, s.uptime, true, none, 1⟩)
    ∧ (s.alarms.entries.length = 64 → (∀ x ∈ s.alarms.entries, x.ackBy = none) →
      (s.lineEvent b true).settle.alarms.mark (.branch b) .lineExternal = some ⟨.branch b, .lineExternal, none⟩) := by
  obtain ⟨u, hu, ht, hset⟩ := s.lineEvent_alarms (b := b) (low := true) hb
  obtain ⟨rs, hreqs, hrs⟩ := s.lineEvent_raises hl hs
  have hall : ∀ r ∈ (s.lineEvent b true).reqs, ∃ j k, r = .raise j k := fun r hr => by
    rw [hreqs] at hr
    rcases List.mem_cons.mp hr with rfl | hr
    · exact ⟨_, _, rfl⟩
    · obtain ⟨j, k, rfl, -⟩ := hrs r hr
      exact ⟨j, k, rfl⟩
  rw [State.takeReqs_raises u hall, hreqs, List.foldl_cons] at hset
  have later : ∀ {w : State}, (∀ x ∈ (w.alarms.ofPair (.branch b) .lineExternal).1, x.ackBy = none) →
      (rs.foldl State.takeReq w).alarms.ofPair (.branch b) .lineExternal = w.alarms.ofPair (.branch b) .lineExternal :=
    State.raises_ofPair hrs
  rw [← hu] at hA
  rw [hset, Alarms.entry_eq, Alarms.mark_eq, ← hu, ← ht]
  refine ⟨fun hroom => ?_, fun hfull hun => ?_⟩
  · have hp : (u.takeReq (.raise (.branch b) .lineExternal)).alarms.ofPair (.branch b) .lineExternal = _ :=
      State.takeRaise_listed hA hroom
    rw [later (w := u.takeReq (.raise (.branch b) .lineExternal)) (by rw [hp]; simp), hp]
    rfl
  · have hp : (u.takeReq (.raise (.branch b) .lineExternal)).alarms.ofPair (.branch b) .lineExternal = _ :=
      State.takeRaise_marked hA hfull hun
    rw [later (w := u.takeReq (.raise (.branch b) .lineExternal)) (by rw [hp]; exact nofun), hp]
    rfl

theorem State.lineSample_cleared (hb : s.bankPending = false) (ha : s.alarms.Wf) (hl : s.branches[b].latch = false)
    (hs : s.branches[b].sense = .external) : (s.lineEvent b false).settle.alarms.Absent (.branch b) .lineExternal := by
  obtain ⟨u, hu, -, hset⟩ := s.lineEvent_alarms (b := b) (low := false) hb
  obtain ⟨rs, hreqs, hrs⟩ := s.lineEvent_clears hl hs
  rw [Alarms.Absent, hset, hreqs]
  refine State.takeReqs_absent rfl _ (hu ▸ ha.clearable rfl) (fun r hr => ?_) (.inr List.mem_cons_self)
  rcases List.mem_cons.mp hr with rfl | hr
  · trivial
  · exact hrs r hr

theorem State.lineSample_alarms_of_same (hb : s.bankPending = false) (h : s.branches[b].sampled low = s.branches[b].sense) :
    (s.lineEvent b low).settle.alarms = s.alarms := by
  obtain ⟨u, hu, -, hset⟩ := s.lineEvent_alarms (b := b) (low := low) hb
  rw [hset, State.lineEvent_reqs_of_same h, State.takeReqs_nil, hu]

end Sample

/-- Settles O52: the sample, its alarm requests, and the doors that follow the sense. -/
theorem linesAreSampled : Obligations.LinesAreSampled := by
  intro s b low hpow
  refine ⟨(s.lineEvent b low).settle, congrArg Host.Outcome.next (if_pos hpow), (s.lineSample_followed b low).ordersFollow,
    s.lineSample_outer b low, fun hb ha => ⟨?_, ?_, fun hsame => ?_⟩⟩
  · rintro hl rfl hs hen hmn
    exact State.lineSample_raised hb hl hs (.of_none hen hmn)
  · rintro hl rfl hs
    exact (State.lineSample_cleared hb ha hl hs).unlisted
  · refine State.lineSample_alarms_of_same hb ?_
    unfold Branch.sampled
    split
    · rfl
    · next hl => exact (hsame.resolve_left hl).symm

end Sys2Proof.Machine
end

section
/-! SUPPORT. The flow that a door commits (R47, R48): no operation on its record but an admission makes it more. -/

namespace Sys2Proof.Machine

open Sys2Proof

/-! ### Sums -/

theorem total_append {α : Type} (f : α → Nat) (l l' : List α) : total f (l ++ l') = total f l + total f l' := by
  induction l with
  | nil => simp [total]
  | cons x xs ih => simp [total, ih, Nat.add_assoc]

theorem total_le {α : Type} {f g : α → Nat} {l : List α} (h : ∀ x ∈ l, f x ≤ g x) : total f l ≤ total g l := by
  induction l with
  | nil => exact Nat.le_refl _
  | cons x xs ih => exact Nat.add_le_add (h x (by simp)) (ih fun y hy => h y (by simp [hy]))

theorem total_filter_le {α : Type} (f : α → Nat) (p : α → Bool) (l : List α) : total f (l.filter p) ≤ total f l := by
  induction l with
  | nil => exact Nat.le_refl _
  | cons x xs ih =>
    rw [List.filter_cons, total]
    split
    · exact Nat.add_le_add_left ih _
    · exact Nat.le_add_left_of_le ih

theorem total_flatMap_le {α : Type} {f : α → Nat} {g : α → List α} (h : ∀ x, total f (g x) ≤ f x) (l : List α) :
    total f (l.flatMap g) ≤ total f l := by
  induction l with
  | nil => exact Nat.le_refl _
  | cons x xs ih =>
    rw [List.flatMap_cons, total_append]
    exact Nat.add_le_add (h x) ih

/-! ### Leaving ONLINE (R10, R66, R67) -/

theorem linkLostHold_draw (now : Time) (draw : Nat) (start : Time) (allowed : Nat) :
    total Hold.draw (linkLostHold now draw start allowed) ≤ draw := by
  unfold linkLostHold
  split
  · exact Nat.zero_le _
  · exact Nat.le_refl _

theorem Hold.convert_draw (now : Time) (h : Hold) : total Hold.draw (h.convert now) ≤ h.draw := by
  unfold Hold.convert
  split
  · exact Nat.le_refl _
  · exact Nat.zero_le _
  · exact linkLostHold_draw _ _ _ _

theorem Door.convertHalts_committed (now : Time) (r : Door) : (r.convertHalts now).committed ≤ r.committed :=
  Nat.add_le_add_left (total_flatMap_le (Hold.convert_draw now) r.holds) _

/-- The record commits no more for the same holds where the draw of its move is no more. -/
theorem Door.committed_le_of_holds {x y : Door} (hh : y.holds = x.holds) (hm : y.move.draw ≤ x.move.draw) :
    y.committed ≤ x.committed := by
  unfold Door.committed Door.held
  rw [hh]
  exact Nat.add_le_add_right hm _

theorem Door.leavePhase_committed (now : Time) (r : Door) : (r.leavePhase now).committed ≤ r.committed := by
  unfold Door.leavePhase
  split
  · exact Nat.le_refl _
  · exact Door.committed_le_of_holds rfl (Nat.zero_le _)
  · next m _ hm =>
    have := linkLostHold_draw now m.draw m.start m.allowance
    simp only [Door.committed, Door.held, total_append, Move.draw, hm]
    omega
  · exact Door.committed_le_of_holds rfl (Nat.zero_le _)
  · exact Nat.le_refl _

theorem Door.leaveOnline_committed (now : Time) (dest : LinkState) (r : Door) :
    (r.leaveOnline now dest).committed ≤ r.committed := by
  unfold Door.leaveOnline
  split
  · exact Nat.le_trans ((r.leavePhase now).convertHalts_committed now) (r.leavePhase_committed now)
  · exact Nat.le_refl _

theorem Door.bind_committed (now : Time) (a : Nat) (r : Door) : (r.bind now a).committed ≤ r.committed :=
  r.leaveOnline_committed now .pending

theorem Door.unbind_committed (now : Time) (r : Door) : (r.unbind now).committed ≤ r.committed :=
  Nat.le_trans ((r.leaveOnline now .unbound).convertHalts_committed now) (r.leaveOnline_committed now .unbound)

theorem Door.missed_committed (now : Time) (r : Door) : (r.missed now).committed ≤ r.committed := by
  unfold Door.missed
  split
  · exact Door.leaveOnline_committed now .lost _
  · exact Nat.le_refl _

theorem Door.Rebound.committed {now : Time} {r r' : Door} (h : r.Rebound now r') : r'.committed ≤ r.committed := by
  obtain ⟨c, rfl | ⟨a, rfl⟩⟩ := h
  · exact Nat.le_refl _
  · exact r.bind_committed now a

/-! ### A report (R11, R58, R67) -/

theorem Door.closeChecked_committed (held : Bool) (now : Time) (o : Origin) (x : Door) :
    (x.closeChecked held now o).committed = x.committed := by
  unfold Door.closeChecked
  repeat' split
  all_goals rfl

/-- A motion takes over the draw of its admission (R58). -/
theorem Door.deliver_draw (now : Time) (c : Cmd) (q0 : Nat) (x : Door) : (x.deliver now c q0).move.draw = x.move.draw := by
  unfold Door.deliver
  split
  · next hm => split <;> simp [Move.draw, hm]
  · next hm => split <;> simp [Move.draw, hm, Admission.toMotion]
  · rfl

theorem Door.echoed_committed (now : Time) (r : Report) (x : Door) : (x.echoed now r).committed ≤ x.committed := by
  unfold Door.echoed
  split
  · rw [Door.deliver_eq]
    unfold Door.committed
    rw [Door.deliver_draw]
    exact Nat.add_le_add_left (total_filter_le _ _ _) _
  · exact Nat.le_refl _

theorem Door.haltedBy_committed (held : Bool) (now : Time) (m : Motion) (k : AlarmKind) (x : Door) :
    (x.haltedBy held now m k).committed ≤ x.committed := by
  have h : ∀ y : Door, y.holds = x.holds → y.move = .none → y.committed ≤ x.committed := fun y hh hm =>
    Door.committed_le_of_holds hh (by rw [hm]; exact Nat.zero_le _)
  unfold Door.haltedBy
  dsimp only
  repeat' split
  all_goals exact h _ rfl rfl

theorem Door.endTested_committed (held : Bool) (now : Time) (tolerance : Nat) (m : Motion) (r : Report) (x : Door)
    (hx : x.move = .started m) : (x.endTested held now tolerance m r).committed ≤ x.committed := by
  have close : ∀ y : Door, y.committed ≤ x.committed → (y.closeChecked held now .order).committed ≤ x.committed := fun y h =>
    (y.closeChecked_committed held now .order).trans_le h
  unfold Door.endTested
  split
  · exact close _ (Door.committed_le_of_holds rfl (Nat.zero_le _))
  split
  · exact close _ (Door.committed_le_of_holds rfl (Nat.zero_le _))
  split
  · exact close _ (x.haltedBy_committed held now m _)
  split
  · exact close _ (x.haltedBy_committed held now m _)
  · exact Door.committed_le_of_holds rfl (by rw [hx]; exact Nat.le_refl _)

theorem Door.motioned_committed (held : Bool) (now : Time) (tolerance : Nat) (r : Report) (x : Door) :
    (x.motioned held now tolerance r).committed ≤ x.committed := by
  unfold Door.motioned
  split
  · next m hm => exact x.endTested_committed held now tolerance m r hm
  · split
    · exact Door.committed_le_of_holds rfl (Nat.zero_le _)
    · exact Nat.le_refl _
  · repeat' split
    all_goals exact Nat.le_refl _

theorem Door.heldBy_committed (x : Door) : x.heldBy.committed ≤ x.committed := by
  unfold Door.heldBy
  split
  case h_4 | h_5 => exact Door.committed_le_of_holds rfl (Nat.zero_le _)
  all_goals exact Nat.le_refl _

theorem Door.handled_committed (held : Bool) (now : Time) (dwell : Nat) (r : Report) (x : Door) :
    (x.handled held now dwell r).committed ≤ x.committed := by
  unfold Door.handled
  split
  · exact x.heldBy_committed
  split
  · split
    · exact Nat.le_refl _
    split
    · rw [Door.closeChecked_committed]
      exact Nat.le_refl _
    · exact Nat.le_refl _
  split
  · exact Nat.le_refl _
  · exact Nat.le_refl _

theorem Door.replied_committed (held : Bool) (now : Time) (v : DoorRec) (g : GroupRec) (r : Report) (x : Door) :
    (x.replied held now v g r).committed ≤ x.committed := by
  have h : (x.judged held now v g r).committed ≤ x.committed :=
    calc (x.judged held now v g r).committed
      _ ≤ (((x.reported r).echoed now r).motioned held now g.lagTolerance r).committed :=
        Door.handled_committed held now v.recloseDwell r _
      _ ≤ ((x.reported r).echoed now r).committed := Door.motioned_committed held now g.lagTolerance r _
      _ ≤ x.committed := (x.reported r).echoed_committed now r
  unfold Door.replied
  split
  · exact (Door.closeChecked_committed held now .order _).trans_le h
  · exact h

/-! ### Order set and order release (R38, R40, R67) -/

theorem Door.haltHolds_committed (r : Door) : total Hold.draw r.haltHolds = r.committed := by
  unfold Door.haltHolds Door.committed Door.held
  split
  · next h => simp [h, Move.draw]
  · next h => simp [h, Move.draw, total_append, total, Nat.add_comm]
  · next h => simp [h, Move.draw, total_append, total, Nat.add_comm]

theorem Door.stopped_committed (r : Door) : r.stopped.committed ≤ r.committed := by
  unfold Door.stopped
  split
  · exact Nat.le_refl _
  · exact Door.committed_le_of_holds rfl (Nat.zero_le _)
  · next h => simp [Door.committed, Door.held, h, Move.draw, total_append, total, Nat.add_comm]
  · next h => simp [Door.committed, Door.held, h, Move.draw, total_append, total, Nat.add_comm]
  · exact Nat.le_refl _
  · exact Nat.le_refl _

theorem Door.withdrawn_committed (r : Door) : r.withdrawn.committed ≤ r.committed := by
  have h : r.openDropped.committed ≤ r.committed := by
    unfold Door.openDropped
    split
    · split
      case h_2 => exact r.stopped_committed
      all_goals exact Nat.le_refl _
    · exact Nat.le_refl _
  rw [Door.withdrawn_eq]
  split <;> exact h

theorem Door.released_committed (r : Door) : r.released.committed ≤ r.committed := by
  have h : r.workDropped.committed ≤ r.committed := by
    unfold Door.workDropped
    split
    · split <;> exact Nat.le_refl _
    · split
      · exact Door.committed_le_of_holds rfl (Nat.zero_le _)
      · exact Nat.le_refl _
    all_goals exact Nat.le_refl _
  exact h

end Sys2Proof.Machine
end

section
/-! SUPPORT. Operations that drain flow: the banks stay, and no door commits more than before (R47, R48). Every operation
but an admission and a swap is such. -/

namespace Sys2Proof.Machine

open Sys2Proof

/-- The banks stay, and no door commits more flow than before. -/
structure State.Drains (s t : State) : Prop where
  banks : t.banks = s.banks
  flow : ∀ d : Slot, t.doors[d].committed ≤ s.doors[d].committed

/-- `State.Drains` within an event. -/
abbrev Ev.Drains (e e' : Ev) : Prop := State.Drains e.toState e'.toState

/-! ### The figures of a group (R46, R47) -/

theorem State.groupDoors_congr {s t : State} (h : t.activeSet = s.activeSet) (g : GroupId) : t.groupDoors g = s.groupDoors g := by
  simp only [State.groupDoors, State.fittedDoors, State.doorRec_congr h]

theorem State.budget_congr {s t : State} (h : t.activeSet = s.activeSet) (g : GroupId) : t.budget g = s.budget g := by
  simp only [State.budget, State.groupRec, State.activeRecord, h]

theorem State.fitted_congr {s t : State} (h : t.activeSet = s.activeSet) (d : Slot) : t.fitted d = s.fitted d := by
  simp only [State.fitted, State.doorRec_congr h]

/-- Figures within the budget stay so where the set stays and no door commits more. -/
theorem State.FlowWf.of_le {s t : State} (h : s.FlowWf) (hs : t.activeSet = s.activeSet)
    (hd : ∀ d : Slot, t.doors[d].committed ≤ s.doors[d].committed) : t.FlowWf := by
  refine ⟨fun g => ?_, fun d hf => ?_⟩
  · calc t.committed g
      _ = total (fun p => t.doors[p.1].committed) (s.groupDoors g) := by rw [State.committed, State.groupDoors_congr hs]
      _ ≤ s.committed g := total_le fun p _ => hd p.1
      _ ≤ s.budget g := h.1 g
      _ = t.budget g := (State.budget_congr hs g).symm
  · have h0 := h.2 d ((State.fitted_congr hs d).symm.trans hf)
    exact Nat.le_zero.mp (h0 ▸ hd d)

theorem total_eq_zero {α : Type} {f : α → Nat} {l : List α} (h : ∀ x ∈ l, f x = 0) : total f l = 0 := by
  induction l with
  | nil => rfl
  | cons x xs ih => rw [total, h x (by simp), ih fun y hy => h y (by simp [hy])]

/-- Doors that commit nothing are within every budget. -/
theorem State.FlowWf.of_zero {s : State} (h : ∀ d : Slot, s.doors[d].committed = 0) : s.FlowWf := by
  refine ⟨fun g => ?_, fun d _ => h d⟩
  rw [State.committed, total_eq_zero fun p _ => h p.1]
  exact Nat.zero_le _

namespace State.Drains

variable {s t u : State}

theorem refl (s : State) : s.Drains s := ⟨rfl, fun _ => Nat.le_refl _⟩

theorem trans (h : s.Drains t) (k : t.Drains u) : s.Drains u :=
  ⟨k.banks.trans h.banks, fun d => Nat.le_trans (k.flow d) (h.flow d)⟩

/-- Where banks and doors are the same. -/
theorem of_same (hb : t.banks = s.banks) (hd : t.doors = s.doors) : s.Drains t :=
  ⟨hb, fun d => by rw [hd]⟩

theorem activeSet (h : s.Drains t) : t.activeSet = s.activeSet := by
  rw [State.activeSet_eq, State.activeSet_eq, h.banks]

theorem flowWf (h : s.Drains t) (hs : s.FlowWf) : t.FlowWf := hs.of_le h.activeSet h.flow

end State.Drains

namespace Ev.Drains

variable {e e₁ e₂ : Ev}

/-- An operation on one door that drains its record. -/
theorem of_touches {d : Slot} (h : Ev.Touches d e₁ e₂) (hd : e₂.doors[d].committed ≤ e₁.doors[d].committed) : e₁.Drains e₂ := by
  refine ⟨h.banks, fun x => ?_⟩
  by_cases hx : x = d
  · subst hx
    exact hd
  · rw [h.other hx]

theorem ite {c : Prop} [Decidable c] {a b : Ev} (ha : e.Drains a) (hb : e.Drains b) : e.Drains (if c then a else b : Ev) := by
  split
  · exact ha
  · exact hb

theorem foldl {α : Type} (f : Ev → α → Ev) (h : ∀ (e : Ev) (a : α), e.Drains (f e a)) (l : List α) (e : Ev) :
    e.Drains (l.foldl f e) := by
  induction l generalizing e with
  | nil => exact .refl _
  | cons a l ih => exact (h e a).trans (ih _)

end Ev.Drains

/-! ### Operations on one door -/

section Door

variable (e : Ev) (d : Slot)

theorem Ev.push_drains (r : AlarmReq) : e.Drains (e.push r) := .of_same rfl rfl

theorem Ev.modBranch_drains (b : BranchId) (f : Branch → Branch) : e.Drains (e.modBranch b f) := .of_same rfl rfl

theorem Ev.toPhase_drains (p : Phase) : e.Drains (e.toPhase d p) :=
  .of_touches (e.toPhase_touches d p) (by rw [Ev.toPhase_door]; exact Nat.le_refl _)

theorem Ev.zeroRetry_drains : e.Drains (e.zeroRetry d) :=
  .of_touches (e.zeroRetry_touches d) (by rw [Ev.zeroRetry_door]; exact Nat.le_refl _)

theorem Ev.dropEntry_drains (p : Phase) : e.Drains (e.dropEntry d p) :=
  .of_touches (e.dropEntry_touches d p) (by rw [Ev.dropEntry_door]; exact Nat.le_refl _)

theorem Ev.dropMove_drains (p : Phase) : e.Drains (e.dropMove d p) := by
  refine .of_touches (e.dropMove_touches d p) ?_
  rw [Ev.dropMove_door]
  exact Door.committed_le_of_holds rfl (Nat.zero_le _)

theorem Ev.place_drains (c : Cmd) : e.Drains (e.place d c) := by
  refine .of_touches (e.place_touches d c) ?_
  rw [Ev.place_door]
  split <;> exact Nat.le_refl _

/-- The draw of a move that is halted passes into a hold (R67). -/
theorem Ev.endHalted_drains : e.Drains (e.endHalted d) := by
  refine .of_touches (e.endHalted_touches d) ?_
  rw [Ev.endHalted_door]
  exact Nat.le_of_eq ((Nat.zero_add _).trans e.doors[d].haltHolds_committed)

theorem Ev.enterEnd_drains (k : AlarmKind) (dir : Dir) : e.Drains (e.enterEnd d k dir) :=
  .of_touches (e.enterEnd_touches d k dir) (by rw [Ev.enterEnd_door]; exact Nat.le_refl _)

theorem Ev.enterLevel_drains (k : AlarmKind) : e.Drains (e.enterLevel d k) :=
  .of_touches (e.enterLevel_touches d k) (by rw [Ev.enterLevel_door]; exact Nat.le_refl _)

theorem Ev.endTimeout_drains (dir : Dir) : e.Drains (e.endTimeout d dir) :=
  (e.dropMove_drains d _).trans (Ev.enterEnd_drains _ d _ dir)

theorem Ev.idleZero_drains : e.Drains ((e.toPhase d .idle).zeroRetry d) :=
  (e.toPhase_drains d _).trans (Ev.zeroRetry_drains _ d)

theorem Ev.holdsExpired_drains : e.Drains (e.holdsExpired d) := by
  refine .of_touches (e.modDoor_touches d _) ?_
  rw [Ev.holdsExpired, Ev.modDoor_same]
  exact Nat.add_le_add_left (total_filter_le _ _ _) _

theorem Ev.leadExpired_drains : e.Drains (e.leadExpired d) :=
  (e.place_drains d _).trans (Ev.toPhase_drains _ d _)

theorem Ev.issueExpired_drains (a : Admission) : e.Drains (e.issueExpired d a) :=
  (e.place_drains d _).trans (Ev.endTimeout_drains _ d _)

theorem Ev.takeMiss_drains : e.Drains (e.takeMiss d) := by
  obtain ⟨ht, hd⟩ := e.takeMiss_spec d
  exact .of_touches ht (hd ▸ Door.missed_committed _ _)

theorem Ev.takeReport_drains (v : DoorRec) (r : Report) (h : e.NoRunFor d) : e.Drains (e.takeReport d v r) := by
  obtain ⟨ht, hd⟩ := e.takeReport_spec d v r h
  exact .of_touches ht (hd ▸ Door.replied_committed _ _ _ _ _ _)

theorem Ev.withdrawOpen_drains : e.Drains (e.withdrawOpen d) :=
  .of_touches (e.withdrawOpen_touches d) (by rw [Ev.withdrawOpen_door]; exact Door.withdrawn_committed _)

theorem Ev.orderRelease_drains : e.Drains (e.orderRelease d) :=
  .of_touches (e.orderRelease_touches d) (by rw [Ev.orderRelease_door]; exact Door.released_committed _)

end Door

/-! ### Runs, queue requests, order changes -/

theorem Ev.Rebinds.drains {e e' : Ev} (h : e.Rebinds e') (hb : e'.banks = e.banks) : e.Drains e' :=
  ⟨hb, fun d => (h.rebound d).committed⟩

section Requests

variable (e : Ev) (d : Slot) (b : BranchId)

theorem Ev.closeRun_drains (n : Option Serial) : e.Drains (e.closeRun b n) :=
  (e.closeRun_rebinds b n).drains (e.closeRun_hands (P := fun _ => True) (fun _ _ => trivial) b n).banks

theorem Ev.setFlag_drains (f : EventFlag) : e.Drains (e.setFlag f) := .of_same rfl rfl

theorem Ev.endRun_drains (n : Option Serial) : e.Drains (e.endRun b n) := (e.closeRun_drains b n).trans (Ev.setFlag_drains _ _)

theorem Ev.abortRun_drains : e.Drains (e.abortRun b) := (e.closeRun_drains b none).trans (Ev.setFlag_drains _ _)

theorem Ev.abortFor_drains : e.Drains (e.abortFor d) := by
  unfold Ev.abortFor
  split
  · exact .ite (e.abortRun_drains _) (.refl _)
  · exact .refl _

theorem Ev.request_drains (dir : Dir) (o : Origin) (ba : Basis) : e.Drains (e.request d dir o ba) := by
  have ha := e.abortFor_drains d
  rcases e.request_cases d dir o ba with ⟨h, -⟩ | ⟨-, -, ht, hd⟩
  · rwa [h]
  · exact ha.trans (Ev.Drains.of_touches ht (by rw [hd]; exact Nat.le_refl _))

theorem Ev.needClose_drains (o : Origin) : e.Drains (e.needClose d o) := by
  unfold Ev.needClose
  dsimp only
  exact .ite (.ite (e.toPhase_drains d _) (e.request_drains d _ _ _)) (.refl _)

theorem Ev.dwellExpired_drains : e.Drains (e.dwellExpired d) := by
  unfold Ev.dwellExpired
  dsimp only
  exact .ite ((e.toPhase_drains d _).trans (Ev.request_drains _ d _ _ _)) (e.toPhase_drains d _)

theorem Ev.retryExpired_drains (dir : Dir) (ba : Basis) : e.Drains (e.retryExpired d dir ba) := by
  have idle := e.idleZero_drains d
  have again : ∀ dir ba, e.Drains ((e.toPhase d .idle).request d dir .retry ba) := fun dir ba =>
    (e.toPhase_drains d _).trans (Ev.request_drains _ d _ _ _)
  unfold Ev.retryExpired
  dsimp only
  split
  · exact idle
  · split
    · exact again _ _
    · exact again _ _
    · exact again _ _
    · exact idle

theorem Ev.orderSet_drains : e.Drains (e.orderSet d) := by
  have outcome : ∀ e₁ : Ev, e₁.Drains (e₁.orderOutcome d) := fun e₁ => by
    have h := e₁.needClose_drains d .order
    unfold Ev.orderOutcome
    exact .ite (.ite (h.trans (Ev.enterLevel_drains _ d _)) h) (.refl _)
  exact ((e.abortFor_drains d).trans (Ev.withdrawOpen_drains _ d)).trans (outcome _)

theorem Ev.recompute_drains (before : State) : e.Drains (Ev.recompute before e) := by
  refine Ev.Drains.foldl _ (fun e p => ?_) _ e
  unfold Ev.handOrder
  split
  · exact e.orderSet_drains p.1
  · exact e.orderRelease_drains p.1
  · exact .refl _

theorem Ev.noProgress_drains (r : Run) (again : Ev → Run → Ev) (h : ∀ e r, Ev.Drains e (again e r)) :
    e.Drains (e.noProgress b r again) := by
  unfold Ev.noProgress
  dsimp only
  exact .ite (h _ _) ((e.modBranch_drains b _).trans (Ev.endRun_drains _ b none))

theorem Ev.beginRound_drains (r : Run) : e.Drains (e.beginRound b r) := e.modBranch_drains b _

theorem Ev.sendAssign_drains (r : Run) (serial : Serial) (a : Nat) : e.Drains (e.sendAssign b r serial a) :=
  e.modBranch_drains b _

theorem Ev.takeAnswer_drains (r : Run) (serial : Serial) : e.Drains (e.takeAnswer b r serial) := by
  unfold Ev.takeAnswer
  split
  · exact (e.noProgress_drains b r _ fun e r => e.sendAssign_drains b r _ _).trans (Ev.modBranch_drains _ b _)
  · split
    · exact e.sendAssign_drains b _ _ _
    · exact e.endRun_drains b _

theorem Ev.beginFresh_drains : e.Drains (e.beginFresh b) := by
  unfold Ev.beginFresh
  refine State.Drains.trans (Ev.Drains.foldl (fun (e : Ev) (p : Slot × Nat) => e.modDoor p.1 (Door.unbind e.uptime)) (fun e p => ?_) _ e)
    (Ev.modBranch_drains _ b _)
  exact .of_touches (e.modDoor_touches p.1 _) (by rw [Ev.modDoor_same]; exact Door.unbind_committed _ _)

theorem Ev.pollAnswered_drains (p : Poll) (r : Report) (hb : e.branches[b].isPolling = true) :
    e.Drains (e.pollAnswered b p r) := by
  have h1 := e.modBranch_drains b (Branch.afterPoll p)
  unfold Ev.pollAnswered
  dsimp only
  split
  · next d hd =>
    obtain ⟨v, hv, rfl, -⟩ := State.doorAt_some hd
    rw [hv]
    refine h1.trans (Ev.takeReport_drains _ d v r (State.noRunFor_of_polling hv ?_))
    rw [Ev.modBranch_same]
    exact hb
  · exact h1

theorem Ev.pollMissed_drains (p : Poll) : e.Drains (e.pollMissed b p) := by
  have h1 := e.modBranch_drains b (Branch.afterPoll p)
  unfold Ev.pollMissed
  dsimp only
  split
  · exact h1.trans (Ev.takeMiss_drains _ _)
  · exact h1

/-! ### Panel commands on doors -/

theorem Ev.doorClose_drains : e.Drains (e.doorClose d).1 := by
  have remote : ∀ e : Ev, e.Drains (e.requestRemote d .closing) := fun e => e.request_drains d _ _ _
  unfold Ev.doorClose
  dsimp only
  repeat' split
  case h_1 => exact (e.endHalted_drains d).trans (remote _)
  case h_2 => exact (e.idleZero_drains d).trans (remote _)
  case h_3 => exact remote e
  all_goals exact .refl _

theorem Ev.doorOpen_drains : e.Drains (e.doorOpen d).1 := by
  unfold Ev.doorOpen
  dsimp only
  repeat' split
  case isFalse.isFalse.isFalse.isFalse.isFalse.isFalse => exact e.request_drains d _ _ _
  all_goals exact .refl _

theorem Ev.doorStop_drains : e.Drains (e.doorStop d).1 := by
  unfold Ev.doorStop
  split
  · exact .refl _
  split
  · exact e.dropEntry_drains d _
  · exact (e.place_drains d _).trans (Ev.dropMove_drains _ d _)
  · exact e.endHalted_drains d
  · exact e.idleZero_drains d
  · exact .refl _

theorem Ev.rearm_drains : e.Drains (e.rearm d) := by
  have idle : ∀ p, e.Drains ((e.zeroRetry d).toPhase d p) := fun p =>
    (e.zeroRetry_drains d).trans (Ev.toPhase_drains _ d p)
  unfold Ev.rearm
  exact .ite (.ite (idle _) ((idle _).trans (Ev.needClose_drains _ d _))) (.refl _)

theorem Ev.ackOne_drains (j : Subject) (k : AlarmKind) (src : Station) : e.Drains (e.ackOne j k src) := by
  unfold Ev.ackOne
  dsimp only
  split
  · exact (e.push_drains _).trans (Ev.rearm_drains _ _)
  · exact e.push_drains _

theorem Ev.ackAll_drains (p : PanelRec) (src : Station) : e.Drains (e.ackAll p src) := by
  have h : e.Drains { e with reqs := e.reqs ++ e.alarms.ackAllReqs p src } := .of_same rfl rfl
  exact h.trans (Ev.Drains.foldl _ (fun e d => e.rearm_drains d) _ _)

end Requests

end Sys2Proof.Machine
end

section
/-! SUPPORT. What an event does before its end: flow stays within the budgets, and the banks stay in a state of R161
(R47, R161). -/

namespace Sys2Proof.Machine

open Sys2Proof

/-! ### States of the banks (R161) -/

/-- A bank of a known state that is not ACTIVE takes a state of loading. -/
theorem Banks.StatesWf.put {bs : Banks} (h : bs.StatesWf) {id : BankId} {v : Bank} (ha : (bs.get id).state ≠ .active)
    (he : (bs.get id).state ≠ .empty) (hv : v.state = .empty ∨ v.state = .loading ∨ v.state = .ready) : (bs.put id v).StatesWf := by
  have hv' : v.state ≠ .active := by rcases hv with k | k | k <;> simp [k]
  cases id with
  | a =>
    rcases h with ⟨k, -⟩ | ⟨k, -⟩ | ⟨-, k⟩
    · exact absurd k ha
    · exact .inr (.inl ⟨k, hv'⟩)
    · exact .inr (.inr ⟨hv, k⟩)
  | b =>
    rcases h with ⟨k, -⟩ | ⟨k, -⟩ | ⟨-, k⟩
    · exact .inl ⟨k, hv'⟩
    · exact absurd k ha
    · exact absurd k he

/-- The load target becomes LOADING (R162). -/
theorem Banks.StatesWf.loadTarget {bs : Banks} (h : bs.StatesWf) : (bs.put bs.loadTarget ⟨.loading, [], 0⟩).StatesWf := by
  unfold Banks.loadTarget
  split
  · next ha => exact .inl ⟨ha, by simp [Banks.put]⟩
  · next ha =>
    rcases h with ⟨k, -⟩ | ⟨k, -⟩ | ⟨-, k⟩
    · exact absurd k ha
    · exact .inr (.inl ⟨k, by simp [Banks.put]⟩)
    · exact .inr (.inr ⟨.inr (.inl rfl), k⟩)

/-- Beside an ACTIVE bank the other takes any state but ACTIVE. -/
theorem Banks.setState_statesWf {bs : Banks} {id : BankId} {st : BankState}
    (ha : (bs.get id).state ≠ .active) (hn : bs.activeSet ≠ none) (hst : st ≠ .active) : (bs.setState id st).StatesWf := by
  have hf : bs.a.state = .active ∨ bs.b.state = .active := by
    by_contra k
    simp only [not_or] at k
    exact hn (by simp [Banks.activeSet, Banks.find, k.1, k.2])
  cases id with
  | a => exact .inr (.inl ⟨hf.resolve_left ha, hst⟩)
  | b => exact .inl ⟨hf.resolve_right ha, hst⟩

/-- A swap leaves the incoming bank ACTIVE alone. -/
theorem Banks.StatesWf.swapped {bs : Banks} (h : bs.StatesWf) (id : BankId) : (bs.swapped id).StatesWf := by
  rcases h with ⟨ha, hb⟩ | ⟨hb, ha⟩ | ⟨ha, hb⟩
  · cases id <;> simp [Banks.StatesWf, Banks.swapped, Banks.find, Banks.setState, Banks.put, Banks.get, ha, hb]
  · cases id <;> simp [Banks.StatesWf, Banks.swapped, Banks.find, Banks.setState, Banks.put, Banks.get, ha, hb]
  · have ha' : bs.a.state ≠ .active := by rcases ha with k | k | k <;> simp [k]
    cases id <;> simp [Banks.StatesWf, Banks.swapped, Banks.find, Banks.setState, Banks.put, Banks.get, ha', hb]

/-- Once the PENDING bank is swapped in, none is PENDING (R165). -/
theorem Banks.StatesWf.swapped_pending {bs : Banks} (h : bs.StatesWf) {id : BankId} (hp : bs.find .pending = some id) :
    (bs.swapped id).find .pending = none := by
  have hid := Banks.state_of_find hp
  rcases h with ⟨ha, hb⟩ | ⟨hb, ha⟩ | ⟨ha, hb⟩
  · cases id with
    | a => simp [Banks.get, ha] at hid
    | b => simp [Banks.swapped, Banks.find, Banks.setState, Banks.put, Banks.get, ha]
  · cases id with
    | a => simp [Banks.swapped, Banks.find, Banks.setState, Banks.put, Banks.get, ha, hb]
    | b => simp [Banks.get, hb] at hid
  · cases id with
    | a => rcases ha with k | k | k <;> simp [Banks.get, k] at hid
    | b => simp [Banks.get, hb] at hid

/-! ### What an event prepares -/

/-- Flow within the budgets and legal bank states pass from the first state to the second. -/
structure State.Prepares (s t : State) : Prop where
  flow : s.FlowWf → t.FlowWf
  banks : s.banks.StatesWf → t.banks.StatesWf

/-- `State.Prepares` within an event. -/
abbrev Ev.Prepares (e e' : Ev) : Prop := State.Prepares e.toState e'.toState

namespace State.Prepares

variable {s t u : State}

theorem refl (s : State) : s.Prepares s := ⟨id, id⟩

theorem trans (h : s.Prepares t) (k : t.Prepares u) : s.Prepares u := ⟨k.flow ∘ h.flow, k.banks ∘ h.banks⟩

end State.Prepares

theorem State.Drains.prepares {s t : State} (h : s.Drains t) : s.Prepares t := ⟨h.flowWf, fun k => by rwa [h.banks]⟩

/-- Another state of a bank that is not ACTIVE. -/
theorem Ev.setBanks_prepares (e : Ev) (bs : Banks) (m : Mgr) (hset : bs.activeSet = e.banks.activeSet)
    (hw : e.banks.StatesWf → bs.StatesWf) : e.Prepares { e with banks := bs, mgr := m } :=
  ⟨fun h => h.of_le hset fun _ => Nat.le_refl _, hw⟩

theorem Ev.cancelPending_prepares (e : Ev) : e.Prepares e.cancelPending := by
  unfold Ev.cancelPending
  split
  · next id h =>
    have hs := Banks.state_of_find h
    exact e.setBanks_prepares _ _ (Banks.put_activeSet _ id _ (by rw [hs]; decide) (by simp))
      fun k => k.put (by rw [hs]; decide) (by rw [hs]; decide) (.inr (.inr rfl))
  · exact .refl _

theorem Ev.sourcesChanged_prepares (before : State) (e : Ev) : e.Prepares (e.sourcesChanged before) := by
  have hc : e.Prepares (if before.newlyOrdered e.toState then e.cancelPending else e : Ev) := by
    split
    · exact e.cancelPending_prepares
    · exact .refl _
  exact hc.trans (Ev.recompute_drains _ before).prepares

/-! ### The swap (R4, R166) -/

/-- A swap leaves no move and no hold in a record (R71). -/
theorem swapDoor_committed (now : Time) (old new : Option DoorRec) (r : Door) : (swapDoor now old new r).committed = 0 := by
  unfold swapDoor
  split <;> rfl

theorem Ev.swapRequests_drains (old : State) (hadNone : Bool) (e : Ev) : e.Drains (e.swapRequests old hadNone) := by
  have drops : e.Drains (slots.foldl (fun e d => Ev.swapDrop old e d) e) := by
    refine Ev.Drains.foldl _ (fun e d => ?_) _ e
    unfold Ev.swapDrop
    exact .ite (e.push_drains _) (.refl _)
  have lost : ∀ e : Ev, e.Drains (slots.foldl (fun e d => Ev.swapLost old e d) e) := by
    refine Ev.Drains.foldl _ (fun e d => ?_) _
    unfold Ev.swapLost
    split
    · exact .ite (.refl _) (e.enterLevel_drains d _)
    · exact e.enterLevel_drains d _
    · exact .refl _
  unfold Ev.swapRequests
  dsimp only
  split
  · exact ((drops.trans (Ev.push_drains _ _)).trans (Ev.push_drains _ _)).trans (lost _)
  · exact (drops.trans (Ev.push_drains _ _)).trans (lost _)

theorem Ev.abortRuns_drains (e : Ev) : e.Drains e.abortRuns :=
  Ev.Drains.foldl _ (fun e b => .ite (e.abortRun_drains b) (.refl _)) _ e

/-- What follows the re-derivation in a swap drains it. -/
theorem Ev.swap_drains (e : Ev) (id : BankId) :
    Ev.Drains (e.abortRuns.rederive e.uptime (e.abortRuns.banks.swapped id)) (e.swap id) := by
  rw [Ev.swap_eq]
  exact (Ev.swapRequests_drains _ _ _).trans (Ev.recompute_drains _ _)

theorem Ev.swap_banks (e : Ev) (id : BankId) : (e.swap id).banks = e.banks.swapped id := by
  rw [(e.swap_drains id).banks, Ev.rederive, Ev.modDoors_banks, e.abortRuns_drains.banks]

theorem Ev.swap_prepares (e : Ev) (id : BankId) : e.Prepares (e.swap id) := by
  refine ⟨fun _ => (e.swap_drains id).flowWf (.of_zero fun d => ?_), fun h => ?_⟩
  · rw [Ev.rederive_door]
    exact swapDoor_committed _ _ _ _
  · rw [Ev.swap_banks]
    exact h.swapped id

theorem Ev.swapIfQuiescent_prepares (e : Ev) : e.Prepares e.swapIfQuiescent := by
  unfold Ev.swapIfQuiescent
  split
  · split
    · exact e.swap_prepares _
    · exact .refl _
  · exact .refl _

/-- After the look for a swap, a PENDING bank waits (R165). -/
theorem Ev.swapIfQuiescent_waits (e : Ev) (h : e.banks.StatesWf) : e.swapIfQuiescent.PendingWaits := by
  unfold Ev.swapIfQuiescent
  split
  · next id hid =>
    split
    · intro hp
      rw [State.bankPending, Ev.swap_banks, h.swapped_pending hid] at hp
      cases hp
    · next hq => exact fun _ => by simpa using hq
  · next hn => exact fun hp => by rw [State.bankPending, hn] at hp; cases hp

end Sys2Proof.Machine
end

section
/-! SUPPORT. The arbiters (R54) keep the committed flow within the budgets (R47), and leave no head that fits. -/

namespace Sys2Proof.Machine

open Sys2Proof

/-! ### Admission within the budget -/

/-- A sum in which one element alone grows. -/
theorem total_le_add {α β : Type} {f g : α → Nat} {key : α → β} {k : β} {c : Nat} {l : List α} (hl : (l.map key).Nodup)
    (h : ∀ x ∈ l, key x ≠ k → f x ≤ g x) (hk : ∀ x ∈ l, key x = k → f x ≤ g x + c) : total f l ≤ total g l + c := by
  induction l with
  | nil => exact Nat.zero_le _
  | cons x xs ih =>
    simp only [List.map_cons, List.nodup_cons, List.mem_map, not_exists, not_and] at hl
    by_cases hx : key x = k
    · have hrest : total f xs ≤ total g xs := total_le fun y hy =>
        h y (by simp [hy]) fun hyk => hl.1 y hy (hyk.trans hx.symm)
      have := hk x (by simp) hx
      simp only [total]
      omega
    · have h1 := h x (by simp) hx
      have h2 := ih hl.2 (fun y hy => h y (by simp [hy])) fun y hy => hk y (by simp [hy])
      simp only [total]
      omega

theorem State.groupDoors_nodup (s : State) (g : GroupId) : ((s.groupDoors g).map Prod.fst).Nodup :=
  s.fittedDoors_nodup.sublist (List.filter_sublist.map _)

theorem State.mem_groupDoors (s : State) (g : GroupId) (d : Slot) (v : DoorRec) :
    (d, v) ∈ s.groupDoors g ↔ s.doorRec d = some v ∧ v.group = g := by
  simp [State.groupDoors, State.mem_fittedDoors]

/-- An admission adds the draw of its door to what the door's holds commit (R47). -/
theorem Ev.admitHead_committed (e : Ev) (q : Queued) :
    (e.admitHead q).doors[q.slot].committed ≤ e.doors[q.slot].committed + q.record.draw := by
  rw [Ev.admitHead_door]
  simp only [Door.committed, Door.held, State.admittedAt, State.admitted, Move.draw, State.admissionOf]
  omega

/-- An admission of a head that fits stays within the budget (R47, R50, R54). -/
theorem Ev.admitHead_flowWf {e : Ev} {g : GroupId} {q : Queued} (hq : q ∈ e.queue g) (hfit : (q.record.draw : Int) ≤ e.free g)
    (h : e.FlowWf) : (e.admitHead q).FlowWf := by
  obtain ⟨hv, hg, -⟩ := State.mem_queue.mp hq
  have ht := e.admitHead_touches q
  have hset : (e.admitHead q).activeSet = e.activeSet := ht.sources.set
  refine ⟨fun g' => ?_, fun d hd => ?_⟩
  · rw [State.budget_congr hset, State.committed, State.groupDoors_congr hset]
    by_cases hgg : g' = g
    · subst hgg
      have hle : total (fun p => (e.admitHead q).doors[p.1].committed) (e.groupDoors g') ≤ e.committed g' + q.record.draw :=
        total_le_add (e.groupDoors_nodup g') (fun p _ hp => by rw [ht.other hp])
          fun p _ hp => by
            obtain ⟨d, v⟩ := p
            obtain rfl : d = q.slot := hp
            exact e.admitHead_committed q
      simp only [State.free] at hfit
      omega
    · refine (total_le fun p hp => ?_ : _ ≤ e.committed g').trans (h.1 g')
      obtain ⟨hpv, hpg⟩ := (e.mem_groupDoors g' p.1 p.2).mp hp
      have hne : p.1 ≠ q.slot := by
        intro k
        rw [k, hv] at hpv
        exact hgg (hpg.symm.trans ((congrArg DoorRec.group (Option.some.inj hpv)).symm.trans hg))
      rw [ht.other hne]
  · rw [State.fitted_congr hset] at hd
    have hne : d ≠ q.slot := by
      rintro rfl
      rw [State.fitted_of_doorRec hv] at hd
      cases hd
    rw [ht.other hne]
    exact h.2 d hd

theorem Ev.arbiter_flowWf (g : GroupId) (n : Nat) {e : Ev} (h : e.FlowWf) : (Ev.arbiter g n e).FlowWf := by
  induction n generalizing e with
  | zero => exact h
  | succ n ih =>
    unfold Ev.arbiter
    split
    · next q hq =>
      split
      · next hfit => exact ih (Ev.admitHead_flowWf (firstBy_mem hq) hfit h)
      · exact h
    · exact h

theorem Ev.arbiters_flowWf {e : Ev} (h : e.FlowWf) : e.arbiters.FlowWf := by
  unfold Ev.arbiters
  split
  · exact h
  · exact List.foldlRecOn (motive := fun e : Ev => e.FlowWf) groupIds (fun e g => Ev.arbiter g 64 e) h
      fun _ he g _ => Ev.arbiter_flowWf g 64 he

/-! ### No head that fits is left (R54) -/

/-- The head of the group's queue asks for more than the free figure. -/
def State.HeadBlocked (s : State) (g : GroupId) : Prop := ∀ q ∈ s.queueHead g, s.free g < (q.record.draw : Int)

/-- An admission takes its entry, and no other, out of the queue (R56). -/
theorem Ev.admitHead_queue (e : Ev) (q : Queued) (g : GroupId) :
    (e.admitHead q).queue g = (e.queue g).filter fun x => x.slot != q.slot := by
  have ht := e.admitHead_touches q
  rw [State.queue, State.groupDoors_congr ht.sources.set, State.queue, List.filter_filterMap]
  refine List.filterMap_congr fun p _ => ?_
  obtain ⟨d, v⟩ := p
  by_cases hp : d = q.slot
  · subst hp
    simp only [Ev.admitHead_door, State.admittedAt_entry]
    cases e.doors[q.slot].entry <;> simp [Option.filter]
  · simp only [ht.other hp]
    cases e.doors[d].entry <;> simp [Option.filter, hp]

theorem Ev.admitHead_queue_length {e : Ev} {q : Queued} {g : GroupId} (hq : q ∈ e.queue g) :
    ((e.admitHead q).queue g).length < (e.queue g).length := by
  rw [Ev.admitHead_queue, List.length_filter_lt_length_iff_exists]
  exact ⟨q, hq, by simp⟩

theorem State.queue_length (s : State) (g : GroupId) : (s.queue g).length ≤ 64 :=
  calc (s.queue g).length
    _ ≤ (s.groupDoors g).length := List.length_filterMap_le _ _
    _ ≤ s.fittedDoors.length := List.length_filter_le _ _
    _ ≤ slots.length := List.length_filterMap_le _ _
    _ = 64 := List.length_finRange

/-- An arbiter with as many turns as its queue is long leaves no head that fits. -/
theorem Ev.arbiter_headBlocked (g : GroupId) (n : Nat) (e : Ev) (h : (e.queue g).length ≤ n) :
    (Ev.arbiter g n e).HeadBlocked g := by
  induction n generalizing e with
  | zero =>
    intro q hq
    have hm : q ∈ e.queue g := firstBy_mem hq
    rw [List.eq_nil_of_length_eq_zero (Nat.le_zero.mp h)] at hm
    cases hm
  | succ n ih =>
    unfold Ev.arbiter
    split
    · next q hq =>
      split
      · exact ih _ (Nat.le_of_lt_succ (Nat.lt_of_lt_of_le (Ev.admitHead_queue_length (firstBy_mem hq)) h))
      · next hfit =>
        intro q' hq'
        obtain rfl : q = q' := Option.some.inj (hq.symm.trans hq')
        exact Int.not_le.mp hfit
    · next hn =>
      intro q hq
      rw [hn] at hq
      cases hq

/-- The arbiter of a group leaves the doors of the others. -/
theorem Ev.arbiter_other (g : GroupId) (n : Nat) (e : Ev) {d : Slot} {v : DoorRec} (hv : e.doorRec d = some v)
    (hg : v.group ≠ g) : (Ev.arbiter g n e).doors[d] = e.doors[d] := by
  induction n generalizing e with
  | zero => rfl
  | succ n ih =>
    rw [Ev.arbiter]
    cases hq : e.queueHead g with
    | none => rfl
    | some q =>
      dsimp only
      by_cases hfit : (q.record.draw : Int) ≤ e.free g
      · have ht := e.admitHead_touches q
        obtain ⟨hqv, hqg, -⟩ := State.mem_queue.mp (firstBy_mem hq)
        have hne : d ≠ q.slot := by
          rintro rfl
          exact hg ((congrArg DoorRec.group (Option.some.inj (hv.symm.trans hqv))).trans hqg)
        rw [if_pos hfit, ih _ ((ht.doorRec d).trans hv), ht.other hne]
      · rw [if_neg hfit]

/-- Whether a head is blocked depends on the doors of its group only. -/
theorem Ev.Arbitrates.headBlocked {e e' : Ev} (h : e.Arbitrates e') {g : GroupId}
    (hd : ∀ (d : Slot) (v : DoorRec), e.doorRec d = some v → v.group = g → e'.doors[d] = e.doors[d])
    (hb : e.HeadBlocked g) : e'.HeadBlocked g := by
  have hset := h.sources.set
  have hdoor : ∀ p ∈ e.groupDoors g, e'.doors[p.1] = e.doors[p.1] := fun p hp =>
    let ⟨hv, hg⟩ := (e.mem_groupDoors g p.1 p.2).mp hp
    hd p.1 p.2 hv hg
  have total_same : ∀ f : Door → DoorRec → Nat, total (fun p => f e'.doors[p.1] p.2) (e'.groupDoors g) =
      total (fun p => f e.doors[p.1] p.2) (e.groupDoors g) := fun f => by
    rw [State.groupDoors_congr hset]
    exact Nat.le_antisymm (total_le fun p hp => by rw [hdoor p hp]) (total_le fun p hp => by rw [hdoor p hp])
  have hfree : e'.free g = e.free g := by
    rw [State.free, State.free, State.budget_congr hset]
    have h1 : e'.committed g = e.committed g := total_same fun w _ => w.committed
    have h2 : e'.unadmitted g = e.unadmitted g := total_same fun w v => if w.countsUnadmitted then v.draw else 0
    rw [h1, h2]
  have hqueue : e'.queue g = e.queue g := by
    rw [State.queue, State.groupDoors_congr hset, State.queue]
    exact List.filterMap_congr fun p hp => by rw [hdoor p hp]
  have hbefore : e'.queueBefore = e.queueBefore := by
    rw [h.rest]
    rfl
  intro q hq
  rw [State.queueHead, hqueue, hbefore] at hq
  rw [hfree]
  exact hb q hq

/-- The arbiters, one after the other, block every head (R54). -/
theorem Ev.arbiters_arbitrated (e : Ev) : e.arbiters.Arbitrated := by
  have other : ∀ (g g' : GroupId) (e : Ev), g' ≠ g → e.HeadBlocked g' → (Ev.arbiter g 64 e).HeadBlocked g' := fun g g' e hg =>
    (Ev.arbiter_arbitrates g 64 e).headBlocked fun d v hv hvg => Ev.arbiter_other g 64 e hv (hvg ▸ hg)
  have fold : ∀ (gs : List GroupId) (e : Ev) (g : GroupId), g ∈ gs ∨ e.HeadBlocked g →
      (gs.foldl (fun e g => Ev.arbiter g 64 e) e).HeadBlocked g := by
    intro gs
    induction gs with
    | nil => exact fun e g h => h.resolve_left (List.not_mem_nil)
    | cons x gs ih =>
      intro e g h
      refine ih _ g ?_
      by_cases hx : g = x
      · exact .inr (hx ▸ Ev.arbiter_headBlocked g 64 e (e.queue_length g))
      · exact h.imp (fun k => (List.mem_cons.mp k).resolve_left hx) (other x g e hx)
  intro hb g
  rw [e.arbiters_arbitrates.rest] at hb
  have hb' : ¬e.bankPending = true := Bool.eq_false_iff.mp hb
  rw [Ev.arbiters, if_neg hb']
  exact fold groupIds e g (.inl (List.mem_finRange g))

theorem Ev.arbiters_banks (e : Ev) : e.arbiters.banks = e.banks := by rw [e.arbiters_arbitrates.rest]

/-- While a bank is PENDING the arbiters leave every door waiting (R55). -/
theorem Ev.arbiters_waits {e : Ev} (h : e.PendingWaits) : e.arbiters.PendingWaits := by
  by_cases hb : e.bankPending = true
  · rwa [Ev.arbiters, if_pos hb]
  · intro hp
    rw [State.bankPending, Ev.arbiters_banks] at hp
    exact absurd hp hb

end Sys2Proof.Machine
end

section
/-! SUPPORT. The end of an event leaves the part settled (R54, R93, R137, R165) and its flow within the budgets (R47). -/

namespace Sys2Proof.Machine

open Sys2Proof

/-! ### Banks, queues and budgets -/

/-- The banks are in a state of R161, a PENDING bank waits, and no head that fits is left. -/
def State.Arranged (s : State) : Prop := s.banks.StatesWf ∧ s.PendingWaits ∧ s.Arbitrated

theorem State.SameWorks.arranged {s t : State} (h : s.SameWorks t) (hs : s.Arranged) : t.Arranged := by
  rw [h]
  exact hs

theorem State.SameWorks.flowWf {s t : State} (h : s.SameWorks t) (hs : s.FlowWf) : t.FlowWf :=
  hs.of_le h.sources.set fun d => by rw [h.doors]

theorem Ev.arbiters_arranged {e : Ev} (h : e.banks.StatesWf) : e.swapIfQuiescent.arbiters.Arranged := by
  refine ⟨?_, Ev.arbiters_waits (e.swapIfQuiescent_waits h), Ev.arbiters_arbitrated _⟩
  rw [Ev.arbiters_banks]
  exact e.swapIfQuiescent_prepares.banks h

/-- A part without entries, and without a PENDING bank, has no admission and no swap to make. -/
theorem State.arranged_of_idle {s : State} (h : s.banks.StatesWf) (hp : s.bankPending = false)
    (he : ∀ d : Slot, s.doors[d].entry = none) : s.Arranged := by
  refine ⟨h, fun k => absurd (hp.symm.trans k) Bool.false_ne_true, fun _ g q hq => ?_⟩
  obtain ⟨-, -, hen⟩ := State.mem_queue.mp (firstBy_mem hq)
  rw [he] at hen
  cases hen

/-! ### The live image (R93) -/

/-- The image is derived from the doors, the sources of the orders and the alarms (R88 to R91). -/
theorem State.picture_congr {s t : State} (hs : s.SameSources t) (hd : t.doors = s.doors) (ha : t.alarms = s.alarms) :
    t.picture = s.picture := by
  have hcode : ∀ d : Slot, t.doorCode d = s.doorCode d := fun d => by
    simp only [State.doorCode, hs.fitted, hs.orderHeld, hd]
  have halarm : ∀ d : Slot, t.alarmFlag d = s.alarmFlag d := fun d => by
    simp only [State.alarmFlag, hs.fitted, ha]
  have hline : ∀ d : Slot, t.lineFlag d = s.lineFlag d := fun d => by
    simp only [State.lineFlag, hs.doorRec, State.lineHeld, hs.sense]
  have hdoor : ∀ d : Slot, t.doorByte d = s.doorByte d := fun d => by
    simp only [State.doorByte, hcode, State.orderFlag, hs.orderHeld, hline, halarm, State.queuedFlag, hs.fitted, hd]
  have hflag : t.alarmFlag = s.alarmFlag := funext halarm
  have hzone : ∀ z : ZoneId, t.zoneByte z = s.zoneByte z := fun z => by
    simp only [State.zoneByte, State.zoneDoors, hs.fittedDoors, State.zoneSummary, hcode, hflag, hs.zones, hd]
    rfl
  simp only [State.picture, List.map_congr_left fun d _ => hdoor d, List.map_congr_left fun z _ => hzone z]

/-- A freeze copies the live image and leaves it (R96). -/
theorem State.judgeFreeze_liveWf {s : State} (h : s.LiveWf) : s.judgeFreeze.LiveWf := by
  unfold State.judgeFreeze
  split <;> exact h

theorem State.updateLive_liveWf (s : State) : s.updateLive.LiveWf := by
  unfold State.updateLive
  split
  · next h => exact h.symm
  · exact State.judgeFreeze_liveWf rfl

/-! ### Polls (R137) -/

theorem State.sendPolls_polled (s : State) : s.sendPolls.Polled := by
  intro b hp hb
  rw [State.sendPolls_bound] at hb
  rw [State.sendPolls_branch] at hp ⊢
  obtain ⟨a, turn, hn, -⟩ := s.nextPoll_spec b hb
  unfold State.polled at hp ⊢
  split
  · rw [hn]
    rfl
  · next hc =>
    rw [if_neg hc] at hp
    rw [hp, Bool.true_and, Option.isNone_iff_eq_none] at hc
    exact Option.isSome_iff_ne_none.mpr hc

/-- Once banks, queues and image are in order, the polls leave the part settled. -/
theorem State.sendPolls_settled {s : State} (h : s.Arranged) (hl : s.LiveWf) : s.sendPolls.Settled := by
  have ha : s.sendPolls.Arranged := by
    rw [s.sendPolls_rest]
    exact h
  obtain ⟨hb, hw, hr⟩ := ha
  refine ⟨hb, hw, hr, ?_, s.sendPolls_polled⟩
  have hi : s.sendPolls.ind = s.ind ∧ s.sendPolls.doors = s.doors ∧ s.sendPolls.alarms = s.alarms := by
    rw [s.sendPolls_rest]
    exact ⟨rfl, rfl, rfl⟩
  obtain ⟨hind, hd, hal⟩ := hi
  rw [State.LiveWf, hind, State.picture_congr s.sendPolls_moves.sources hd hal]
  exact hl

theorem State.sendPolls_flowWf {s : State} (h : s.FlowWf) : s.sendPolls.FlowWf := by
  rw [s.sendPolls_rest]
  exact h

/-! ### The three ends of an event -/

/-- Flow within the budgets, and a settled part, pass from the first state to the second. -/
structure State.Leads (s t : State) : Prop where
  flow : s.FlowWf → t.FlowWf
  settled : s.Settled → t.Settled

theorem State.Leads.refl (s : State) : s.Leads s := ⟨id, id⟩

theorem State.Leads.trans {s t u : State} (h : s.Leads t) (k : t.Leads u) : s.Leads u := ⟨k.flow ∘ h.flow, k.settled ∘ h.settled⟩

theorem State.Prepares.settle {s : State} {e : Ev} (h : s.Prepares e.toState) : s.Leads e.settle := by
  have hw := (Ev.takeAlarms_works e.swapIfQuiescent.arbiters).trans (State.updateLive_works _)
  have hflow := fun hs => hw.flowWf (Ev.arbiters_flowWf (e.swapIfQuiescent_prepares.flow (h.flow hs)))
  have harranged := fun hs => hw.arranged (Ev.arbiters_arranged (h.banks hs))
  have hlive := State.updateLive_liveWf e.swapIfQuiescent.arbiters.takeAlarms
  rw [Ev.settle]
  generalize e.swapIfQuiescent.arbiters.takeAlarms.updateLive = u at hflow harranged hlive
  exact ⟨fun hs => State.sendPolls_flowWf (hflow hs), fun hs => State.sendPolls_settled (harranged hs.1) hlive⟩

theorem State.Prepares.settleJudging {s : State} {e : Ev} (h : s.Prepares e.toState) : s.Leads e.settleJudging := by
  have hw := ((Ev.takeAlarms_works e.swapIfQuiescent.arbiters).trans (State.updateLive_works _)).trans (State.judgeFreeze_works _)
  have hflow := fun hs => hw.flowWf (Ev.arbiters_flowWf (e.swapIfQuiescent_prepares.flow (h.flow hs)))
  have harranged := fun hs => hw.arranged (Ev.arbiters_arranged (h.banks hs))
  have hlive := State.judgeFreeze_liveWf (State.updateLive_liveWf e.swapIfQuiescent.arbiters.takeAlarms)
  rw [Ev.settleJudging]
  generalize e.swapIfQuiescent.arbiters.takeAlarms.updateLive.judgeFreeze = u at hflow harranged hlive
  exact ⟨fun hs => State.sendPolls_flowWf (hflow hs), fun hs => State.sendPolls_settled (harranged hs.1) hlive⟩

/-- Nothing is queued, admitted or held, as after a reset (R71). -/
def State.Still (s : State) : Prop := ∀ d : Slot, s.doors[d].entry = none ∧ s.doors[d].committed = 0

theorem Ev.settleReset_flowWf {e : Ev} (h : e.Still) : e.settleReset.FlowWf := by
  have hw : e.toState.SameWorks
      (({ e.takeAlarms with ind := { e.takeAlarms.ind with live := e.takeAlarms.picture } } : State).freeze) :=
    (Ev.takeAlarms_works e).trans rfl
  exact State.sendPolls_flowWf (hw.flowWf (.of_zero fun d => (h d).2))

theorem Ev.settleReset_settled {e : Ev} (h : e.Still) (hb : e.banks.StatesWf) (hp : e.bankPending = false) :
    e.settleReset.Settled := by
  have hw : e.toState.SameWorks
      (({ e.takeAlarms with ind := { e.takeAlarms.ind with live := e.takeAlarms.picture } } : State).freeze) :=
    (Ev.takeAlarms_works e).trans rfl
  exact State.sendPolls_settled (hw.arranged (State.arranged_of_idle hb hp fun d => (h d).1)) rfl

/-! ### Commands without an event of the doors -/

/-- The states differ at most in what no rule of the settled part looks at: the time of the re-announce, the transmit
queue, the frozen image, the management record, the store and the command queue. -/
def State.SameScene (s t : State) : Prop :=
  t = { s with
    alarms := { s.alarms with reannounceAt := t.alarms.reannounceAt }
    trunk := t.trunk, ind := { t.ind with live := s.ind.live }, mgr := t.mgr, store := t.store, pending := t.pending }

theorem State.SameScene.leads {s t : State} (h : s.SameScene t) : s.Leads t := by
  rw [h]
  exact ⟨id, id⟩

theorem State.rxDiscard_scene (s : State) : s.SameScene s.rxDiscard := rfl

theorem State.endStore_scene (s : State) (id : BankId) (readBack : NvImage) : s.SameScene (s.endStore id readBack) := rfl

theorem State.judgeFreeze_scene (s : State) : s.SameScene s.judgeFreeze := by
  unfold State.judgeFreeze
  split <;> rfl

theorem State.reannounced_scene (s : State) : s.SameScene s.reannounced := by
  unfold State.reannounced State.reannounce
  repeat' split
  all_goals rfl

end Sys2Proof.Machine
end

section
/-! SUPPORT. Panel commands, management requests and resets lead from flow within the budgets and a settled part to the
same (R47, R54, R93, R137, R165). -/

namespace Sys2Proof.Machine

open Sys2Proof

/-- Where banks and doors stay as they are. -/
theorem Ev.prepares_of_same {e e' : Ev} (hb : e'.banks = e.banks) (hd : e'.doors = e.doors) : e.Prepares e' :=
  (State.Drains.of_same hb hd).prepares

/-! ### Panel commands -/

/-- Zone modes and line senses change, and the orders follow. -/
theorem Ev.sourcesChanged_prepares_of_kept {before e : Ev} (h : e.doorsAndBanks = before.doorsAndBanks) :
    before.Prepares (e.sourcesChanged before.toState) := by
  obtain ⟨hd, hb⟩ := Prod.mk.inj h
  exact (State.Drains.of_same hb hd).prepares.trans (Ev.sourcesChanged_prepares _ e)

/-- Every command of Table 9-4. -/
theorem panelCmd_prepares {code operand kind : Byte} {c : PanelCmd} (h : panelCmd code operand kind = some c) (src : Station)
    (p : PanelRec) (e : Ev) : e.Prepares (c.act src p e).1 := by
  have door : ∀ f : Ev → Slot → Ev × Answer, (∀ d, e.Drains (f e d).1) → e.Prepares ((cmdDoor operand f).act src p e).1 := by
    intro f hf
    dsimp only [cmdDoor]
    split
    · exact (hf _).prepares
    · exact .refl _
  unfold panelCmd at h
  split at h <;> cases h
  · dsimp only [cmdCloseZone]
    split
    · unfold Ev.closeZone
      split
      · exact .refl _
      · exact Ev.sourcesChanged_prepares_of_kept (e.setMode_doorsAndBanks _ _ _)
    · exact .refl _
  · exact Ev.sourcesChanged_prepares_of_kept ((Ev.latches_doorsAndBanks _ Ev.latchSet_doorsAndBanks _ _).trans
      (e.setModes_doorsAndBanks _ _ _))
  · dsimp only [cmdReleaseZone]
    split
    · exact Ev.sourcesChanged_prepares_of_kept (e.setMode_doorsAndBanks _ _ _)
    · exact .refl _
  · exact Ev.sourcesChanged_prepares_of_kept ((Ev.latches_doorsAndBanks _ Ev.latchRelease_doorsAndBanks _ _).trans
      (e.setModes_doorsAndBanks _ _ _))
  · exact door _ e.doorClose_drains
  · exact door _ e.doorOpen_drains
  · exact door _ e.doorStop_drains
  · dsimp only [cmdAck]
    split
    · exact (e.ackOne_drains _ _ _).prepares
    · exact .refl _
  · exact (e.ackAll_drains p src).prepares

theorem Ev.orderUnit_prepares (e : Ev) (src : Station) (tag code : Byte) (c : Option PanelCmd)
    (hc : ∀ x, c = some x → ∃ operand kind, panelCmd code operand kind = some x) : e.Prepares (e.orderUnit src tag code c) := by
  have answer : ∀ (e : Ev) (a : Answer), e.Prepares (e.answer src tag code a) := fun e a =>
    Ev.prepares_of_same rfl rfl
  unfold Ev.orderUnit
  split
  · exact answer e _
  · next p x hx =>
    obtain ⟨rfl, -⟩ := State.checkCommand_inr hx
    obtain ⟨operand, kind, hk⟩ := hc x rfl
    exact (panelCmd_prepares hk src p e).trans (answer _ _)

/-! ### Management requests -/

/-- A request whose service keeps flow within the budgets and the banks in a state of R161. -/
def ServesPrepared (f : Ev → Ev × Reply) : Prop := ∀ e : Ev, e.Prepares (f e).1

theorem reads_prepared : (∀ part, ServesPrepared fun e => e.identify part) ∧ (∀ page, ServesPrepared fun e => e.readStatus page)
    ∧ (∀ slot part, ServesPrepared fun e => e.readDoor slot part)
    ∧ (∀ bank table index part, ServesPrepared fun e => e.readRecord bank table index part)
    ∧ (∀ chunk, ServesPrepared fun e => e.readAlarms chunk) ∧ ServesPrepared Ev.askRestart := by
  refine ⟨fun part e => ?_, fun page e => ?_, fun slot part e => ?_, fun bank table index part e => ?_, fun chunk e => ?_,
    fun e => .refl _⟩
  all_goals dsimp only [Ev.identify, Ev.readStatus, Ev.readDoor, Ev.readRecord, Ev.readAlarms]
  all_goals repeat' split
  all_goals exact Ev.prepares_of_same rfl rfl

theorem loadBegin_prepared : ServesPrepared fun e => e.loadBegin := by
  intro e
  dsimp only [Ev.loadBegin]
  split
  · exact .refl _
  · split
    · exact .refl _
    · exact e.setBanks_prepares _ e.mgr (Banks.loadTarget_activeSet _) Banks.StatesWf.loadTarget

/-- A change of a LOADING bank (R163). -/
theorem Ev.loading_prepares (e : Ev) {id : BankId} (h : e.banks.find .loading = some id) {v : Bank}
    (hv : v.state = .empty ∨ v.state = .loading ∨ v.state = .ready) : e.Prepares { e with banks := e.banks.put id v } := by
  have hs := Banks.state_of_find h
  have ha : (e.banks.get id).state ≠ .active := by rw [hs]; decide
  have hv' : v.state ≠ .active := by rcases hv with k | k | k <;> simp [k]
  exact e.setBanks_prepares _ e.mgr (Banks.put_activeSet _ id v ha hv') fun k => k.put ha (by rw [hs]; decide) hv

theorem loadChunk_prepared (table index : Byte) (bytes : List Byte) : ServesPrepared fun e => e.loadChunk table index bytes := by
  intro e
  dsimp only [Ev.loadChunk]
  split
  · exact .refl _
  · next id h =>
    split
    · exact .refl _
    · exact e.loading_prepares h (.inr (.inl (Banks.state_of_find h)))

theorem loadEnd_prepared (check : BitVec 16) : ServesPrepared fun e => e.loadEnd check := by
  intro e
  dsimp only [Ev.loadEnd]
  split
  · exact .refl _
  · next id h =>
    split
    · exact e.loading_prepares h (.inr (.inr rfl))
    · exact e.loading_prepares h (.inl rfl)

theorem activateBank_prepared (from_ : BankState) (hf : from_ ≠ .active) : ServesPrepared fun e => e.activateBank from_ := by
  intro e
  dsimp only [Ev.activateBank]
  split
  · exact .refl _
  · next id h =>
    have hs : (e.banks.get id).state ≠ .active := by rw [Banks.state_of_find h]; exact hf
    split
    · exact .refl _
    · split
      · exact e.swap_prepares id
      · next hn =>
        have hset : e.banks.activeSet ≠ none := by
          intro k
          rw [State.activeSet_eq, k] at hn
          exact hn rfl
        exact e.setBanks_prepares _ e.mgr (Banks.put_activeSet _ id _ hs (by simp))
          fun _ => Banks.setState_statesWf hs hset (by simp)

theorem startStore_prepared : ServesPrepared fun e => e.startStore := by
  intro e
  dsimp only [Ev.startStore]
  repeat' split
  all_goals exact Ev.prepares_of_same rfl rfl

theorem enroll_prepared (branch mode : Byte) : ServesPrepared fun e => e.enroll branch mode := by
  intro e
  dsimp only [Ev.enroll]
  repeat' split
  case h_3.isFalse.isTrue => exact (e.beginFresh_drains _).prepares
  case h_3.isFalse.isFalse => exact (e.modBranch_drains _ _).prepares
  all_goals exact .refl _

theorem forgetForeign_prepared (branch : Byte) : ServesPrepared fun e => e.forgetForeign branch := by
  intro e
  dsimp only [Ev.forgetForeign]
  split <;> exact Ev.prepares_of_same rfl rfl

/-- Every request of Table 10-3. -/
theorem requestOf_prepared (code : Byte) (ops : List Byte) : ServesPrepared (Ev.requestOf code ops) := by
  obtain ⟨identify, readStatus, readDoor, readRecord, readAlarms, askRestart⟩ := reads_prepared
  intro e
  unfold Ev.requestOf
  split
  · exact .refl _
  · unfold Ev.request_
    split
    · exact identify _ e
    · exact readStatus _ e
    · exact readDoor _ _ e
    · exact readRecord _ _ _ _ e
    · exact readAlarms _ e
    · exact loadBegin_prepared e
    · exact loadChunk_prepared _ _ _ e
    · exact loadEnd_prepared _ e
    · exact activateBank_prepared _ (by decide) e
    · exact activateBank_prepared _ (by decide) e
    · exact startStore_prepared e
    · exact enroll_prepared _ _ e
    · exact forgetForeign_prepared _ e
    · exact askRestart e
    · exact .refl _

theorem Ev.manager_prepares (e : Ev) (src : Station) (tag code : Byte) {f : Ev → Ev × Reply} (hf : ServesPrepared f) :
    e.Prepares (e.manager src tag code f) := (hf e).trans (Ev.prepares_of_same rfl rfl)

/-! ### Heel and transmission -/

theorem Ev.takeHeel_prepares (e : Ev) (src : HeelSrc) (v : BitVec 16) : e.Prepares (e.takeHeel src v) := by
  unfold Ev.takeHeel
  dsimp only
  split <;> exact Ev.prepares_of_same rfl rfl

theorem Ev.heelJudged_prepares (e : Ev) (h : Heel) : e.Prepares ({ e with heel := h } : Ev).judgeHeel := by
  unfold Ev.judgeHeel
  split <;> exact Ev.prepares_of_same rfl rfl

theorem Ev.transmitError_prepares (e : Ev) : e.Prepares e.transmitError := by
  unfold Ev.transmitError
  dsimp only
  split <;> exact Ev.prepares_of_same rfl rfl

theorem Ev.transmitDone_prepares (e : Ev) (c : TxClass) : e.Prepares (e.transmitDone c) := by
  unfold Ev.transmitDone
  dsimp only
  split <;> exact Ev.prepares_of_same rfl rfl

/-! ### Resets (R71, R173 to R177) -/

/-- The banks stay, and a part in which nothing is queued, admitted or held stays so. -/
structure Ev.StaysStill (e e' : Ev) : Prop where
  banks : e'.banks = e.banks
  still : e.Still → e'.Still

namespace Ev.StaysStill

variable {e e₁ e₂ e₃ : Ev}

theorem refl (e : Ev) : e.StaysStill e := ⟨rfl, id⟩

theorem trans (h : e₁.StaysStill e₂) (k : e₂.StaysStill e₃) : e₁.StaysStill e₃ := ⟨k.banks.trans h.banks, k.still ∘ h.still⟩

theorem foldl {α : Type} (f : Ev → α → Ev) (h : ∀ (e : Ev) (a : α), e.StaysStill (f e a)) (l : List α) (e : Ev) :
    e.StaysStill (l.foldl f e) := by
  induction l generalizing e with
  | nil => exact .refl e
  | cons a l ih => exact (h e a).trans (ih _)

theorem of_drains (h : e₁.Drains e₂) (he : ∀ d : Slot, e₁.doors[d].entry = none → e₂.doors[d].entry = none) : e₁.StaysStill e₂ :=
  ⟨h.banks, fun hs d => ⟨he d (hs d).1, Nat.le_zero.mp ((hs d).2 ▸ h.flow d)⟩⟩

theorem of_same (hb : e₂.banks = e₁.banks) (hd : e₂.doors = e₁.doors) : e₁.StaysStill e₂ :=
  .of_drains (.of_same hb hd) fun d h => by rw [hd]; exact h

theorem of_touches {d : Slot} (h : Ev.Touches d e₁ e₂) (hd : e₁.Drains e₂)
    (he : e₁.doors[d].entry = none → e₂.doors[d].entry = none) : e₁.StaysStill e₂ := by
  refine .of_drains hd fun x hx => ?_
  by_cases hxd : x = d
  · subst hxd
    exact he hx
  · rw [h.other hxd]
    exact hx

theorem ite {c : Prop} [Decidable c] {a b : Ev} (ha : e.StaysStill a) (hb : e.StaysStill b) : e.StaysStill (if c then a else b) := by
  split
  · exact ha
  · exact hb

end Ev.StaysStill

theorem Ev.raiseNoTable_still (e : Ev) : e.StaysStill e.raiseNoTable := by
  unfold Ev.raiseNoTable
  exact .ite (.of_same rfl rfl) (.refl e)

theorem Ev.raiseAnew_still (e : Ev) : e.StaysStill e.raiseAnew := by
  have unbound : e.StaysStill e.raiseUnbound := by
    unfold Ev.raiseUnbound
    refine .foldl _ (fun (e : Ev) (p : Slot × DoorRec) => .ite (.of_touches (e.enterLevel_touches p.1 _) (e.enterLevel_drains p.1 _) fun h => ?_) (.refl e)) _ e
    rwa [Ev.enterLevel_door]
  have branch : ∀ (e : Ev) b, e.StaysStill (e.raiseBranch b) := fun e b => by
    unfold Ev.raiseBranch
    dsimp only
    repeat' split
    all_goals exact .of_same rfl rfl
  exact (unbound.trans (.foldl _ branch _ _)).trans (Ev.raiseNoTable_still _)

theorem Door.unbind_entry (now : Time) {r : Door} (h : r.entry = none) : (r.unbind now).entry = none := by
  have hl : (r.leavePhase now).entry = none := by
    unfold Door.leavePhase
    split
    · rfl
    all_goals exact h
  unfold Door.unbind Door.leaveOnline
  split
  · exact hl
  · exact h

theorem Ev.modBranch_still (e : Ev) (b : BranchId) (f : Branch → Branch) : e.StaysStill (e.modBranch b f) := .of_same rfl rfl

theorem Ev.beginFresh_still (e : Ev) (b : BranchId) : e.StaysStill (e.beginFresh b) := by
  have unbinds : ∀ l : List (Slot × Nat), e.StaysStill (l.foldl (fun e p => e.modDoor p.1 (Door.unbind e.uptime)) e) := by
    refine fun l => .foldl _ (fun e p => ?_) l e
    have hd : (e.modDoor p.1 (Door.unbind e.uptime)).doors[p.1] = e.doors[p.1].unbind e.uptime := Ev.modDoor_same _ _ _
    have ht := e.modDoor_touches p.1 (Door.unbind e.uptime)
    exact .of_touches ht (.of_touches ht (hd ▸ Door.unbind_committed _ _)) fun h => hd ▸ Door.unbind_entry _ h
  unfold Ev.beginFresh
  exact (unbinds _).trans (Ev.modBranch_still _ b _)

theorem Ev.freshRuns_still (e : Ev) : e.StaysStill e.freshRuns :=
  .foldl _ (fun e b => .ite (e.beginFresh_still b) (.refl e)) _ e

theorem Bank.restarted_active (b : Bank) : b.restarted.state = .active ↔ b.state = .active := by
  unfold Bank.restarted
  split <;> simp_all [Bank.blank]

theorem Bank.restarted_not_pending (b : Bank) : b.restarted.state ≠ .pending := by
  unfold Bank.restarted
  split <;> simp_all [Bank.blank]

/-- A bank that is loaded, or is not, stands so after a restart; a load is given up (R161). -/
theorem Bank.restarted_idle {b : Bank} (h : b.state = .empty ∨ b.state = .loading ∨ b.state = .ready) :
    b.restarted.state = .empty ∨ b.restarted.state = .ready := by
  unfold Bank.restarted
  rcases h with h | h | h <;> simp [h, Bank.blank]

/-- A restart leaves the banks in a state of R161, and none PENDING. -/
theorem Banks.StatesWf.restarted {bs : Banks} (h : bs.StatesWf) :
    (⟨bs.a.restarted, bs.b.restarted⟩ : Banks).StatesWf
      ∧ (⟨bs.a.restarted, bs.b.restarted⟩ : Banks).find .pending = none := by
  refine ⟨?_, by simp [Banks.find, Bank.restarted_not_pending]⟩
  rcases h with ⟨ha, hb⟩ | ⟨hb, ha⟩ | ⟨ha, hb⟩
  · exact .inl ⟨bs.a.restarted_active.mpr ha, mt bs.b.restarted_active.mp hb⟩
  · exact .inr (.inl ⟨bs.b.restarted_active.mpr hb, mt bs.a.restarted_active.mp ha⟩)
  · refine .inr (.inr ⟨(Bank.restarted_idle ha).imp id .inr, ?_⟩)
    simp [Bank.restarted, hb]

theorem State.restart_leads (s : State) (flag : EventFlag) (pins : Pins) : s.Leads (s.restart flag pins) := by
  have habandon : s.begin.Drains s.begin.abandonRuns :=
    Ev.Drains.foldl _ (fun e b => .ite (e.closeRun_drains b none) (.refl _)) _ _
  have hstill : (s.begin.abandonRuns.restartState flag pins).Still := fun d => by
    simp [State.restartState, Door.restarted, Door.blank, Door.committed, Door.held, Move.draw, total]
  have hbanks : (s.begin.abandonRuns.restartState flag pins).banks = ⟨s.banks.a.restarted, s.banks.b.restarted⟩ := by
    have : s.begin.abandonRuns.banks = s.banks := habandon.banks
    simp only [State.restartState, this]
  unfold State.restart
  generalize State.restartState flag pins s.begin.abandonRuns.toState = u at hstill hbanks ⊢
  have hr := u.begin.raiseAnew_still
  have hst : u.begin.raiseAnew.Still := hr.still hstill
  have hb : u.begin.raiseAnew.banks = ⟨s.banks.a.restarted, s.banks.b.restarted⟩ := hr.banks.trans hbanks
  refine ⟨fun _ => Ev.settleReset_flowWf hst, fun h => ?_⟩
  obtain ⟨hw, hp⟩ := h.1.restarted
  exact Ev.settleReset_settled hst (hb ▸ hw) (by rw [State.bankPending, hb, hp]; rfl)

/-- The power-on load leaves bank A ACTIVE, or both banks EMPTY (R174). -/
theorem Ev.powerOnLoad_banks {e : Ev} (h : e.banks = Banks.blank) :
    e.powerOnLoad.banks.StatesWf ∧ e.powerOnLoad.banks.find .pending = none := by
  unfold Ev.powerOnLoad
  split
  · next bank hb =>
    have hs : bank.state = .active := by
      unfold loadImage at hb
      split at hb
      · split_ifs at hb
        cases hb
        rfl
      · cases hb
    simp [h, Banks.StatesWf, Banks.find, Banks.blank, Bank.blank, hs]
  · rw [Ev.setFlag, h]
    decide

theorem State.powerOn_leads (s : State) (pins : Pins) : s.Leads (s.powerOn pins) := by
  unfold State.powerOn
  dsimp only
  generalize he : Ev.setFlag _ EventFlag.powerOn = e
  have hblank : e.banks = Banks.blank ∧ e.doors = Vector.replicate 64 Door.blank := by
    rw [← he]
    exact ⟨rfl, rfl⟩
  obtain ⟨hw, hp⟩ := Ev.powerOnLoad_banks hblank.1
  have hs : e.powerOnLoad.StaysStill (branchIds.foldl Ev.sample e.powerOnLoad) :=
    .foldl _ (fun e b => .of_same (congrArg Prod.snd (e.sample_doorsAndBanks b)) (congrArg Prod.fst (e.sample_doorsAndBanks b))) _ _
  have h := (hs.trans (Ev.raiseNoTable_still _)).trans (Ev.freshRuns_still _)
  have hstill := h.still fun d => by
    simp [Ev.powerOnLoad_doors, hblank.2, Door.blank, Door.committed, Door.held, Move.draw, total]
  refine ⟨fun _ => Ev.settleReset_flowWf hstill, fun _ => Ev.settleReset_settled hstill (by rw [h.banks]; exact hw) ?_⟩
  rw [State.bankPending, h.banks, hp]
  rfl

/-- Without a set no slot is fitted and no zone has doors: the image is blank (R88 to R91). -/
theorem State.picture_blank {s : State} (hs : s.activeSet = none) (hz : ∀ z : ZoneId, s.zones[z].closed = false) :
    s.picture = Picture.blank := by
  have hr : ∀ d : Slot, s.doorRec d = none := fun d => by simp [State.doorRec, State.activeRecord, hs]
  have hf : ∀ d : Slot, s.fitted d = false := fun d => by simp [State.fitted, hr]
  have hdoor : ∀ d : Slot, s.doorByte d = 0 := fun d => by
    simp [State.doorByte, State.doorCode, DoorCode.code, State.orderFlag, State.orderHeld, State.lineFlag, State.alarmFlag,
      State.queuedFlag, hr, hf, bit, byte]
  have hdoors : s.fittedDoors = [] := by simp [State.fittedDoors, hr]
  have hzone : ∀ z : ZoneId, s.zoneByte z = 0 := fun z => by
    simp [-Fin.getElem_fin, State.zoneByte, State.zoneDoors, hdoors, State.zoneSummary, hz, bit, byte]
  rw [State.picture, List.map_congr_left fun d _ => hdoor d, List.map_congr_left fun z _ => hzone z]
  rfl

/-- A part without power is blank (R173). -/
theorem State.losePower_leads (s : State) : s.Leads s.losePower := by
  have hd : ∀ d : Slot, s.losePower.doors[d] = Door.blank := fun d => by simp [State.losePower, State.off]
  have hl : s.losePower.LiveWf := (State.picture_blank rfl fun z => s.off_senses.2.2 z).symm
  refine ⟨fun _ => .of_zero fun d => ?_, fun _ => ?_⟩
  · rw [hd]
    rfl
  · obtain ⟨hb, hp, ha⟩ := State.arranged_of_idle (s := s.losePower) (.inr (.inr ⟨.inl rfl, rfl⟩)) rfl fun d => by rw [hd]; rfl
    refine ⟨hb, hp, ha, hl, fun b hb => ?_⟩
    simp [State.losePower, State.off, Branch.blank, Branch.isPolling] at hb

end Sys2Proof.Machine
end

section
/-! SUPPORT. Every command leads from flow within the budgets and a settled part to the same (R47, R54, R93, R137, R165). -/

namespace Sys2Proof.Machine

open Sys2Proof

/-! ### Frames and transmission -/

theorem State.Drains.settle {s : State} {e : Ev} (h : s.Drains e.toState) : s.Leads e.settle := h.prepares.settle

section Frames

variable (s : State)

theorem State.commandFrame_leads (route : Route) (payload : List Byte) (tag code : Byte) (c : Option PanelCmd)
    (hc : ∀ x, c = some x → ∃ operand kind, panelCmd code operand kind = some x) :
    s.Leads (s.commandFrame route payload tag code c) := by
  unfold State.commandFrame
  split
  · exact (s.begin.orderUnit_prepares _ _ _ _ hc).settle
  · exact s.rxDiscard_scene.leads
  · exact .refl s

theorem State.requestFrame_leads (route : Route) (payload : List Byte) (tag code : Byte) {f : Ev → Ev × Reply}
    (hf : ServesPrepared f) : s.Leads (s.requestFrame route payload tag code f) := by
  unfold State.requestFrame
  split
  · exact (s.begin.manager_prepares _ _ _ hf).settle
  · exact s.rxDiscard_scene.leads
  · exact .refl s

theorem State.takeFrame_leads (f : RxFrame) : s.Leads (s.takeFrame f) := by
  unfold State.takeFrame
  split
  · exact .refl s
  · exact s.rxDiscard_scene.leads
  · unfold State.takeCommand
    split
    · exact .refl s
    · exact (s.begin.orderUnit_prepares _ _ _ _ fun x hx => ⟨_, _, hx⟩).settle
  · unfold State.takeHeelFrame
    split
    · exact .refl s
    · exact (s.begin.takeHeel_prepares _ _).settle
  · unfold State.takeRequest
    split
    · exact .refl s
    · exact (s.begin.manager_prepares _ _ _ (requestOf_prepared _ _)).settle

theorem State.hear_leads (bytes : List Byte) : s.Leads (s.hear bytes) := by
  unfold State.hear
  split
  · exact s.takeFrame_leads _
  · exact .refl s

theorem State.transmitted_leads (c : TxClass) (pins : Pins) : s.Leads (s.transmitted c pins) := by
  have hd := s.begin.transmitDone_prepares c
  unfold State.transmitted
  split
  · exact s.restart_leads _ pins
  · split
    · have hp : s.Prepares (s.begin.transmitDone .part).partSent.toState := hd.trans (Ev.prepares_of_same rfl rfl)
      dsimp only
      split
      · exact hp.settleJudging
      · exact hp.settle
    · exact hd.settle

end Frames

/-! ### The commands, one by one -/

/-- An outcome whose next state is led to. -/
def State.LeadsBy (s : State) (o : Host.Outcome State Fault Refusal) : Prop := ∀ t, o = .next t → s.Leads t

/-- A command with a condition leads on where what it then does leads on. -/
theorem State.Leads.ite {s t : State} {c : Prop} [Decidable c] (h : s.Leads t) : s.Leads (if c then t else s) := by
  split
  · exact h
  · exact .refl s

theorem State.live_leads {s : State} {f : State → State} (hf : s.Leads (f s)) : s.LeadsBy (s.live f) := by
  intro t h
  rcases State.live_next h with rfl | rfl
  · exact .refl _
  · exact hf

section Commands

variable (s : State)

/-- The rows of Table 2-2. -/
theorem panelRow_leads {c : Instr} {row : PanelRow} (h : panelRow c = some row) : s.LeadsBy (exec c s) := by
  rw [exec_panelRow h]
  exact State.live_leads (s.commandFrame_leads _ _ _ _ _ fun y hy => Option.some.inj hy ▸ panelRow_cmd h)

/-- The rows of Table 10-3. -/
theorem requestRow_leads {c : Instr} {row : RequestRow} (h : requestRow c = some row) : s.LeadsBy (exec c s) := by
  obtain ⟨identify, readStatus, readDoor, readRecord, readAlarms, askRestart⟩ := reads_prepared
  have hc : ServesPrepared row.serve := by
    cases c <;> cases h
    case identify => exact identify _
    case readStatus => exact readStatus _
    case readDoor => exact readDoor _ _
    case readRecord => exact readRecord _ _ _ _
    case readAlarms => exact readAlarms _
    case loadBegin => exact loadBegin_prepared
    case loadChunk => exact loadChunk_prepared _ _ _
    case loadEnd => exact loadEnd_prepared _
    case activate => exact activateBank_prepared _ (by decide)
    case rollback => exact activateBank_prepared _ (by decide)
    case store => exact startStore_prepared
    case enroll => exact enroll_prepared _ _
    case forgetForeign => exact forgetForeign_prepared _
    case restartRequest => exact askRestart
  have he : exec c s = s.live fun s => s.requestFrame row.route row.payload row.tag row.code row.serve := by
    cases c <;> cases h <;> rfl
  rw [he]
  exact State.live_leads (s.requestFrame_leads _ _ _ _ hc)

theorem execHeel_leads (route : Route) (value : BitVec 16) : s.LeadsBy (execHeel route value s) := by
  refine State.live_leads ?_
  split
  · exact (s.begin.takeHeel_prepares _ value).settle
  · exact .refl s

theorem execStoreEnd_leads (readBack : NvImage) : s.LeadsBy (execStoreEnd readBack s) := by
  refine State.live_leads ?_
  split
  · split
    · exact (s.endStore_scene _ readBack).leads
    · exact .refl s
  · exact .refl s

theorem execTransmitSuccess_leads (pins : Pins) : s.LeadsBy (execTransmitSuccess pins s) := by
  refine State.live_leads ?_
  split
  · exact s.transmitted_leads _ pins
  · exact .refl s

theorem execStatusReply_leads (b : BranchId) (bytes : List Byte) : s.LeadsBy (execStatusReply b bytes s) := by
  refine State.live_leads ?_
  split
  · next q hq =>
    split
    · exact (s.begin.pollAnswered_drains b q _ (Branch.poll?_some hq).1).settle
    · exact .refl s
  · exact .refl s

theorem execPollMiss_leads (b : BranchId) : s.LeadsBy (execPollMiss b s) := by
  refine State.live_leads ?_
  split
  · exact (s.begin.pollMissed_drains b _).settle
  · exact .refl s

/-- A sample leaves doors and banks, and the orders follow its sense (R43). -/
theorem execLineSample_leads (b : BranchId) (low : Bool) : s.LeadsBy (execLineSample b low s) := by
  refine State.live_leads ?_
  have hline : s.Drains (s.setLine b low) := .of_same rfl rfl
  have hsample : Ev.Prepares (s.setLine b low).begin ((s.setLine b low).begin.sample b) := by
    obtain ⟨hd, hb⟩ := Prod.mk.inj ((s.setLine b low).begin.sample_doorsAndBanks b)
    exact Ev.prepares_of_same hb hd
  exact ((hline.prepares.trans hsample).trans (Ev.sourcesChanged_prepares _ _)).settle

theorem execRetryExpiry_leads (d : Slot) : s.LeadsBy (execRetryExpiry d s) := by
  refine State.live_leads ?_
  split
  · exact (s.begin.retryExpired_drains d _ _).settle
  · exact .refl s

theorem execIssueDeadlineExpiry_leads (d : Slot) : s.LeadsBy (execIssueDeadlineExpiry d s) := by
  refine State.live_leads ?_
  split
  · exact (s.begin.issueExpired_drains d _).settle
  · exact .refl s

theorem execDeadlineExpiry_leads (d : Slot) : s.LeadsBy (execDeadlineExpiry d s) := by
  refine State.live_leads ?_
  split
  · exact (s.begin.endTimeout_drains d _).settle
  · exact .refl s

theorem execCallAnswer_leads (b : BranchId) (serial : Serial) : s.LeadsBy (execCallAnswer b serial s) := by
  refine State.live_leads ?_
  split
  · exact (s.begin.takeAnswer_drains b _ serial).settle
  · exact .refl s

theorem execAssignSent_leads (b : BranchId) : s.LeadsBy (execAssignSent b s) := by
  refine State.live_leads ?_
  split
  · exact (s.begin.beginRound_drains b _).settle
  · exact .refl s

theorem execCallAnswerFault_leads (b : BranchId) : s.LeadsBy (execCallAnswerFault b s) := by
  refine State.live_leads ?_
  split
  · exact (s.begin.noProgress_drains b _ _ fun e r => e.beginRound_drains b r).settle
  · exact .refl s

theorem execCallNoAnswer_leads (b : BranchId) : s.LeadsBy (execCallNoAnswer b s) := by
  refine State.live_leads ?_
  split
  · exact (s.begin.endRun_drains b none).settle
  · exact .refl s

end Commands

/-- Every command. -/
theorem exec_leads (c : Instr) (s : State) : s.LeadsBy (exec c s) := by
  cases hp : panelRow c with
  | some row => exact panelRow_leads s hp
  | none =>
    cases hr : requestRow c with
    | some row => exact requestRow_leads s hr
    | none =>
      cases c with
      | powerOnReset pins => exact fun t h => Host.Outcome.next.inj h ▸ s.powerOn_leads pins
      | restartPin pins => exact State.live_leads (s.restart_leads _ pins)
      | powerLoss => exact State.live_leads s.losePower_leads
      | trunkFrame bytes => exact State.live_leads (f := fun s => s.hear bytes) (s.hear_leads bytes)
      | arbitrationLost winner =>
        exact State.live_leads (.ite ((State.SameScene.leads (t := s.stopSending) rfl).trans (State.hear_leads _ winner)))
      | heel route value => exact execHeel_leads s route value
      | storeEnd readBack => exact execStoreEnd_leads s readBack
      | transmitStart =>
        exact State.live_leads (s := s) (f := fun s => { s with trunk := s.trunk.start }) (State.SameScene.leads rfl)
      | transmitError => exact State.live_leads (.ite s.begin.transmitError_prepares.settle)
      | transmitSuccess pins => exact execTransmitSuccess_leads s pins
      | statusReply b bytes => exact execStatusReply_leads s b bytes
      | pollMiss b => exact execPollMiss_leads s b
      | lineSample b low => exact execLineSample_leads s b low
      | dwellExpiry d => exact State.live_leads (.ite (s.begin.dwellExpired_drains d).settle)
      | retryExpiry d => exact execRetryExpiry_leads s d
      | warningLeadExpiry d => exact State.live_leads (.ite (s.begin.leadExpired_drains d).settle)
      | issueDeadlineExpiry d => exact execIssueDeadlineExpiry_leads s d
      | deadlineExpiry d => exact execDeadlineExpiry_leads s d
      | linkLostHoldExpiry d => exact State.live_leads (.ite (s.begin.holdsExpired_drains d).settle)
      | heelSourceStale src => exact State.live_leads (.ite (State.Prepares.settle (s.begin.heelJudged_prepares _)))
      | heelStaleFirstJudge => exact State.live_leads (.ite (State.Prepares.settle (s.begin.heelJudged_prepares _)))
      | reannounceExpiry => exact State.live_leads (.ite s.reannounced_scene.leads)
      | spacingPoint => exact State.live_leads (.ite s.judgeFreeze_scene.leads)
      | refreshPoint => exact State.live_leads (.ite s.judgeFreeze_scene.leads)
      | snapshotRelease => exact State.live_leads (.ite (State.SameScene.leads (t := s.releaseSnapshot) rfl))
      | callAnswer b serial => exact execCallAnswer_leads s b serial
      | assignSent b => exact execAssignSent_leads s b
      | callAnswerFault b => exact execCallAnswerFault_leads s b
      | callNoAnswer b => exact execCallNoAnswer_leads s b
      | closeZone | closeAll | releaseZone | releaseAll | doorClose | doorOpen | doorStop | ack | ackAll => cases hp
      | _ => cases hr

/-- Settles O10: every event ends with the banks in a state of R161, no PENDING bank at quiescence, no head that fits,
the live image derived and the due polls sent, whatever it was; the commands without such an end leave all that as it is. -/
theorem everyCommandLeavesThePartSettled : Obligations.EveryCommandLeavesThePartSettled := by
  unfold Obligations.EveryCommandLeavesThePartSettled
  exact fun c s t hs h => (exec_leads c s t h).settled hs

/-- Settles O9: no operation but an admission makes a door commit more, an admission asks for no more than the free
figure, and after a swap or a reset no door commits anything; a tick changes no door and no bank. -/
theorem everyStepKeepsFlowWithinBudget : Obligations.EveryStepKeepsFlowWithinBudget := by
  unfold Obligations.EveryStepKeepsFlowWithinBudget
  intro s t hs h
  unfold step at h
  split at h
  · obtain rfl := Host.Outcome.next.inj h
    have hd : s.Drains s.tick := by
      unfold State.tick
      split <;> exact .of_same rfl rfl
    exact hd.flowWf hs
  · next c rest _ => exact (exec_leads c { s with pending := rest } t h).flow hs

end Sys2Proof.Machine
end

section
/-! SUPPORT. An event of one door that leaves it without an entry: its record stands at the end, and no other door that
waits in no queue changes. -/

namespace Sys2Proof.Machine

open Sys2Proof

/-- The end of an event that worked on one door and left it in no queue, with no bank PENDING. -/
theorem State.settle_of_rested {s : State} {d : Slot} {e : Ev} (ht : Ev.Touches d s.begin e) (ho : e.outer = s.outer)
    (hb : s.bankPending = false) (he : e.doors[d].entry = none) :
    e.settle.outer = s.outer ∧ e.settle.doors[d] = e.doors[d]
      ∧ ∀ x : Slot, x ≠ d → s.doors[x].entry = none → e.settle.doors[x] = s.doors[x] := by
  have hq : e.swapIfQuiescent = e := e.swapIfQuiescent_of_not_pending (by
    rw [State.bankPending, ht.banks]
    exact hb)
  have ha := e.settle_admits hq
  refine ⟨(Ev.settle_outer e).trans ho, (ha d).of_no_entry he, fun x hx hn => ?_⟩
  have hd : e.doors[x] = s.doors[x] := ht.other hx
  exact ((ha x).of_no_entry (by rw [hd]; exact hn)).trans hd

end Sys2Proof.Machine
end

section
/-! SUPPORT. The expiries of leads, deadlines and LINK-LOST holds (R48, R57, R59, R81): what each leaves in the record of
its door. -/

namespace Sys2Proof.Machine

open Sys2Proof

/-! ### The outcomes -/

section Outcomes

variable (e : Ev) (d : Slot)

@[simp] theorem Ev.leadExpired_door :
    (e.leadExpired d).doors[d] = { e.doors[d] with slot := .close, phase := .driving, timer := .none } := by
  rw [Ev.leadExpired, Ev.toPhase_door, Ev.place_door_of_ne _ _ _ (by decide)]

@[simp] theorem Ev.endTimeout_door (dir : Dir) :
    (e.endTimeout d dir).doors[d] =
      { e.doors[d] with
        move := .none, phase := .idle, timer := .none
        conds := { e.doors[d].conds with travelTimeout := some dir } } := by
  rw [Ev.endTimeout, Ev.enterEnd_door, Ev.dropMove_door]
  rfl

@[simp] theorem Ev.issueExpired_door (a : Admission) :
    (e.issueExpired d a).doors[d] =
      { e.doors[d] with
        slot := if e.doors[d].phase = .warning then .warnOff else .halt
        move := .none, phase := .idle, timer := .none
        conds := { e.doors[d].conds with travelTimeout := some a.dir } } := by
  have hc : (if e.doors[d].phase = .warning then Cmd.warnOff else .halt) ≠ .openDoor := by split <;> decide
  rw [Ev.issueExpired, Ev.endTimeout_door, Ev.place_door_of_ne _ _ _ hc]

theorem Hold.not_expires (now : Time) (h : Hold) : (!h.expires now) = (h.kind != .linkLost now) := by
  obtain ⟨draw, k⟩ := h
  cases k with
  | linkLost t => exact Bool.eq_iff_iff.mpr (by simp [Hold.expires])
  | halt begun => rfl

@[simp] theorem Ev.holdsExpired_door :
    (e.holdsExpired d).doors[d] =
      { e.doors[d] with holds := e.doors[d].holds.filter fun h => h.kind != .linkLost e.uptime } := by
  rw [Ev.holdsExpired, Ev.modDoor_same]
  simp only [Hold.not_expires]

theorem Ev.leadExpired_touches : Ev.Touches d e (e.leadExpired d) :=
  (e.place_touches d _).trans (Ev.toPhase_touches _ d _)

theorem Ev.issueExpired_touches (a : Admission) : Ev.Touches d e (e.issueExpired d a) :=
  (e.place_touches d _).trans (Ev.endTimeout_touches _ d _)

theorem Ev.holdsExpired_touches : Ev.Touches d e (e.holdsExpired d) := e.modDoor_touches d _

end Outcomes

/-! ### The commands -/

section Commands

variable (s : State) (d : Slot) (hp : s.powered = true)
include hp

theorem exec_warningLeadExpiry (hd : s.leadDue d = true) :
    exec (.warningLeadExpiry d) s = .next (s.begin.leadExpired d).settle := by
  show execWarningLeadExpiry d s = _
  simp only [execWarningLeadExpiry, State.live, hp, hd, if_true]

theorem exec_issueDeadlineExpiry {a : Admission} (hd : s.doors[d].issueDue s.uptime = some a) :
    exec (.issueDeadlineExpiry d) s = .next (s.begin.issueExpired d a).settle := by
  show execIssueDeadlineExpiry d s = _
  simp only [execIssueDeadlineExpiry, State.live, hp, hd, if_true]

theorem exec_deadlineExpiry {m : Motion} (hd : s.doors[d].deadlineDue s.uptime = some m) :
    exec (.deadlineExpiry d) s = .next (s.begin.endTimeout d m.dir).settle := by
  show execDeadlineExpiry d s = _
  simp only [execDeadlineExpiry, State.live, hp, hd, if_true]

theorem exec_linkLostHoldExpiry (hd : s.doors[d].holdDue s.uptime = true) :
    exec (.linkLostHoldExpiry d) s = .next (s.begin.holdsExpired d).settle := by
  show execLinkLostHoldExpiry d s = _
  simp only [execLinkLostHoldExpiry, State.live, hp, hd, if_true]

end Commands

/-- Settles O57: each expiry works on its door alone and leaves it in no queue, and so no admission is made for it. -/
theorem leadsAndDeadlinesExpire : Obligations.LeadsAndDeadlinesExpire := by
  unfold Obligations.LeadsAndDeadlinesExpire
  intro s d hpow hflow hbank
  refine ⟨fun a since r hphase hmove hlead hrec hel => ?_, fun a hmove hdead => ?_, fun m hmove hel => ?_,
    fun draw hentry hmem => ?_⟩
  · have hdue : s.leadDue d = true := by simp [-Fin.getElem_fin, State.leadDue, Door.leadDue, hrec, hphase, hmove, hlead, hel]
    have he : s.doors[d].entry = none := (Door.flowWf_moves hflow (.inl hphase)).1
    have hdoor := s.begin.leadExpired_door d
    obtain ⟨hout, hown, hother⟩ := State.settle_of_rested (s.begin.leadExpired_touches d)
      ((Ev.toPhase_outer _ d _).trans (Ev.place_outer _ d _)) hbank (by rw [hdoor]; exact he)
    exact ⟨_, exec_warningLeadExpiry s d hpow hdue, hout, hown.trans hdoor, hother⟩
  · have hdue : s.doors[d].issueDue s.uptime = some a := by simp [-Fin.getElem_fin, Door.issueDue, hmove, hdead]
    have he : s.doors[d].entry = none := Door.flowWf_move hflow (by rw [hmove]; exact Move.noConfusion)
    have hdoor := s.begin.issueExpired_door d a
    obtain ⟨hout, hown, hother⟩ := State.settle_of_rested (s.begin.issueExpired_touches d a)
      ((Ev.endTimeout_outer _ d _).trans (Ev.place_outer _ d _)) hbank (by rw [hdoor]; exact he)
    exact ⟨_, exec_issueDeadlineExpiry s d hpow hdue, hout, hown.trans hdoor, hother⟩
  · have hdue : s.doors[d].deadlineDue s.uptime = some m := by simp [-Fin.getElem_fin, Door.deadlineDue, hmove, hel]
    have he : s.doors[d].entry = none := Door.flowWf_move hflow (by rw [hmove]; exact Move.noConfusion)
    have hdoor := s.begin.endTimeout_door d m.dir
    obtain ⟨hout, hown, hother⟩ := State.settle_of_rested (s.begin.endTimeout_touches d m.dir)
      (Ev.endTimeout_outer _ d _) hbank (by rw [hdoor]; exact he)
    exact ⟨_, exec_deadlineExpiry s d hpow hdue, hout, hown.trans hdoor, hother⟩
  · have hdue : s.doors[d].holdDue s.uptime = true :=
      List.any_eq_true.mpr ⟨_, hmem, by simp [Hold.expires]⟩
    have hdoor := s.begin.holdsExpired_door d
    obtain ⟨hout, hown, hother⟩ := State.settle_of_rested (s.begin.holdsExpired_touches d) rfl hbank
      (by rw [hdoor]; exact hentry)
    exact ⟨_, exec_linkLostHoldExpiry s d hpow hdue, hout, hown.trans hdoor, hother⟩

end Sys2Proof.Machine
end

section
/-! SUPPORT. RETRY_EXPIRY (R68): a retry queues the movement again, or the door is IDLE with retry count 0. -/

namespace Sys2Proof.Machine

open Sys2Proof

/-- A retry repeats its movement: a close under an order, a movement of basis REMOTE without one (R68). -/
def Retries (dir : Dir) (basis : Basis) (held : Bool) : Prop :=
  (dir = .closing ∧ held = true) ∨ (basis = .remote ∧ held = false)

/-- The two outcomes of a retry expiry (R68). -/
theorem Ev.retryExpired_of_retries (e : Ev) (d : Slot) {dir : Dir} {basis : Basis} (hl : e.doors[d].link = .online)
    (h : Retries dir basis (e.orderHeld d)) :
    e.retryExpired d dir basis = (e.toPhase d .idle).request d dir .retry basis := by
  unfold Ev.retryExpired
  dsimp only
  rw [if_neg (not_not.mpr hl)]
  rcases h with ⟨rfl, ho⟩ | ⟨rfl, ho⟩
  · rw [ho]
  · rw [ho]
    cases dir <;> rfl

theorem Ev.retryExpired_of_not (e : Ev) (d : Slot) {dir : Dir} {basis : Basis}
    (h : e.doors[d].link ≠ .online ∨ ¬ Retries dir basis (e.orderHeld d)) :
    e.retryExpired d dir basis = (e.toPhase d .idle).zeroRetry d := by
  unfold Ev.retryExpired
  dsimp only
  split
  · rfl
  · next hl =>
    have hn := h.resolve_left hl
    unfold Retries at hn
    split <;> simp_all

theorem exec_retryExpiry (s : State) (d : Slot) {dir : Dir} {basis : Basis} (hp : s.powered = true)
    (hd : s.doors[d].retryDue s.uptime = some (dir, basis)) :
    exec (.retryExpiry d) s = .next (s.begin.retryExpired d dir basis).settle := by
  show execRetryExpiry d s = _
  simp only [execRetryExpiry, State.live, hp, hd, if_true]

/-- Settles O56: a repeated movement keeps its entry or is admitted within the event, and else the door rests. -/
theorem retriesAreQueuedAgain : Obligations.RetriesAreQueuedAgain := by
  unfold Obligations.RetriesAreQueuedAgain
  intro s d dir o basis hpow hflow hrun hfit hphase htimer
  have hdue : s.doors[d].retryDue s.uptime = some (dir, basis) := by
    simp [-Fin.getElem_fin, Door.retryDue, hphase, htimer]
  obtain ⟨he, hm⟩ := Door.flowWf_rests hflow (by rw [hphase]; rfl)
  have hi := s.begin.toPhase_touches d .idle
  refine ⟨_, exec_retryExpiry s d hpow hdue, ?_, fun hl hag => ?_, fun hn hb => ?_⟩
  · exact (Ev.settle_outer _).trans (Ev.retryExpired_outer _ d dir basis)
  · have heq := s.begin.retryExpired_of_retries d hl hag
    have hdoor : (s.begin.retryExpired d dir basis).doors[d] =
        { s.doors[d].enqueued s.uptime dir .retry basis with retry := s.doors[d].retry + 1 } := by
      rw [heq, Ev.request_door _ _ _ _ _ (hi.noRunFor hrun), Ev.toPhase_door, if_pos ⟨hl, hm⟩]
      rfl
    have ht : Ev.Touches d s.begin (s.begin.retryExpired d dir basis) := by
      rw [heq]
      exact hi.trans (Ev.request_touches _ d _ _ _ (hi.noRunFor hrun))
    obtain ⟨v, hv⟩ := (s.fitted_iff d).mp hfit
    have hq := Ev.swapIfQuiescent_of_queued _ d ((ht.doorRec d).trans hv) (by rw [hdoor]; rfl)
    have ha := Ev.settle_admits _ hq d
    have ho := ((Ev.settle_sources _ hq).orderHeld d).trans (ht.orderHeld d)
    rw [hdoor] at ha
    refine ha.keptOrAdmitted fun en hen => ?_
    cases hen
    exact hag.imp And.left fun h => ho.trans h.2
  · have heq : s.begin.retryExpired d dir basis = (s.begin.toPhase d .idle).zeroRetry d := by
      refine s.begin.retryExpired_of_not d (hn.imp_right ?_)
      rintro (⟨rfl, ho⟩ | ⟨rfl, ho⟩) (⟨hd, ho'⟩ | ⟨hd, ho'⟩)
      · cases hd
      · exact Bool.noConfusion (ho.symm.trans ho')
      · exact Bool.noConfusion (ho.symm.trans ho')
      · cases hd
    have hdoor : (s.begin.retryExpired d dir basis).doors[d] = { s.doors[d] with phase := .idle, timer := .none, retry := 0 } := by
      rw [heq, Ev.zeroRetry_door, Ev.toPhase_door]
      rfl
    have ht : Ev.Touches d s.begin (s.begin.retryExpired d dir basis) := by
      rw [heq]
      exact hi.trans (Ev.zeroRetry_touches _ d)
    exact (State.settle_of_rested ht (Ev.retryExpired_outer _ d dir basis) hb (by rw [hdoor]; exact he)).2.1.trans hdoor

end Sys2Proof.Machine
end

section
/-! SUPPORT. Motions that a report stops or lets run on: the lag check (R83 to R86), and the ends OBSTRUCTED and STALL
(R61, R64). -/

namespace Sys2Proof.Machine

open Sys2Proof

/-! ### The lag check -/

section

variable {m : Motion} {now : Time} {q tolerance : Nat}

theorem Motion.lagging_iff : m.lagging (m.since now) q tolerance = true ↔ m.Lags now q tolerance := by
  unfold Motion.lagging Motion.expected Motion.since Motion.Lags
  cases hd : m.dir <;> simp

theorem Motion.stalls_iff : m.stalls now q tolerance = true ↔ m.Checked now ∧ m.Lags now q tolerance ∧ 1 ≤ m.lag := by
  simp only [Motion.stalls, Bool.and_eq_true, decide_eq_true_eq, Motion.lagging_iff, and_assoc]
  rfl

/-- The lag count `lag` with which a report lets the motion run on (R83, R86). -/
def Motion.RunsOn (m : Motion) (now : Time) (q tolerance lag : Nat) : Prop :=
  (¬m.Checked now ∧ lag = m.lag)
    ∨ (m.Checked now ∧ ¬m.Lags now q tolerance ∧ lag = 0)
    ∨ (m.Checked now ∧ m.Lags now q tolerance ∧ m.lag = 0 ∧ lag = 1)

theorem Motion.RunsOn.not_stalls {lag : Nat} (h : m.RunsOn now q tolerance lag) : m.stalls now q tolerance ≠ true := by
  rw [Ne, Motion.stalls_iff]
  rintro ⟨hc, hl, h1⟩
  rcases h with ⟨k, -⟩ | ⟨-, k, -⟩ | ⟨-, -, k, -⟩
  · exact k hc
  · exact k hl
  · exact absurd k (Nat.one_le_iff_ne_zero.mp h1)

theorem Motion.RunsOn.lagAfter {lag : Nat} (h : m.RunsOn now q tolerance lag) : m.lagAfter now q tolerance = lag := by
  have checked : m.Checked now → ¬m.since now < 20 := Nat.not_lt.mpr
  unfold Motion.lagAfter
  rcases h with ⟨hc, rfl⟩ | ⟨hc, hl, rfl⟩ | ⟨hc, hl, h0, rfl⟩
  · exact if_pos (Nat.not_le.mp hc)
  · rw [if_neg (checked hc), if_neg fun k => hl (Motion.lagging_iff.mp k)]
  · rw [if_neg (checked hc), if_pos (Motion.lagging_iff.mpr hl), h0]

end

/-! ### The record of a motion that is stopped -/

/-- The kinds with which a motion is stopped short of its limit (R64). -/
def AlarmKind.Stops (k : AlarmKind) : Prop := k = .obstructed ∨ k = .stall

section

variable (held : Bool) (now : Time) (m : Motion) (k : AlarmKind) (x : Door)

theorem Door.haltedBy_of_retry (h : x.retry < 3) :
    x.haltedBy held now m k =
      { x with
        move := .none, slot := .halt, conds := x.conds.enterEnd k m.dir
        phase := .retryWait, timer := .retry (now + 50) m.dir m.origin m.basis } := by
  unfold Door.haltedBy
  rw [if_pos h]
  rfl

theorem Door.haltedBy_of_close (h : 3 ≤ x.retry) (hd : m.dir = .closing) :
    x.haltedBy held now m k =
      { x with
        move := .none, slot := .halt, conds := (x.conds.enterEnd k .closing).enterEnd .closeFailed .closing
        phase := if held = true then .failed else .idle, timer := .none } := by
  unfold Door.haltedBy
  rw [if_neg (Nat.not_lt.mpr h), hd]

theorem Door.haltedBy_of_open (h : 3 ≤ x.retry) (hd : m.dir = .opening) :
    x.haltedBy held now m k =
      { x with
        move := .none, slot := .halt, conds := x.conds.enterEnd k .opening, phase := .idle, timer := .none } := by
  unfold Door.haltedBy
  rw [if_neg (Nat.not_lt.mpr h), hd]

/-- A stopped motion leaves no move, HALT in the slot and its kind entered; entry and retry count stay (R64). -/
theorem Door.haltedBy_fields (hk : k.Stops) :
    (x.haltedBy held now m k).move = .none ∧ (x.haltedBy held now m k).slot = .halt
      ∧ (x.haltedBy held now m k).retry = x.retry ∧ (x.haltedBy held now m k).entry = x.entry
      ∧ (x.haltedBy held now m k).conds.dirOf k = some m.dir := by
  rcases Nat.lt_or_ge x.retry 3 with h | h
  · rw [Door.haltedBy_of_retry _ _ _ _ _ h]
    rcases hk with rfl | rfl <;> exact ⟨rfl, rfl, rfl, rfl, rfl⟩
  · cases hd : m.dir with
    | closing =>
      rw [Door.haltedBy_of_close _ _ _ _ _ h hd]
      rcases hk with rfl | rfl <;> exact ⟨rfl, rfl, rfl, rfl, rfl⟩
    | opening =>
      rw [Door.haltedBy_of_open _ _ _ _ _ h hd]
      rcases hk with rfl | rfl <;> exact ⟨rfl, rfl, rfl, rfl, rfl⟩

/-- A stopped close, and an open stopped without an order, waits for a retry, is FAILED, or is IDLE without an order. -/
theorem Door.haltedBy_phase (ho : m.dir = .opening → held = false) :
    (x.haltedBy held now m k).phase = .retryWait ∨ (x.haltedBy held now m k).phase = .failed
      ∨ (held = false ∧ (x.haltedBy held now m k).phase = .idle) := by
  rcases Nat.lt_or_ge x.retry 3 with h | h
  · exact .inl (by rw [Door.haltedBy_of_retry _ _ _ _ _ h])
  · cases hd : m.dir with
    | closing =>
      rw [Door.haltedBy_of_close _ _ _ _ _ h hd]
      cases held
      · exact .inr (.inr ⟨rfl, rfl⟩)
      · exact .inr (.inl rfl)
    | opening => exact .inr (.inr ⟨ho hd, by rw [Door.haltedBy_of_open _ _ _ _ _ h hd]⟩)

/-- The need-close check after a stopped motion has nothing to do (R16). -/
theorem Door.haltedBy_done (ho : m.dir = .opening → held = false) :
    held = false ∨ (x.haltedBy held now m k).phase ≠ .idle := by
  rcases x.haltedBy_phase held now m k ho with h | h | ⟨h, -⟩
  · exact .inr (by rw [h]; nofun)
  · exact .inr (by rw [h]; nofun)
  · exact .inl h

end

/-- A report short of the limit of a direction, or of DISAGREE, does not show its end position. -/
theorem Report.doorState_ne_endState {r : Report} {dir : Dir} (h : r.limit dir = false ∨ r.doorState = .disagree) :
    r.doorState ≠ dir.endState := by
  rcases h with h | h
  · cases dir with
    | closing => exact Report.doorState_ne_closed h
    | opening =>
      have ho : r.openLimit = false := h
      unfold Report.doorState
      rw [ho]
      split
      · nofun
      · cases r.motion
        case still => cases r.closedLimit <;> nofun
        all_goals nofun
  · rw [h]
    cases dir <;> nofun

/-- A kind whose end position the door does not show stays (R14). -/
theorem DoorState.drops_of_ne {st : DoorState} {dir : Dir} (h : st ≠ dir.endState) : st.drops (some dir) = some dir :=
  if_neg fun e => h (Option.some.inj e).symm

/-! ### The report -/

section

variable {held : Bool} {now : Time} {v : DoorRec} {g : GroupRec} {r : Report} {x : Door} {m : Motion}

/-- The end tests of a report that stops the motion, obstructed or lagging (R61). -/
def Motion.StoppedBy (m : Motion) (now : Time) (r : Report) (tolerance : Nat) (k : AlarmKind) : Prop :=
  (m.dir = .closing ∧ r.obstruction = true ∧ k = .obstructed)
    ∨ (¬(m.dir = .closing ∧ r.obstruction = true) ∧ m.stalls now r.position tolerance = true ∧ k = .stall)

theorem Motion.StoppedBy.stops {tolerance : Nat} {k : AlarmKind} (h : m.StoppedBy now r tolerance k) : k.Stops :=
  h.imp (fun h => h.2.2) fun h => h.2.2

/-- The first end test, of the limit, does not hold (R61). -/
theorem Door.Shows.not_atLimit {dir : Dir} (hs : x.Shows r) (hl : r.limit dir = false ∨ r.doorState = .disagree) :
    ¬(r.limit dir = true ∧ x.state ≠ .disagree) := by
  rw [hs.state]
  rintro ⟨h, hd⟩
  rcases hl with k | k
  · exact Bool.noConfusion (k.symm.trans h)
  · exact hd k

theorem Door.endTested_of_stopped {tolerance : Nat} {k : AlarmKind} (hs : x.Shows r)
    (hl : r.limit m.dir = false ∨ r.doorState = .disagree) (ha : r.handleAgainst m.dir = false)
    (hk : m.StoppedBy now r tolerance k) :
    x.endTested held now tolerance m r = (x.haltedBy held now m k).closeChecked held now .order := by
  unfold Door.endTested
  rw [if_neg (hs.not_atLimit hl), if_neg (by simp [ha])]
  rcases hk with ⟨hd, hob, rfl⟩ | ⟨hno, hst, rfl⟩
  · rw [if_pos ⟨hd, hob⟩]
  · rw [if_neg hno, if_pos hst]

theorem Door.endTested_of_runs {tolerance lag : Nat} (hs : x.Shows r)
    (hl : r.limit m.dir = false ∨ r.doorState = .disagree) (ha : r.handleAgainst m.dir = false)
    (hob : ¬(m.dir = .closing ∧ r.obstruction = true)) (hr : m.RunsOn now r.position tolerance lag) :
    x.endTested held now tolerance m r = { x with move := .started { m with lag := lag } } := by
  unfold Door.endTested
  rw [if_neg (hs.not_atLimit hl), if_neg (by simp [ha]), if_neg hob, if_neg hr.not_stalls, hr.lagAfter]

/-- A report that stops the motion: the record of the stop, with no close to make and no handle to follow. -/
theorem Door.worked_of_stopped {k : AlarmKind} (hm : x.move = .started m)
    (hl : r.limit m.dir = false ∨ r.doorState = .disagree) (ha : r.handleAgainst m.dir = false)
    (hh : ¬(held = true ∧ r.handle = .openSide)) (ho : m.dir = .opening → held = false)
    (hk : m.StoppedBy now r g.lagTolerance k) :
    x.worked held now v g r = (x.heard now r).haltedBy held now m k := by
  have hp := (x.heard now r).haltedBy_phase held now m k ho
  have hdone := (x.heard now r).haltedBy_done held now m k ho
  unfold Door.worked
  rw [Door.motioned_of_started ((x.heard_move now r).trans (Door.moveAfter_started hm)),
    Door.endTested_of_stopped (x.heard_shows now r) hl ha hk, Door.closeChecked_of_done (hdone.imp_right .inl)]
  refine Door.handled_of_free hh (fun h => ?_) fun h => ?_ <;> simp [h] at hp

/-- A report that neither ends nor stops the motion only counts its lag. -/
theorem Door.worked_of_runs {lag : Nat} (hp : x.phase = .driving) (hm : x.move = .started m)
    (hl : r.limit m.dir = false ∨ r.doorState = .disagree) (ha : r.handleAgainst m.dir = false)
    (hh : ¬(held = true ∧ r.handle = .openSide)) (hob : ¬(m.dir = .closing ∧ r.obstruction = true))
    (hr : m.RunsOn now r.position g.lagTolerance lag) :
    x.worked held now v g r = { x.heard now r with move := .started { m with lag := lag } } := by
  unfold Door.worked
  rw [Door.motioned_of_started ((x.heard_move now r).trans (Door.moveAfter_started hm)),
    Door.endTested_of_runs (x.heard_shows now r) hl ha hob hr]
  exact Door.handled_of_free hh (by simp [hp]) (by simp [hp])

end

/-! ### The end of the event -/

section

variable {s t : State} {b : BranchId} {q : Poll} {d : Slot} {v : DoorRec} {g : GroupRec} {r : Report} {m : Motion}

/-- A consistent door with a started motion is DRIVING and in no queue. -/
theorem Door.flowWf_started {x : Door} (hf : x.flowWf = true) (hm : x.move = .started m) :
    x.phase = .driving ∧ x.entry = none := by
  rcases x.flowWf_iff.mp hf with ⟨-, -, k⟩ | ⟨-, -, a, k, -⟩ | ⟨hp, he, -⟩ | ⟨-, -, k⟩
  · rw [hm] at k
    cases k
  · rw [hm] at k
    cases k
  · exact ⟨hp, he⟩
  · rw [hm] at k
    cases k

/-- A motion that its report stops, at the end of the event (R64). -/
theorem State.TakesPoll.of_stopped {k : AlarmKind}
    (hT : s.TakesPoll t b q d (s.doors[d].replied (s.orderHeld d) s.uptime v g r)) (he : s.doors[d].entry = none)
    (hm : s.doors[d].move = .started m) (hl : r.limit m.dir = false ∨ r.doorState = .disagree)
    (ha : r.handleAgainst m.dir = false) (hh : ¬s.HandleHolds d r) (ho : m.dir = .opening → s.orderHeld d = false)
    (hk : m.StoppedBy s.uptime r g.lagTolerance k) : s.MotionStopped t d m k := by
  obtain ⟨-, -, -, -, kc, -⟩ := hT.door.keeps
  have hne := Report.doorState_ne_endState hl
  have hw := Door.worked_of_stopped (v := v) (g := g) hm hl ha hh ho hk
  have hconds : ∀ k', t.doors[d].conds.dirOf k' =
      r.doorState.drops ((s.doors[d].worked (s.orderHeld d) s.uptime v g r).conds.dirOf k') := fun k' => by
    rw [kc, Door.replied_conds, Door.judgedConds_dirOf, (s.doors[d].worked_shows _ _ _ _ _).state]
  have hretry := s.doors[d].heard_retry s.uptime r
  have hentry := s.doors[d].heard_entry s.uptime r
  have hfailed := s.doors[d].heard_dirOf s.uptime r .closeFailed
  obtain ⟨y, hy⟩ : ∃ y, y = s.doors[d].heard s.uptime r := ⟨_, rfl⟩
  rw [← hy] at hw hretry hentry hfailed
  obtain ⟨wm, ws, wr, we, wk⟩ := y.haltedBy_fields (s.orderHeld d) s.uptime m k hk.stops
  have hdone := y.haltedBy_done (s.orderHeld d) s.uptime m k ho
  have hdoor := hT.door_of_done (by rw [hw, we, hentry, he]) (by rw [hw]; exact hdone.imp_right .inl)
  rw [hw] at hdoor hconds
  refine ⟨?_, ?_, ?_, ?_, fun h => ?_, fun h hd => ?_, fun h hd _ => ?_⟩
  · rw [hdoor]
    exact wm
  · rw [hdoor]
    exact ws
  · rw [hdoor]
    exact wr.trans hretry
  · rw [hconds, wk, DoorState.drops_of_ne hne]
  · rw [hdoor, Door.haltedBy_of_retry _ _ _ _ _ (hretry.trans_lt h)]
    exact ⟨rfl, rfl⟩
  · have hc := y.haltedBy_of_close (s.orderHeld d) s.uptime m k (h.trans_eq hretry.symm) hd
    refine ⟨?_, ?_⟩
    · refine (hconds .closeFailed).trans ?_
      rw [hc]
      rw [hd] at hne
      exact DoorState.drops_of_ne hne
    · rw [hdoor, hc]
      exact ⟨rfl, fun hheld => if_pos hheld, fun hheld => if_neg (by rw [hheld]; nofun)⟩
  · have hc := y.haltedBy_of_open (s.orderHeld d) s.uptime m k (h.trans_eq hretry.symm) hd
    refine ⟨?_, ?_, fun hn => ?_⟩
    · rw [hdoor, hc]
    · rw [hdoor, hc]
    · have hcf : (y.conds.enterEnd k .opening).dirOf .closeFailed = y.conds.dirOf .closeFailed := by
        rcases hk.stops with rfl | rfl <;> rfl
      refine (hconds .closeFailed).trans ?_
      rw [hc, hcf, hfailed]
      exact congrArg r.doorState.drops hn

/-- A motion that its report lets run on, at the end of the event (R83, R86). -/
theorem State.TakesPoll.of_runs {lag : Nat}
    (hT : s.TakesPoll t b q d (s.doors[d].replied (s.orderHeld d) s.uptime v g r)) (hp : s.doors[d].phase = .driving)
    (he : s.doors[d].entry = none)
    (hm : s.doors[d].move = .started m) (hl : r.limit m.dir = false ∨ r.doorState = .disagree)
    (ha : r.handleAgainst m.dir = false) (hh : ¬s.HandleHolds d r)
    (hob : ¬(m.dir = .closing ∧ r.obstruction = true)) (hr : m.RunsOn s.uptime r.position g.lagTolerance lag) :
    t.doors[d].move = .started { m with lag := lag } ∧ t.doors[d].phase = .driving
      ∧ t.doors[d].retry = s.doors[d].retry
      ∧ t.doors[d].slot = if s.doors[d].slot = r.echo then .none else s.doors[d].slot := by
  have hw := Door.worked_of_runs (v := v) (g := g) hp hm hl ha hh hob hr
  have hph := (s.doors[d].heard_phase s.uptime r).trans hp
  have hdoor := hT.door_of_done (by rw [hw]; exact (Door.heard_entry _ _ _).trans he)
    (.inr (.inl (by rw [hw]; exact fun k => Phase.noConfusion (hph.symm.trans k))))
  rw [hdoor, hw]
  exact ⟨rfl, hph, Door.heard_retry _ _ _, Door.heard_slot _ _ _⟩

end

/-- Settles O49: past the tests of the limit and of the handle a report stops the motion, or counts its lag. -/
theorem obstructedClosesRetryOrFail : Obligations.ObstructedClosesRetryOrFail := by
  unfold Obligations.ObstructedClosesRetryOrFail
  intro s b bytes q r d v m hpow hp hq hr hd hv hb hflow _ hm hl ha hh
  obtain ⟨t, hexec, hT⟩ := State.reply_takesPoll hpow hp hq hr hd hv hb
  obtain ⟨hph, he⟩ := Door.flowWf_started hflow hm
  have not_obstructed : m.dir = .opening ∨ r.obstruction = false → ¬(m.dir = .closing ∧ r.obstruction = true) := by
    rintro (h | h) ⟨hd', hob⟩
    · exact Dir.noConfusion (hd'.symm.trans h)
    · exact Bool.noConfusion (hob.symm.trans h)
  refine ⟨t, hexec, fun hd' hob => ?_, fun hno => ⟨fun hc hlag h1 ho => ?_, fun lag hlag => ?_⟩⟩
  · refine hT.of_stopped he hm hl ha hh (fun h => ?_) (.inl ⟨hd', hob, rfl⟩)
    exact Dir.noConfusion (hd'.symm.trans h)
  · exact hT.of_stopped he hm hl ha hh ho
      (.inr ⟨not_obstructed hno, Motion.stalls_iff.mpr ⟨hc, hlag, h1⟩, rfl⟩)
  · exact hT.of_runs hph he hm hl ha hh (not_obstructed hno) hlag

end Sys2Proof.Machine
end


section
/-! SUPPORT. Travel Timing (R72 to R75): no stage of the travel allowance shortens it. -/

namespace Sys2Proof.Machine

open Sys2Proof

/-- A division that rounds up is at least every number whose product with the divisor fits the dividend (R72). -/
theorem le_ceilDiv {a b n : Nat} (hb : 0 < b) (h : n * b ≤ a) : n ≤ ceilDiv a b :=
  (Nat.le_div_iff_mul_le hb).mpr (by omega)

/-- The heel lengthens the allowance (R73). -/
theorem tNom_le_base1 (tNom k h : Nat) : tNom ≤ base1 tNom k h :=
  le_ceilDiv (by decide) (Nat.mul_le_mul_left tNom (Nat.le_add_right 10000 _))

/-- The pressure as counted is at most P_nom (R74). -/
theorem pEff_le_pNom (g : GroupRec) (pressure : Option Nat) : pEff g pressure ≤ g.pNom := Nat.min_le_left _ _

/-- P_nom of at least 2 leaves a P_floor above 0, and so a divisor above 0 in R74. -/
theorem pEff_pos {g : GroupRec} (hg : 2 ≤ g.pNom) (pressure : Option Nat) : 0 < pEff g pressure := by
  have hfloor : 0 < g.pFloor := Nat.div_pos hg (by decide)
  exact lt_min (by omega) (lt_max_of_lt_left hfloor)

/-- The pressure lengthens the allowance (R74). -/
theorem le_base2 {g : GroupRec} (hg : 2 ≤ g.pNom) (b1 : Nat) (pressure : Option Nat) : b1 ≤ base2 b1 g pressure :=
  le_ceilDiv (pEff_pos hg pressure) (Nat.mul_le_mul_left b1 (pEff_le_pNom g pressure))

/-- The margin lengthens the allowance (R75). -/
theorem le_base3 (b2 : Nat) (g : GroupRec) : b2 ≤ base3 b2 g :=
  le_ceilDiv (by decide) (Nat.mul_le_mul_left b2 (Nat.le_add_right 100 _))

/-- Settles O60: each stage is at least the one before it, and the cap is applied last. -/
theorem allowanceLiesWithinItsBounds : Obligations.AllowanceLiesWithinItsBounds := by
  intro r g h pressure hcap hnom
  have hstages :=
    calc r.tNom
      _ ≤ base1 r.tNom r.heelFactor h := tNom_le_base1 _ _ _
      _ ≤ base2 _ g pressure := le_base2 (by omega) _ pressure
      _ ≤ base3 _ g := le_base3 _ g
  exact ⟨le_min hstages hcap, Nat.min_le_right _ _⟩

end Sys2Proof.Machine
end


section
/-! SUPPORT. One request of an event to the alarm list (R107 to R109): the raise of a pair that is absent, and the clear of
an active entry that is not acknowledged. -/

namespace Sys2Proof.Machine

open Sys2Proof

variable {j : Subject} {k : AlarmKind} {x : AlarmEntry}

/-- A raise of a pair neither listed nor marked, with room in the list, adds an entry at its tail (R108). -/
theorem State.takeRaise_of_room {s : State} (he : s.alarms.entry j k = none) (hm : s.alarms.mark j k = none)
    (hr : s.alarms.entries.length < 64) : s.takeRaise j k = s.listNew j k := by
  simp only [State.takeRaise, he, hm, if_pos hr]

/-- A clear of an active, unacknowledged entry of a kind that stays listed makes it inactive (R109). -/
theorem State.takeClear_alarms_of_unacked {s : State} (he : s.alarms.entry j k = some x) (ha : x.active = true)
    (hb : x.ackBy = none) (hk : k.isNotice = false) :
    (s.takeClear j k).alarms = s.alarms.replace { x with active := false } := by
  simp [State.takeClear, he, ha, hb, hk]

/-- Such a clear removes no entry, so that no room is filled after it (R113). -/
theorem State.reqRemoves_clear_of_unacked {s : State} (he : s.alarms.entry j k = some x) (hb : x.ackBy = none)
    (hk : k.isNotice = false) : s.reqRemoves (.clear j k) = false := by
  simp [State.reqRemoves, he, hb, hk]

/-- The entry of a pair, once another entry of that pair stands in its place. -/
theorem Alarms.entry_replace {a : Alarms} {y : AlarmEntry} (he : a.entry j k = some x) (hs : y.subject = j)
    (hk : y.kind = k) : (a.replace y).entry j k = some y := by
  subst hs hk
  have hy : y.isPair y.subject y.kind = true := (y.isPair_iff _ _).mpr ⟨rfl, rfl⟩
  have hx : x.isPair y.subject y.kind = true := (x.isPair_iff _ _).mpr (Alarms.entry_some he).2
  have hpair : ((fun z => z.isPair y.subject y.kind) ∘ fun z => if z.isPair y.subject y.kind then y else z) =
      fun z => z.isPair y.subject y.kind := by
    funext z
    by_cases hz : z.isPair y.subject y.kind = true <;> simp [hz, hy]
  unfold Alarms.entry at he
  rw [Alarms.entry, Alarms.replace, List.find?_map, hpair, he, Option.map_some, if_pos hx]

end Sys2Proof.Machine
end


section
/-! SUPPORT. The heel sources (R76, R77, R79): an event that changes the heel record alone and asks at most one thing of
the alarm list. -/

namespace Sys2Proof.Machine

open Sys2Proof

/-! ### The heel record -/

theorem Heel.put_judged (h : Heel) (src : HeelSrc) (x : HeelSource) : (h.put src x).judged = h.judged := by
  cases src <;> rfl

/-- One source stale: neither is fresh when the other is stale too. -/
theorem Heel.put_noneFresh_of_stale (h : Heel) {src other : HeelSrc} (ho : other ≠ src) {x : HeelSource}
    (hx : x.fresh = false) : (h.put src x).noneFresh = !(h.get other).fresh := by
  cases src <;> cases other
  case primary.primary | secondary.secondary => exact absurd rfl ho
  all_goals simp [Heel.put, Heel.get, Heel.noneFresh, hx]

/-! ### Events that change the heel record -/

/-- The event that gives the heel record `h` and hands the requests `rs` to the Alarm Unit. -/
def State.heelEvent (s : State) (h : Heel) (rs : List AlarmReq) : Ev := { s with heel := h, reqs := rs }

/-- The judgement of a changed heel record asks for HEEL-STALE, or for nothing (R79). -/
theorem State.heelEvent_judgeHeel (s : State) (h : Heel) :
    (s.heelEvent h []).judgeHeel =
      s.heelEvent h (if h.noneFresh && h.judged then [.raise .device .heelStale] else []) := by
  unfold Ev.judgeHeel State.heelEvent
  dsimp only
  split <;> rfl

/-- A HEEL frame taken clears HEEL-STALE when its source was stale (R76, R79). -/
theorem State.begin_takeHeel (s : State) (src : HeelSrc) (v : BitVec 16) :
    s.begin.takeHeel src v =
      s.heelEvent (s.heel.put src ⟨some (clampHeel v), s.uptime, true⟩)
        (if (s.heel.get src).fresh then [] else [.clear .device .heelStale]) := by
  unfold Ev.takeHeel State.heelEvent
  rw [State.begin_heel]
  split <;> rfl

theorem State.begin_heelStale (s : State) (src : HeelSrc) :
    s.begin.heelStale src =
      (s.heelEvent (s.heel.put src { s.heel.get src with fresh := false }) []).judgeHeel := rfl

theorem State.begin_firstJudge (s : State) :
    s.begin.firstJudge = (s.heelEvent { s.heel with judged := true } []).judgeHeel := rfl

section Event

variable {s : State} {h : Heel} {rs : List AlarmReq}

/-- Such an event changes the heel and nothing else of the outer part. -/
theorem State.heelEvent_outer : (s.heelEvent h rs).settle.outer = { s.outer with heel := h } := by
  rw [Ev.settle_outer]
  rfl

/-- Where no bank waits, the alarm list takes the requests of the event. -/
theorem State.heelEvent_alarms (hb : s.bankPending = false) :
    ∃ u : State, u.alarms = s.alarms ∧ u.uptime = s.uptime
      ∧ (s.heelEvent h rs).settle.alarms = (u.takeReqs false rs).alarms :=
  ⟨(s.heelEvent h rs).arbiters.toState, (Ev.arbiters_alarms _).1, (Ev.arbiters_alarms _).2,
    Ev.settle_alarms (Ev.swapIfQuiescent_of_not_pending _ hb)⟩

/-- Without a request the list stays as it is. -/
theorem State.heelEvent_alarms_of_noReq (hb : s.bankPending = false) : (s.heelEvent h []).settle.alarms = s.alarms := by
  obtain ⟨u, hu, -, hset⟩ := s.heelEvent_alarms (h := h) (rs := []) hb
  rw [hset, State.takeReqs_nil, hu]

/-- A raise of an absent pair, with room in the list (R108). -/
theorem State.heelEvent_listed {j : Subject} {k : AlarmKind} (hb : s.bankPending = false)
    (he : s.alarms.entry j k = none) (hm : s.alarms.mark j k = none) (hr : s.alarms.entries.length < 64) :
    (s.heelEvent h [.raise j k]).settle.alarms.entries = s.alarms.entries ++ [⟨j, k, s.uptime, true, none, 1⟩] := by
  obtain ⟨u, hu, ht, hset⟩ := s.heelEvent_alarms (h := h) (rs := [.raise j k]) hb
  rw [← hu] at he hm hr
  have htake : u.takeReqs false [.raise j k] = u.listNew j k := State.takeRaise_of_room he hm hr
  rw [hset, htake, State.listNew_alarms, hu, ht]
  rfl

/-- A clear of an active, unacknowledged entry (R109). -/
theorem State.heelEvent_cleared {j : Subject} {k : AlarmKind} {x : AlarmEntry} (hb : s.bankPending = false)
    (he : s.alarms.entry j k = some x) (ha : x.active = true) (hx : x.ackBy = none) (hk : k.isNotice = false) :
    (s.heelEvent h [.clear j k]).settle.alarms.entry j k = some { x with active := false } := by
  obtain ⟨u, hu, -, hset⟩ := s.heelEvent_alarms (h := h) (rs := [.clear j k]) hb
  obtain ⟨-, hsub, hkind⟩ := Alarms.entry_some he
  rw [← hu] at he
  have htake : (u.takeReqs false [.clear j k]).alarms = u.alarms.replace { x with active := false } := by
    rw [State.takeReqs_one, State.reqRemoves_clear_of_unacked he hx hk]
    exact State.takeClear_alarms_of_unacked he ha hx hk
  rw [hset, htake]
  exact Alarms.entry_replace he hsub hkind

/-- A judgement with neither source fresh lists HEEL-STALE, where it is absent and the list has room (R79, R107). -/
theorem State.judged_listed (hb : s.bankPending = false) (hn : h.noneFresh = true) (hj : h.judged = true)
    (he : s.alarms.entry .device .heelStale = none) (hm : s.alarms.mark .device .heelStale = none)
    (hr : s.alarms.entries.length < 64) :
    (s.heelEvent h []).judgeHeel.settle.alarms.entries =
      s.alarms.entries ++ [⟨.device, .heelStale, s.uptime, true, none, 1⟩] := by
  rw [State.heelEvent_judgeHeel, hn, hj, Bool.and_self, if_pos rfl]
  exact State.heelEvent_listed hb he hm hr

/-- With a fresh source, or before the first judgement, a judgement leaves the list (R79). -/
theorem State.judged_alarms_of_not (hb : s.bankPending = false) (hn : (h.noneFresh && h.judged) = false) :
    (s.heelEvent h []).judgeHeel.settle.alarms = s.alarms := by
  rw [State.heelEvent_judgeHeel, hn, if_neg Bool.false_ne_true]
  exact State.heelEvent_alarms_of_noReq hb

theorem State.judged_outer : (s.heelEvent h []).judgeHeel.settle.outer = { s.outer with heel := h } := by
  rw [State.heelEvent_judgeHeel, State.heelEvent_outer]

end Event

/-! ### The commands -/

section Commands

variable {s : State} {src : HeelSrc} (hp : s.powered = true)
include hp

theorem exec_heel {route : Route} {value : BitVec 16}
    (hd : s.deliver ⟨kindHeel, route, bytes16 value⟩ = .travelTiming src) :
    exec (.heel route value) s = .next (s.begin.takeHeel src value).settle := by
  show execHeel route value s = _
  simp only [execHeel, State.live, hp, hd, if_true]

theorem exec_heelSourceStale (hd : (s.heel.get src).staleDue s.uptime = true) :
    exec (.heelSourceStale src) s = .next (s.begin.heelStale src).settle := by
  show execHeelSourceStale src s = _
  simp only [execHeelSourceStale, State.live, hp, hd, if_true]

theorem exec_heelStaleFirstJudge (hd : s.firstJudgeDue = true) :
    exec .heelStaleFirstJudge s = .next s.begin.firstJudge.settle := by
  show execHeelStaleFirstJudge s = _
  simp only [execHeelStaleFirstJudge, State.live, hp, hd, if_true]

/-- A frame that reaches Travel Timing is taken for its source, unless it is too short (R76). -/
theorem exec_trunkFrame_of_travelTiming {bytes : List Byte} {f : RxFrame} (hf : parseFrame bytes = some f)
    (hd : s.deliver f = .travelTiming src) :
    exec (.trunkFrame bytes) s = .next (s.takeHeelFrame src f.payload) := by
  show execTrunkFrame bytes s = _
  simp only [execTrunkFrame, State.live, hp, State.hear, hf, State.takeFrame, hd, if_true]

end Commands

/-- Settles O30: the source takes the clamped value, and a source that was stale clears HEEL-STALE. -/
theorem heelWritesItsSource : Obligations.HeelWritesItsSource := by
  intro s hp
  refine ⟨fun route value src hd => ?_, fun bytes f src hf hd hlen => ?_⟩
  · have hexec := exec_heel hp hd
    rw [State.begin_takeHeel] at hexec
    refine ⟨_, hexec, State.heelEvent_outer, fun x hstale hx ha hb hk => ?_⟩
    rw [hstale, if_neg Bool.false_ne_true]
    exact State.heelEvent_cleared hk hx ha hb rfl
  · rw [exec_trunkFrame_of_travelTiming hp hf hd, State.takeHeelFrame, if_pos hlen]

/-- Settles O31: a staleness and the first judgement are each one judgement of a changed heel record. -/
theorem heelSourcesGoStale : Obligations.HeelSourcesGoStale := by
  intro s hp
  refine ⟨fun src hfresh hage => ?_, fun ht hj => ?_⟩
  · have hdue : (s.heel.get src).staleDue s.uptime = true := by simp [HeelSource.staleDue, hfresh, hage]
    refine ⟨_, exec_heelSourceStale hp hdue, ?_, fun other ho hb => ?_⟩ <;> rw [State.begin_heelStale]
    · exact State.judged_outer
    · have hnone := s.heel.put_noneFresh_of_stale ho (x := { s.heel.get src with fresh := false }) rfl
      have hjudged := s.heel.put_judged src { s.heel.get src with fresh := false }
      refine ⟨fun hstale hj he hm hr => ?_, fun hno => ?_⟩
      · exact State.judged_listed hb (by rw [hnone, hstale]; rfl) (hjudged.trans hj) he hm hr
      · refine congrArg Alarms.entries (State.judged_alarms_of_not hb ?_)
        rw [hnone, hjudged]
        rcases hno with h | h <;> simp [h]
  · have hdue : s.firstJudgeDue = true := by simp [State.firstJudgeDue, ht, hj]
    refine ⟨_, exec_heelStaleFirstJudge hp hdue, ?_, fun hn he hm hr hb => ?_⟩ <;> rw [State.begin_firstJudge]
    · exact State.judged_outer
    · exact State.judged_listed hb hn rfl he hm hr

end Sys2Proof.Machine
end

section
/-! SUPPORT. What the freeze rule reads (R95, R96), and every operation of an event up to its end leaves: the indication
record, the uptime, the own id and the queued parts. -/

namespace Sys2Proof.Machine

open Sys2Proof

/-! ### The indication side of the state -/

/-- The indication record, the uptime, the own id and the INDICATION parts that wait. -/
def State.indicated (s : State) : Indication × Time × Station × List TxFrame :=
  (s.ind, s.uptime, s.trunk.ownId, s.trunk.parts)

theorem Ev.Touches.indicated {d : Slot} {e e' : Ev} (h : Ev.Touches d e e') : e'.indicated = e.indicated := by
  rw [h.rest]
  rfl

theorem Ev.SetsSources.indicated {e e' : Ev} (h : e.SetsSources e') : e'.indicated = e.indicated := by
  rw [h.rest]
  rfl

/-! ### Enrollment -/

theorem Ev.bindPair_indicated (e : Ev) (b : BranchId) (p : Serial × Nat) : (e.bindPair b p).indicated = e.indicated := by
  unfold Ev.bindPair
  split
  · exact (e.modDoor_touches _ _).indicated
  · rfl

theorem Ev.markUnbound_indicated (e : Ev) (b : BranchId) : (e.markUnbound b).indicated = e.indicated := by
  refine foldl_keeps (fun e : Ev => e.indicated) _ (fun e p => ?_) _ _
  split
  · exact (e.enterLevel_touches p.1 _).indicated
  · rfl

theorem Ev.closeRun_indicated (e : Ev) (b : BranchId) (n : Option Serial) : (e.closeRun b n).indicated = e.indicated := by
  unfold Ev.closeRun
  split
  · rfl
  · next r _ =>
    have hpairs : (r.pairs.foldl (fun e p => e.bindPair b p) e).indicated = e.indicated :=
      foldl_keeps (fun e : Ev => e.indicated) _ (fun e p => e.bindPair_indicated b p) _ _
    cases n <;> exact (Ev.markUnbound_indicated _ b).trans hpairs

theorem Ev.endRun_indicated (e : Ev) (b : BranchId) (n : Option Serial) : (e.endRun b n).indicated = e.indicated :=
  e.closeRun_indicated b n

theorem Ev.abortRun_indicated (e : Ev) (b : BranchId) : (e.abortRun b).indicated = e.indicated := e.closeRun_indicated b none

theorem Ev.abortFor_indicated (e : Ev) (d : Slot) : (e.abortFor d).indicated = e.indicated := by
  unfold Ev.abortFor
  split
  · split
    · exact e.abortRun_indicated _
    · rfl
  · rfl

theorem Ev.beginFresh_indicated (e : Ev) (b : BranchId) : (e.beginFresh b).indicated = e.indicated :=
  foldl_keeps (fun e : Ev => e.indicated) _ (fun e (p : Slot × Nat) => (e.modDoor_touches p.1 _).indicated) _ _

theorem Ev.noProgress_indicated (e : Ev) (b : BranchId) (r : Run) {again : Ev → Run → Ev}
    (h : ∀ e r, (again e r).indicated = e.indicated) : (e.noProgress b r again).indicated = e.indicated := by
  unfold Ev.noProgress
  dsimp only
  split
  · exact h _ _
  · exact Ev.endRun_indicated _ b none

theorem Ev.takeAnswer_indicated (e : Ev) (b : BranchId) (r : Run) (serial : Serial) :
    (e.takeAnswer b r serial).indicated = e.indicated := by
  unfold Ev.takeAnswer
  split
  · exact e.noProgress_indicated b r fun _ _ => rfl
  · split
    · rfl
    · exact e.endRun_indicated b _

/-! ### Queue requests and expiries -/

theorem Ev.request_indicated (e : Ev) (d : Slot) (dir : Dir) (o : Origin) (b : Basis) :
    (e.request d dir o b).indicated = e.indicated := by
  unfold Ev.request
  dsimp only
  split
  · exact ((Ev.modDoor_touches _ d _).trans (Ev.toPhase_touches _ d _)).indicated.trans (e.abortFor_indicated d)
  · exact e.abortFor_indicated d

theorem Ev.needClose_indicated (e : Ev) (d : Slot) (o : Origin) : (e.needClose d o).indicated = e.indicated := by
  unfold Ev.needClose
  dsimp only
  split
  · split
    · exact (e.toPhase_touches d _).indicated
    · exact e.request_indicated d _ _ _
  · rfl

theorem Ev.dwellExpired_indicated (e : Ev) (d : Slot) : (e.dwellExpired d).indicated = e.indicated := by
  have idle := (e.toPhase_touches d .idle).indicated
  unfold Ev.dwellExpired
  dsimp only
  split
  · exact (Ev.request_indicated _ d _ _ _).trans idle
  · exact idle

theorem Ev.retryExpired_indicated (e : Ev) (d : Slot) (dir : Dir) (basis : Basis) :
    (e.retryExpired d dir basis).indicated = e.indicated := by
  have idle := (e.toPhase_touches d .idle).indicated
  have again : ∀ dir o b, ((e.toPhase d .idle).request d dir o b).indicated = e.indicated := fun dir o b =>
    (Ev.request_indicated _ d dir o b).trans idle
  have rests : ((e.toPhase d .idle).zeroRetry d).indicated = e.indicated := (Ev.zeroRetry_touches _ d).indicated.trans idle
  unfold Ev.retryExpired
  dsimp only
  repeat' split
  · exact rests
  · exact again _ _ _
  · exact again _ _ _
  · exact again _ _ _
  · exact rests

/-! ### Polls -/

/-- A report is taken on a POLLING branch, where no run is in progress. -/
theorem Ev.pollAnswered_indicated (e : Ev) (b : BranchId) (p : Poll) (r : Report) (hb : e.branches[b].isPolling = true) :
    (e.pollAnswered b p r).indicated = e.indicated := by
  unfold Ev.pollAnswered
  dsimp only
  split
  · next d hd =>
    obtain ⟨v, hv, rfl, -⟩ := State.doorAt_some hd
    have hn : (e.modBranch v.branch (Branch.afterPoll p)).NoRunFor d :=
      State.noRunFor_of_polling hv (by rw [Ev.modBranch_same]; exact hb)
    rw [hv]
    exact (Ev.takeReport_spec _ d v r hn).1.indicated
  · rfl

theorem Ev.takeMiss_indicated (e : Ev) (d : Slot) : (e.takeMiss d).indicated = e.indicated := by
  have miss := e.modDoor_touches d fun x => { x with miss := min 3 (x.miss + 1) }
  unfold Ev.takeMiss
  dsimp only
  split
  · exact ((miss.trans (Ev.modDoor_touches _ d _)).trans (Ev.enterLevel_touches _ d _)).indicated
  · exact miss.indicated

theorem Ev.pollMissed_indicated (e : Ev) (b : BranchId) (p : Poll) : (e.pollMissed b p).indicated = e.indicated := by
  unfold Ev.pollMissed
  dsimp only
  split
  · exact Ev.takeMiss_indicated _ _
  · rfl

/-! ### Orders and swaps -/

theorem Ev.orderSet_indicated (e : Ev) (d : Slot) : (e.orderSet d).indicated = e.indicated := by
  have outcome : ∀ e : Ev, (e.orderOutcome d).indicated = e.indicated := fun e => by
    unfold Ev.orderOutcome
    dsimp only
    split
    · split
      · exact (Ev.enterLevel_touches _ d _).indicated.trans (e.needClose_indicated d _)
      · exact e.needClose_indicated d _
    · rfl
  exact (outcome _).trans ((Ev.withdrawOpen_touches _ d).indicated.trans (e.abortFor_indicated d))

theorem Ev.handOrder_indicated (before : State) (e : Ev) (d : Slot) : (e.handOrder before d).indicated = e.indicated := by
  unfold Ev.handOrder
  split
  · exact e.orderSet_indicated d
  · exact (e.orderRelease_touches d).indicated
  · rfl

theorem Ev.recompute_indicated (before : State) (e : Ev) : (e.recompute before).indicated = e.indicated :=
  foldl_keeps (fun e : Ev => e.indicated) _ (fun e (p : Slot × DoorRec) => e.handOrder_indicated before p.1) _ _

theorem Ev.sourcesChanged_indicated (before : State) (e : Ev) : (e.sourcesChanged before).indicated = e.indicated := by
  refine (Ev.recompute_indicated before _).trans ?_
  split
  · unfold Ev.cancelPending
    split <;> rfl
  · rfl

theorem Ev.abortRuns_indicated (e : Ev) : e.abortRuns.indicated = e.indicated := by
  refine foldl_keeps (fun e : Ev => e.indicated) _ (fun e b => ?_) _ _
  split
  · exact e.abortRun_indicated b
  · rfl

theorem Ev.rederive_indicated (now : Time) (bs : Banks) (e : Ev) : (e.rederive now bs).indicated = e.indicated := by
  simp only [Ev.rederive, Ev.modDoors, State.indicated]

theorem Ev.swapDrop_indicated (old : State) (e : Ev) (d : Slot) : (e.swapDrop old d).indicated = e.indicated := by
  unfold Ev.swapDrop
  split <;> rfl

theorem Ev.swapLost_indicated (old : State) (e : Ev) (d : Slot) : (e.swapLost old d).indicated = e.indicated := by
  have lost := (e.enterLevel_touches d .linkLost).indicated
  unfold Ev.swapLost
  split
  · split
    · rfl
    · exact lost
  · exact lost
  · rfl

theorem Ev.swapRequests_indicated (old : State) (hadNone : Bool) (e : Ev) :
    (e.swapRequests old hadNone).indicated = e.indicated := by
  have drops : (slots.foldl (fun e d => Ev.swapDrop old e d) e).indicated = e.indicated :=
    foldl_keeps (fun e : Ev => e.indicated) _ (Ev.swapDrop_indicated old) _ _
  refine (foldl_keeps (fun e : Ev => e.indicated) _ (Ev.swapLost_indicated old) _ _).trans ?_
  cases hadNone <;> exact drops

theorem Ev.swap_indicated (e : Ev) (id : BankId) : (e.swap id).indicated = e.indicated := by
  rw [Ev.swap_eq]
  exact (Ev.recompute_indicated _ _).trans
    ((Ev.swapRequests_indicated _ _ _).trans ((Ev.rederive_indicated _ _ _).trans e.abortRuns_indicated))

/-! ### Panel commands -/

theorem Ev.doorClose_indicated (e : Ev) (d : Slot) : (e.doorClose d).1.indicated = e.indicated := by
  have close : ∀ e₁ : Ev, Ev.Touches d e e₁ → (e₁.requestRemote d .closing).indicated = e.indicated := fun e₁ h =>
    (e₁.request_indicated d _ _ _).trans h.indicated
  unfold Ev.doorClose
  dsimp only
  repeat' split
  · rfl
  · rfl
  · rfl
  · rfl
  · exact close _ (e.endHalted_touches d)
  · exact close _ ((e.toPhase_touches d _).trans (Ev.zeroRetry_touches _ d))
  · exact close _ (.refl d e)

theorem Ev.doorOpen_indicated (e : Ev) (d : Slot) : (e.doorOpen d).1.indicated = e.indicated := by
  have opens : (e.requestRemote d .opening).indicated = e.indicated := e.request_indicated d _ _ _
  unfold Ev.doorOpen
  dsimp only
  split_ifs
  case neg => exact opens
  all_goals rfl

theorem Ev.doorStop_indicated (e : Ev) (d : Slot) : (e.doorStop d).1.indicated = e.indicated := by
  unfold Ev.doorStop
  split
  · rfl
  · split
    · exact (e.dropEntry_touches d _).indicated
    · exact ((e.place_touches d _).trans (Ev.dropMove_touches _ d _)).indicated
    · exact (e.endHalted_touches d).indicated
    · exact ((e.toPhase_touches d _).trans (Ev.zeroRetry_touches _ d)).indicated
    · rfl

theorem Ev.rearm_indicated (e : Ev) (d : Slot) : (e.rearm d).indicated = e.indicated := by
  have rearmed : ∀ p, (((e.zeroRetry d).toPhase d p)).indicated = e.indicated := fun p =>
    ((e.zeroRetry_touches d).trans (Ev.toPhase_touches _ d p)).indicated
  unfold Ev.rearm
  split
  · dsimp only
    split
    · exact rearmed _
    · exact (Ev.needClose_indicated _ d _).trans (rearmed _)
  · rfl

/-- Every command of Table 9-4. -/
theorem panelCmd_indicated {code operand kind : Byte} {c : PanelCmd} (h : panelCmd code operand kind = some c) (src : Station)
    (p : PanelRec) (e : Ev) : (c.act src p e).1.indicated = e.indicated := by
  have sources : ∀ {e₁ : Ev}, e.SetsSources e₁ → (e₁.sourcesChanged e.toState).indicated = e.indicated := fun h =>
    (Ev.sourcesChanged_indicated _ _).trans h.indicated
  have door : ∀ f : Ev → Slot → Ev × Answer, (∀ d, (f e d).1.indicated = e.indicated) →
      ((cmdDoor operand f).act src p e).1.indicated = e.indicated := fun f hf => by
    dsimp only [cmdDoor]
    split
    · exact hf _
    · rfl
  unfold panelCmd at h
  split at h <;> cases h
  · dsimp only [cmdCloseZone]
    split
    · unfold Ev.closeZone
      split
      · rfl
      · exact sources (e.setMode_sets _ _ _)
    · rfl
  · exact sources (e.closeAll_sets p src)
  · dsimp only [cmdReleaseZone]
    split
    · exact sources (e.setMode_sets _ _ _)
    · rfl
  · exact sources ((e.setModes_sets _ _ _).trans (Ev.latches_set Ev.latchRelease_sets _ _))
  · exact door _ e.doorClose_indicated
  · exact door _ e.doorOpen_indicated
  · exact door _ e.doorStop_indicated
  · dsimp only [cmdAck]
    split
    · unfold Ev.ackOne
      dsimp only
      split
      · exact Ev.rearm_indicated _ _
      · rfl
    · rfl
  · exact foldl_keeps (fun e : Ev => e.indicated) _ Ev.rearm_indicated _ _

theorem Ev.orderUnit_indicated (e : Ev) (src : Station) (tag code : Byte) {c : Option PanelCmd}
    (hc : ∀ x, c = some x → ∃ operand kind, panelCmd code operand kind = some x) :
    (e.orderUnit src tag code c).indicated = e.indicated := by
  unfold Ev.orderUnit
  split
  · rfl
  · next p x hx =>
    obtain ⟨rfl, -⟩ := State.checkCommand_inr hx
    obtain ⟨operand, kind, hk⟩ := hc x rfl
    exact panelCmd_indicated hk src p e

/-! ### Management requests -/

/-- A request whose service leaves the indication side. -/
def ServesIndicated (f : Ev → Ev × Reply) : Prop := ∀ e : Ev, (f e).1.indicated = e.indicated

theorem reads_indicated : (∀ part, ServesIndicated fun e => e.identify part)
    ∧ (∀ page, ServesIndicated fun e => e.readStatus page) ∧ (∀ slot part, ServesIndicated fun e => e.readDoor slot part)
    ∧ (∀ bank table index part, ServesIndicated fun e => e.readRecord bank table index part)
    ∧ (∀ chunk, ServesIndicated fun e => e.readAlarms chunk) ∧ ServesIndicated Ev.askRestart := by
  refine ⟨fun part e => ?_, fun page e => ?_, fun slot part e => ?_, fun bank table index part e => ?_, fun chunk e => ?_,
    fun e => rfl⟩
  all_goals dsimp only [Ev.identify, Ev.readStatus, Ev.readDoor, Ev.readRecord, Ev.readAlarms]
  all_goals repeat' split
  all_goals rfl

theorem loads_indicated : (ServesIndicated fun e => e.loadBegin)
    ∧ (∀ table index bytes, ServesIndicated fun e => e.loadChunk table index bytes)
    ∧ (∀ check, ServesIndicated fun e => e.loadEnd check) ∧ ServesIndicated fun e => e.startStore := by
  refine ⟨fun e => ?_, fun table index bytes e => ?_, fun check e => ?_, fun e => ?_⟩
  all_goals dsimp only [Ev.loadBegin, Ev.loadChunk, Ev.loadEnd, Ev.startStore]
  all_goals repeat' split
  all_goals rfl

theorem activateBank_indicated (from_ : BankState) : ServesIndicated fun e => e.activateBank from_ := by
  intro e
  dsimp only [Ev.activateBank]
  split
  · rfl
  · next id _ =>
    split
    · rfl
    · split
      · exact e.swap_indicated id
      · rfl

theorem enroll_indicated (branch mode : Byte) : ServesIndicated fun e => e.enroll branch mode := by
  intro e
  dsimp only [Ev.enroll]
  repeat' split
  case h_3.isFalse.isTrue => exact e.beginFresh_indicated _
  all_goals rfl

theorem forgetForeign_indicated (branch : Byte) : ServesIndicated fun e => e.forgetForeign branch := by
  intro e
  dsimp only [Ev.forgetForeign]
  split <;> rfl

/-- Every request of Table 10-3, by its payload. -/
theorem requestOf_indicated (code : Byte) (ops : List Byte) : ServesIndicated (Ev.requestOf code ops) := by
  obtain ⟨identify, readStatus, readDoor, readRecord, readAlarms, askRestart⟩ := reads_indicated
  obtain ⟨loadBegin, loadChunk, loadEnd, startStore⟩ := loads_indicated
  intro e
  unfold Ev.requestOf
  split
  · rfl
  · unfold Ev.request_
    split
    · exact identify _ e
    · exact readStatus _ e
    · exact readDoor _ _ e
    · exact readRecord _ _ _ _ e
    · exact readAlarms _ e
    · exact loadBegin e
    · exact loadChunk _ _ _ e
    · exact loadEnd _ e
    · exact activateBank_indicated _ e
    · exact activateBank_indicated _ e
    · exact startStore e
    · exact enroll_indicated _ _ e
    · exact forgetForeign_indicated _ e
    · exact askRestart e
    · rfl

/-- Every request of Table 10-3, by its row. -/
theorem requestRow_indicated {c : Instr} {row : RequestRow} (h : requestRow c = some row) : ServesIndicated row.serve := by
  obtain ⟨identify, readStatus, readDoor, readRecord, readAlarms, askRestart⟩ := reads_indicated
  obtain ⟨loadBegin, loadChunk, loadEnd, startStore⟩ := loads_indicated
  cases c <;> cases h
  case identify => exact identify _
  case readStatus => exact readStatus _
  case readDoor => exact readDoor _ _
  case readRecord => exact readRecord _ _ _ _
  case readAlarms => exact readAlarms _
  case loadBegin => exact loadBegin
  case loadChunk => exact loadChunk _ _ _
  case loadEnd => exact loadEnd _
  case activate => exact activateBank_indicated _
  case rollback => exact activateBank_indicated _
  case store => exact startStore
  case enroll => exact enroll_indicated _ _
  case forgetForeign => exact forgetForeign_indicated _
  case restartRequest => exact askRestart

/-! ### Heel and transmission -/

theorem State.heelEvent_judged_indicated (s : State) (h : Heel) : (s.heelEvent h []).judgeHeel.indicated = s.indicated := by
  rw [State.heelEvent_judgeHeel]
  rfl

theorem State.takeHeel_indicated (s : State) (src : HeelSrc) (v : BitVec 16) : (s.begin.takeHeel src v).indicated = s.indicated := by
  rw [State.begin_takeHeel]
  rfl

theorem Ev.transmitError_indicated (e : Ev) : e.transmitError.indicated = e.indicated := by
  unfold Ev.transmitError
  dsimp only
  split <;> rfl

theorem State.startSending_indicated (s : State) : ({ s with trunk := s.trunk.start } : State).indicated = s.indicated := by
  unfold Trunk.start
  split <;> rfl

/-! ### Alarm requests -/

theorem State.takeReq_indicated (s : State) (r : AlarmReq) : (s.takeReq r).indicated = s.indicated := by
  cases r with
  | raise j k =>
    show (s.takeRaise j k).indicated = _
    unfold State.takeRaise
    dsimp only
    repeat' split
    all_goals rfl
  | clear j k =>
    show (s.takeClear j k).indicated = _
    unfold State.takeClear
    dsimp only
    repeat' split
    all_goals rfl
  | ack j k st =>
    show (s.takeAck j k st).indicated = _
    unfold State.takeAck
    dsimp only
    repeat' split
    all_goals rfl
  | drop j => exact foldl_keeps State.indicated State.unlist (fun _ _ => rfl) _ s
  | removalsDone => rfl

theorem State.fillFrom_indicated (s : State) (ms : List Mark) : (s.fillFrom ms).indicated = s.indicated := by
  induction ms generalizing s with
  | nil => rfl
  | cons m ms ih =>
    unfold State.fillFrom
    split
    · exact ih _
    · rfl

theorem State.takeReqs_indicated (s : State) (freed : Bool) (rs : List AlarmReq) :
    (s.takeReqs freed rs).indicated = s.indicated := by
  induction rs generalizing s freed with
  | nil => rfl
  | cons r rs ih =>
    unfold State.takeReqs
    split
    · exact (ih _ _).trans ((State.fillFrom_indicated _ _).trans (s.takeReq_indicated r))
    · exact (ih _ _).trans (s.takeReq_indicated r)

theorem State.reannounced_indicated (s : State) : s.reannounced.indicated = s.indicated := by
  unfold State.reannounced State.reannounce
  repeat' split
  all_goals rfl

/-- Up to the live image, the end of an event leaves the indication side. -/
theorem Ev.takeAlarms_indicated (e : Ev) : e.swapIfQuiescent.arbiters.takeAlarms.indicated = e.indicated := by
  have swaps : e.swapIfQuiescent.indicated = e.indicated := by
    unfold Ev.swapIfQuiescent
    split
    · next id _ =>
      split
      · exact e.swap_indicated id
      · rfl
    · rfl
  have admits : e.swapIfQuiescent.arbiters.indicated = e.swapIfQuiescent.indicated := by
    rw [(Ev.arbiters_arbitrates _).rest]
    rfl
  exact (State.takeReqs_indicated _ _ _).trans (admits.trans swaps)

theorem State.sendPolls_indicated (s : State) : s.sendPolls.indicated = s.indicated := by
  rw [State.sendPolls_rest]
  rfl

end Sys2Proof.Machine
end

section
/-! SUPPORT. The freeze of a generation (R95, R96): when one is taken, what it leaves, and that no command that resets
nothing takes one otherwise. -/

namespace Sys2Proof.Machine

open Sys2Proof

/-! ### The freeze rule -/

/-- A new generation is the next one, frozen when no part was outstanding and 0.2 s after the last freeze (R95, R96). -/
def State.FreezesApart (s t : State) : Prop :=
  t.ind.generation ≠ s.ind.generation →
    s.ind.outstanding = 0 ∧ 2 ≤ elapsed s.uptime s.ind.lastFreeze
      ∧ t.ind.generation = s.ind.generation + 1 ∧ t.ind.frozen = some t.ind.live
      ∧ t.ind.lastFreeze = s.uptime ∧ t.ind.outstanding = 5
      ∧ t.trunk.parts = s.trunk.parts ++ partsOf s.trunk.ownId t.ind.generation t.ind.live

namespace State.FreezesApart

variable {s s' t t' : State}

theorem of_indicated (h : t.indicated = s.indicated) : s.FreezesApart t := fun hg =>
  absurd (congrArg (fun p => p.1.generation) h) hg

/-- Only the indication sides of the two states matter. -/
theorem congr (h : s.FreezesApart t) (hs : s'.indicated = s.indicated) (ht : t'.indicated = t.indicated) : s'.FreezesApart t' := by
  simp only [State.indicated, Prod.mk.injEq] at hs ht
  obtain ⟨hsi, hsu, hso, hsp⟩ := hs
  obtain ⟨hti, -, -, htp⟩ := ht
  unfold State.FreezesApart
  rw [hsi, hsu, hso, hsp, hti, htp]
  exact h

/-- A command with a condition. -/
theorem ite {c : Prop} [Decidable c] (h : s.FreezesApart t) : s.FreezesApart (if c then t else s) := by
  split
  · exact h
  · exact of_indicated rfl

end State.FreezesApart

theorem State.freezeDue_iff (s : State) : s.freezeDue = true ↔ s.ind.outstanding = 0 ∧
    (s.ind.frozen ≠ some s.ind.live ∧ 2 ≤ elapsed s.uptime s.ind.lastFreeze ∨ 20 ≤ elapsed s.uptime s.ind.lastFreeze) := by
  simp [State.freezeDue]

/-- A freeze after the first takes the next number (R96). -/
theorem State.freeze_of_frozen {s : State} (h : s.ind.frozen ≠ none) :
    s.freeze = { s with
      ind := ⟨s.ind.live, some s.ind.live, s.ind.generation + 1, s.uptime, 5⟩
      trunk := { s.trunk with parts := s.trunk.parts ++ partsOf s.trunk.ownId (s.ind.generation + 1) s.ind.live } } := by
  have hn : s.ind.frozen.isNone = false := Option.isNone_eq_false_iff.mpr (Option.isSome_iff_ne_none.mpr h)
  simp only [State.freeze, hn, if_neg Bool.false_ne_true]

/-- The first freeze keeps the number, so that it is no new generation. -/
theorem State.freeze_generation_of_none {s : State} (h : s.ind.frozen = none) : s.freeze.ind.generation = s.ind.generation := by
  simp only [State.freeze, h, Option.isNone_none, if_true]

/-- A judgement on a part that has frozen a generation. -/
theorem State.judgeFreeze_of_frozen {s : State} (h : s.ind.frozen ≠ none) {c : Prop} [Decidable c] (hc : s.freezeDue = true ↔ c) :
    s.judgeFreeze = if c then
      { s with
        ind := ⟨s.ind.live, some s.ind.live, s.ind.generation + 1, s.uptime, 5⟩
        trunk := { s.trunk with parts := s.trunk.parts ++ partsOf s.trunk.ownId (s.ind.generation + 1) s.ind.live } }
      else s := by
  rw [State.judgeFreeze, State.freeze_of_frozen h]
  simp only [hc]

theorem State.judgeFreeze_apart (s : State) : s.FreezesApart s.judgeFreeze := by
  unfold State.judgeFreeze
  split
  · next hd =>
    intro hg
    obtain ⟨ho, hw⟩ := s.freezeDue_iff.mp hd
    have hf : s.ind.frozen ≠ none := fun hn => hg (State.freeze_generation_of_none hn)
    rw [State.freeze_of_frozen hf]
    exact ⟨ho, by omega, rfl, rfl, rfl, rfl, rfl⟩
  · exact .of_indicated rfl

/-- A change of the live image is judged at once, by the last freeze before it (R93, R95). -/
theorem State.updateLive_apart (s : State) : s.FreezesApart s.updateLive := by
  unfold State.updateLive
  split
  · exact .of_indicated rfl
  · exact State.judgeFreeze_apart { s with ind := { s.ind with live := s.picture } }

/-- The end of an event whose operations left the indication side. -/
theorem Ev.settle_apart {s : State} {e : Ev} (h : e.indicated = s.indicated) : s.FreezesApart e.settle :=
  (State.updateLive_apart _).congr (e.takeAlarms_indicated.trans h).symm (State.sendPolls_indicated _)

/-! ### Frames -/

section Frames

variable (s : State)

theorem State.commandFrame_apart (route : Route) (payload : List Byte) (tag code : Byte) {c : Option PanelCmd}
    (hc : ∀ x, c = some x → ∃ operand kind, panelCmd code operand kind = some x) :
    s.FreezesApart (s.commandFrame route payload tag code c) := by
  unfold State.commandFrame
  split
  · exact Ev.settle_apart (s.begin.orderUnit_indicated _ _ _ hc)
  · exact .of_indicated rfl
  · exact .of_indicated rfl

theorem State.requestFrame_apart (route : Route) (payload : List Byte) (tag code : Byte) {f : Ev → Ev × Reply}
    (hf : ServesIndicated f) : s.FreezesApart (s.requestFrame route payload tag code f) := by
  unfold State.requestFrame
  split
  · exact Ev.settle_apart (hf s.begin)
  · exact .of_indicated rfl
  · exact .of_indicated rfl

theorem State.takeFrame_apart (f : RxFrame) : s.FreezesApart (s.takeFrame f) := by
  unfold State.takeFrame
  split
  · exact .of_indicated rfl
  · exact .of_indicated rfl
  · unfold State.takeCommand
    split
    · exact .of_indicated rfl
    · exact Ev.settle_apart (s.begin.orderUnit_indicated _ _ _ fun x hx => ⟨_, _, hx⟩)
  · unfold State.takeHeelFrame
    split
    · exact .of_indicated rfl
    · exact Ev.settle_apart (s.takeHeel_indicated _ _)
  · unfold State.takeRequest
    split
    · exact .of_indicated rfl
    · exact Ev.settle_apart (requestOf_indicated _ _ s.begin)

theorem State.hear_apart (bytes : List Byte) : s.FreezesApart (s.hear bytes) := by
  unfold State.hear
  split
  · exact s.takeFrame_apart _
  · exact .of_indicated rfl

end Frames

/-! ### The commands, one by one -/

/-- An outcome whose next state has no new generation but by the freeze rule. -/
def State.FreezesApartBy (s : State) (o : Host.Outcome State Fault Refusal) : Prop := ∀ t, o = .next t → s.FreezesApart t

theorem State.live_apart {s : State} {f : State → State} (hf : s.FreezesApart (f s)) : s.FreezesApartBy (s.live f) := by
  intro t h
  rcases State.live_next h with rfl | rfl
  · exact .of_indicated rfl
  · exact hf

section Commands

variable (s : State)

theorem panelRow_apart {c : Instr} {row : PanelRow} (h : panelRow c = some row) : s.FreezesApartBy (exec c s) := by
  rw [exec_panelRow h]
  exact State.live_apart (s.commandFrame_apart _ _ _ _ fun y hy => Option.some.inj hy ▸ panelRow_cmd h)

theorem requestRow_apart {c : Instr} {row : RequestRow} (h : requestRow c = some row) : s.FreezesApartBy (exec c s) := by
  have he : exec c s = s.live fun s => s.requestFrame row.route row.payload row.tag row.code row.serve := by
    cases c <;> cases h <;> rfl
  rw [he]
  exact State.live_apart (s.requestFrame_apart _ _ _ _ (requestRow_indicated h))

theorem execHeel_apart (route : Route) (value : BitVec 16) : s.FreezesApartBy (execHeel route value s) := by
  refine State.live_apart ?_
  split
  · exact Ev.settle_apart (s.takeHeel_indicated _ value)
  · exact .of_indicated rfl

theorem execStoreEnd_apart (readBack : NvImage) : s.FreezesApartBy (execStoreEnd readBack s) := by
  refine State.live_apart ?_
  split
  · split <;> exact .of_indicated rfl
  · exact .of_indicated rfl

theorem execTransmitStart_apart : s.FreezesApartBy (execTransmitStart s) :=
  State.live_apart (f := fun s => { s with trunk := s.trunk.start }) (.of_indicated s.startSending_indicated)

theorem execStatusReply_apart (b : BranchId) (bytes : List Byte) : s.FreezesApartBy (execStatusReply b bytes s) := by
  refine State.live_apart ?_
  split
  · next q hq =>
    split
    · exact Ev.settle_apart (s.begin.pollAnswered_indicated b q _ (Branch.poll?_some hq).1)
    · exact .of_indicated rfl
  · exact .of_indicated rfl

theorem execPollMiss_apart (b : BranchId) : s.FreezesApartBy (execPollMiss b s) := by
  refine State.live_apart ?_
  split
  · exact Ev.settle_apart (s.begin.pollMissed_indicated b _)
  · exact .of_indicated rfl

theorem execLineSample_apart (b : BranchId) (low : Bool) : s.FreezesApartBy (execLineSample b low s) :=
  State.live_apart (Ev.settle_apart ((Ev.sourcesChanged_indicated _ _).trans (Ev.sample_sets _ b).indicated))

theorem execRetryExpiry_apart (d : Slot) : s.FreezesApartBy (execRetryExpiry d s) := by
  refine State.live_apart ?_
  split
  · exact Ev.settle_apart (s.begin.retryExpired_indicated d _ _)
  · exact .of_indicated rfl

theorem execIssueDeadlineExpiry_apart (d : Slot) : s.FreezesApartBy (execIssueDeadlineExpiry d s) := by
  refine State.live_apart ?_
  split
  · exact Ev.settle_apart (s.begin.issueExpired_touches d _).indicated
  · exact .of_indicated rfl

theorem execDeadlineExpiry_apart (d : Slot) : s.FreezesApartBy (execDeadlineExpiry d s) := by
  refine State.live_apart ?_
  split
  · exact Ev.settle_apart (s.begin.endTimeout_touches d _).indicated
  · exact .of_indicated rfl

theorem execCallAnswer_apart (b : BranchId) (serial : Serial) : s.FreezesApartBy (execCallAnswer b serial s) := by
  refine State.live_apart ?_
  split
  · exact Ev.settle_apart (s.begin.takeAnswer_indicated b _ serial)
  · exact .of_indicated rfl

theorem execAssignSent_apart (b : BranchId) : s.FreezesApartBy (execAssignSent b s) := by
  refine State.live_apart ?_
  split
  · exact Ev.settle_apart rfl
  · exact .of_indicated rfl

theorem execCallAnswerFault_apart (b : BranchId) : s.FreezesApartBy (execCallAnswerFault b s) := by
  refine State.live_apart ?_
  split
  · exact Ev.settle_apart (s.begin.noProgress_indicated b _ fun _ _ => rfl)
  · exact .of_indicated rfl

theorem execCallNoAnswer_apart (b : BranchId) : s.FreezesApartBy (execCallNoAnswer b s) := by
  refine State.live_apart ?_
  split
  · exact Ev.settle_apart (s.begin.endRun_indicated b none)
  · exact .of_indicated rfl

end Commands

/-- Every command that resets nothing. -/
theorem exec_apart (c : Instr) (s : State) (hc : c.resets = false) : s.FreezesApartBy (exec c s) := by
  cases hp : panelRow c with
  | some row => exact panelRow_apart s hp
  | none =>
    cases hr : requestRow c with
    | some row => exact requestRow_apart s hr
    | none =>
      cases c with
      | powerOnReset | restartPin | powerLoss | transmitSuccess => cases hc
      | trunkFrame bytes => exact State.live_apart (f := fun s => s.hear bytes) (s.hear_apart bytes)
      | arbitrationLost winner => exact State.live_apart (.ite ((State.hear_apart s.stopSending winner).congr rfl rfl))
      | heel route value => exact execHeel_apart s route value
      | storeEnd readBack => exact execStoreEnd_apart s readBack
      | transmitStart => exact execTransmitStart_apart s
      | transmitError => exact State.live_apart (.ite (Ev.settle_apart s.begin.transmitError_indicated))
      | statusReply b bytes => exact execStatusReply_apart s b bytes
      | pollMiss b => exact execPollMiss_apart s b
      | lineSample b low => exact execLineSample_apart s b low
      | dwellExpiry d => exact State.live_apart (.ite (Ev.settle_apart (s.begin.dwellExpired_indicated d)))
      | retryExpiry d => exact execRetryExpiry_apart s d
      | warningLeadExpiry d => exact State.live_apart (.ite (Ev.settle_apart (s.begin.leadExpired_touches d).indicated))
      | issueDeadlineExpiry d => exact execIssueDeadlineExpiry_apart s d
      | deadlineExpiry d => exact execDeadlineExpiry_apart s d
      | linkLostHoldExpiry d => exact State.live_apart (.ite (Ev.settle_apart (s.begin.holdsExpired_touches d).indicated))
      | heelSourceStale src => exact State.live_apart (.ite (Ev.settle_apart (s.heelEvent_judged_indicated _)))
      | heelStaleFirstJudge => exact State.live_apart (.ite (Ev.settle_apart (s.heelEvent_judged_indicated _)))
      | reannounceExpiry => exact State.live_apart (.ite (.of_indicated s.reannounced_indicated))
      | spacingPoint => exact State.live_apart (.ite s.judgeFreeze_apart)
      | refreshPoint => exact State.live_apart (.ite s.judgeFreeze_apart)
      | snapshotRelease => exact State.live_apart (.ite (.of_indicated rfl))
      | callAnswer b serial => exact execCallAnswer_apart s b serial
      | assignSent b => exact execAssignSent_apart s b
      | callAnswerFault b => exact execCallAnswerFault_apart s b
      | callNoAnswer b => exact execCallNoAnswer_apart s b
      | closeZone | closeAll | releaseZone | releaseAll | doorClose | doorOpen | doorStop | ack | ackAll => cases hp
      | _ => cases hr

/-! ### The spacing point and the refresh point -/

theorem exec_spacingPoint {s : State} (hp : s.powered = true) (he : elapsed s.uptime s.ind.lastFreeze = 2) :
    exec .spacingPoint s = .next s.judgeFreeze := by
  show execSpacingPoint s = _
  simp only [execSpacingPoint, State.live, hp, State.atSpacing, he, beq_self_eq_true, if_true]

theorem exec_refreshPoint {s : State} (hp : s.powered = true) (he : elapsed s.uptime s.ind.lastFreeze = 20) :
    exec .refreshPoint s = .next s.judgeFreeze := by
  show execRefreshPoint s = _
  simp only [execRefreshPoint, State.live, hp, State.atRefresh, he, beq_self_eq_true, if_true]

/-! ### The obligations -/

/-- Settles O15: an event reaches the freeze rule with the indication side as it found it, and judges it at most once. -/
theorem generationsAreFrozenApart : Obligations.GenerationsAreFrozenApart := by
  unfold Obligations.GenerationsAreFrozenApart
  exact fun c s t hc h => exec_apart c s hc t h

/-- Settles O59: at 2 tenths the freeze rule asks for a changed image, at 20 tenths for nothing more. -/
theorem pointsFreezeWhenDue : Obligations.PointsFreezeWhenDue := by
  intro s hp
  refine ⟨fun hf he => ?_, fun hf he => ?_⟩
  · have due : s.freezeDue = true ↔ s.ind.outstanding = 0 ∧ s.ind.frozen ≠ some s.ind.live := by
      simp [State.freezeDue_iff, he]
    rw [exec_spacingPoint hp he, State.judgeFreeze_of_frozen hf due]
  · have due : s.freezeDue = true ↔ s.ind.outstanding = 0 := by
      simp [State.freezeDue_iff, he]
    rw [exec_refreshPoint hp he, State.judgeFreeze_of_frozen hf due]

end Sys2Proof.Machine
end

section
/-! SUPPORT. R104 over the requests of an event: what each request leaves of the list and the marks (R107 to R110, R118),
and the filling of the room that the removals of the event free (R113). -/

namespace Sys2Proof.Machine

open Sys2Proof

/-! ### The parts of R104 -/

/-- What R104 asks at every moment of an event: all but its last clause, which waits while freed room is not yet filled. -/
structure Alarms.Legal (a : Alarms) : Prop extends a.PairsWf where
  length : a.entries.length ≤ 64
  standing : ∀ x ∈ a.entries, x.Standing

/-- The last clause of R104: marks only while the list holds 64 entries. -/
def Alarms.Packed (a : Alarms) : Prop := a.marks ≠ [] → a.entries.length = 64

theorem Alarms.wf_iff {a : Alarms} : a.Wf ↔ a.Legal ∧ a.Packed := by
  constructor
  · intro h
    obtain ⟨hl, -, hs, -, -, hp⟩ := id h
    exact ⟨⟨h.pairsWf, hl, hs⟩, hp⟩
  · rintro ⟨h, hp⟩
    refine ⟨h.length, h.entries, h.standing, h.marks, fun m hm => Alarms.entry_none.mpr fun x hx => ?_, hp⟩
    refine Bool.eq_false_iff.mpr fun k => Bool.eq_false_iff.mp (h.apart x hx m hm) ?_
    obtain ⟨hs, hk⟩ := (x.isPair_iff _ _).mp k
    exact (m.isPair_iff _ _).mpr ⟨hs.symm, hk.symm⟩

theorem Alarms.mark_none {a : Alarms} {j : Subject} {k : AlarmKind} :
    a.mark j k = none ↔ ∀ m ∈ a.marks, m.isPair j k = false := by
  simp [Alarms.mark]

/-! ### The order of the marks (R113) -/

theorem Subject.code_injective : Function.Injective Subject.code := by
  intro x y h
  cases x <;> cases y <;> simp only [Subject.code] at h
  case door.door d e => rw [Fin.ext h]
  case branch.branch b c => rw [Fin.ext (show b.val = c.val by omega)]
  case device.device => rfl
  all_goals omega

theorem AlarmKind.ofCode_code (k : AlarmKind) : AlarmKind.ofCode k.code = some k := by
  cases k <;> rfl

theorem AlarmKind.code_injective : Function.Injective AlarmKind.code := fun x y h =>
  Option.some.inj (by rw [← AlarmKind.ofCode_code x, h, AlarmKind.ofCode_code])

theorem Mark.before_iff (x y : Mark) : x.before y = true ↔
    x.subject.code < y.subject.code ∨ x.subject.code = y.subject.code ∧ x.kind.code < y.kind.code := by
  simp [Mark.before]

theorem Mark.before_trans {x y z : Mark} (h : x.before y = true) (k : y.before z = true) : x.before z = true := by
  rw [Mark.before_iff] at *
  omega

/-- Marks of different pairs stand in the order one way or the other. -/
theorem Mark.before_of_not {x y : Mark} (h : x.before y ≠ true) (hp : y.isPair x.subject x.kind = false) :
    y.before x = true := by
  have hne : ¬(y.subject.code = x.subject.code ∧ y.kind.code = x.kind.code) := fun ⟨hs, hk⟩ =>
    Bool.eq_false_iff.mp hp ((y.isPair_iff _ _).mpr ⟨Subject.code_injective hs, AlarmKind.code_injective hk⟩)
  rw [Ne, Mark.before_iff] at h
  rw [Mark.before_iff]
  omega

theorem mem_insertMark {m x : Mark} {l : List Mark} : x ∈ insertMark m l ↔ x = m ∨ x ∈ l := by
  induction l with
  | nil => simp [insertMark]
  | cons y l ih =>
    unfold insertMark
    split
    · rw [List.mem_cons]
    · rw [List.mem_cons, ih, List.mem_cons, or_left_comm]

/-- A mark of a new pair takes its place in the order. -/
theorem insertMark_pairwise {m : Mark} {l : List Mark} (h : l.Pairwise fun x y => x.before y = true)
    (hm : ∀ x ∈ l, x.isPair m.subject m.kind = false) : (insertMark m l).Pairwise fun x y => x.before y = true := by
  induction l with
  | nil => exact List.pairwise_singleton _ _
  | cons y l ih =>
    obtain ⟨hy, hl⟩ := List.pairwise_cons.mp h
    unfold insertMark
    split
    · next hb =>
      refine List.pairwise_cons.mpr ⟨fun x hx => ?_, h⟩
      rcases List.mem_cons.mp hx with rfl | hx
      · exact hb
      · exact Mark.before_trans hb (hy x hx)
    · next hb =>
      refine List.pairwise_cons.mpr ⟨fun x hx => ?_, ih hl fun x hx => hm x (List.mem_cons_of_mem _ hx)⟩
      rcases mem_insertMark.mp hx with rfl | hx
      · exact Mark.before_of_not hb (hm y List.mem_cons_self)
      · exact hy x hx

/-! ### Changes of the list and the marks -/

namespace Alarms.Legal

variable {a b : Alarms}

/-- Fewer entries and fewer marks. -/
theorem sub (h : a.Legal) (he : b.entries.Sublist a.entries) (hm : b.marks.Sublist a.marks) : b.Legal where
  entries := h.entries.sublist he
  marks := h.marks.sublist hm
  apart x hx m hm' := h.apart x (he.subset hx) m (hm.subset hm')
  length := he.length_le.trans h.length
  standing x hx := h.standing x (he.subset hx)

theorem without (h : a.Legal) (j : Subject) (k : AlarmKind) : (a.without j k).Legal :=
  h.sub List.filter_sublist (List.Sublist.refl _)

theorem unmark (h : a.Legal) (j : Subject) (k : AlarmKind) : (a.unmark j k).Legal :=
  h.sub (List.Sublist.refl _) List.filter_sublist

theorem replace (h : a.Legal) {y : AlarmEntry} (hy : y.Standing) : (a.replace y).Legal := by
  have pair : ∀ x : AlarmEntry, (if x.isPair y.subject y.kind then y else x).subject = x.subject
      ∧ (if x.isPair y.subject y.kind then y else x).kind = x.kind := fun x => by
    split
    · next hp => exact ((x.isPair_iff _ _).mp hp).imp Eq.symm Eq.symm
    · exact ⟨rfl, rfl⟩
  refine ⟨⟨h.entries.map _ fun x z hxz => ?_, h.marks, fun x hx m hm => ?_⟩, ?_, fun x hx => ?_⟩
  · rwa [AlarmEntry.Differs, (pair x).1, (pair x).2, (pair z).1, (pair z).2]
  · obtain ⟨z, hz, rfl⟩ := List.mem_map.mp hx
    rw [(pair z).1, (pair z).2]
    exact h.apart z hz m hm
  · rw [Alarms.replace, List.length_map]
    exact h.length
  · obtain ⟨z, hz, rfl⟩ := List.mem_map.mp hx
    split
    · exact hy
    · exact h.standing z hz

/-- An entry of a pair that is neither listed nor marked joins a list with room. -/
theorem append (h : a.Legal) {y : AlarmEntry} (hy : y.Standing) (hl : a.entries.length < 64)
    (he : a.entry y.subject y.kind = none) (hm : a.mark y.subject y.kind = none) : (a.append y).Legal := by
  refine ⟨⟨?_, h.marks, fun x hx m hmm => ?_⟩, ?_, fun x hx => ?_⟩
  · refine List.pairwise_append.mpr ⟨h.entries, List.pairwise_singleton _ _, fun x hx z hz => ?_⟩
    rw [List.mem_singleton.mp hz]
    exact fun hp => Bool.false_ne_true ((Alarms.entry_none.mp he x hx).symm.trans ((x.isPair_iff _ _).mpr hp))
  · rcases List.mem_append.mp hx with hx | hx
    · exact h.apart x hx m hmm
    · rw [List.mem_singleton.mp hx]
      exact Alarms.mark_none.mp hm m hmm
  · rw [Alarms.append, List.length_append, List.length_singleton]
    exact hl
  · rcases List.mem_append.mp hx with hx | hx
    · exact h.standing x hx
    · rwa [List.mem_singleton.mp hx]

/-- A pair that is not listed is marked, or marked anew. -/
theorem setMark (h : a.Legal) {m : Mark} (he : a.entry m.subject m.kind = none) : (a.setMark m).Legal := by
  refine ⟨⟨h.entries, insertMark_pairwise (h.marks.filter _) fun x hx => ?_, fun x hx y hy => ?_⟩, h.length, h.standing⟩
  · simpa using (List.mem_filter.mp hx).2
  · rcases mem_insertMark.mp hy with rfl | hy
    · refine Bool.eq_false_iff.mpr fun hp => Bool.eq_false_iff.mp (Alarms.entry_none.mp he x hx) ?_
      obtain ⟨hs, hk⟩ := (y.isPair_iff _ _).mp hp
      exact (x.isPair_iff _ _).mpr ⟨hs.symm, hk.symm⟩
    · exact h.apart x hx y (List.mem_filter.mp hy).1

/-- A listed pair is not marked. -/
theorem mark_of_entry (h : a.Legal) {j : Subject} {k : AlarmKind} {x : AlarmEntry} (he : a.entry j k = some x) :
    a.mark j k = none := by
  obtain ⟨hx, rfl, rfl⟩ := Alarms.entry_some he
  exact Alarms.mark_none.mpr (h.apart x hx)

theorem entry_of_mem (h : a.Legal) {x : AlarmEntry} (hx : x ∈ a.entries) : a.entry x.subject x.kind = some x := by
  have hp : x.isPair x.subject x.kind = true := (x.isPair_iff _ _).mpr ⟨rfl, rfl⟩
  cases he : a.entry x.subject x.kind with
  | none => exact absurd hp (Bool.eq_false_iff.mp (Alarms.entry_none.mp he x hx))
  | some y => rw [(h.entry_unique he hx).mp hp]

/-- A pair has at most one entry: its removal frees one place. -/
theorem without_length (h : a.Legal) {j : Subject} {k : AlarmKind} {x : AlarmEntry} (he : a.entry j k = some x) :
    (a.without j k).entries.length + 1 = a.entries.length := by
  have hx := (Alarms.entry_some he).1
  have hnd : a.entries.Nodup := h.entries.imp fun k hxy => k ⟨congrArg _ hxy, congrArg _ hxy⟩
  have hf : (a.without j k).entries = a.entries.erase x := by
    rw [hnd.erase_eq_filter x, Alarms.without]
    exact List.filter_congr fun y hy => by
      rw [Bool.eq_iff_iff, Bool.not_eq_true', Bool.eq_false_iff, Ne, h.entry_unique he hy, bne_iff_ne]
  rw [hf, List.length_erase_of_mem hx]
  have := List.length_pos_of_mem hx
  omega

end Alarms.Legal

theorem Alarms.without_entry (a : Alarms) (j : Subject) (k : AlarmKind) : (a.without j k).entry j k = none := by
  rw [Alarms.entry_eq, Alarms.ofPair_without_same]
  rfl

/-- No pair enters the list by a removal. -/
theorem Alarms.without_entry_of_none {a : Alarms} {j : Subject} {k : AlarmKind} (h : a.entry j k = none) (j' : Subject)
    (k' : AlarmKind) : (a.without j' k').entry j k = none :=
  Alarms.entry_none.mpr fun x hx => Alarms.entry_none.mp h x (List.mem_filter.mp hx).1

/-! ### The requests, one by one -/

theorem countUp_bounds (n : Nat) : 1 ≤ countUp n ∧ countUp n ≤ 255 := by
  unfold countUp
  omega

theorem AlarmEntry.standing_of_active {x : AlarmEntry} (ha : x.active = true) (hc : 1 ≤ x.count ∧ x.count ≤ 255) :
    x.Standing := ⟨fun h => absurd (ha.symm.trans h) (by decide), hc⟩

/-- A new entry: active, unacknowledged, raised once (R108). -/
theorem AlarmEntry.standing_of_new (j : Subject) (k : AlarmKind) (now : Time) :
    (⟨j, k, now, true, none, 1⟩ : AlarmEntry).Standing :=
  AlarmEntry.standing_of_active rfl ⟨Nat.le_refl 1, Nat.le_add_left 1 254⟩

section Requests

variable {s : State}

/-- A new pair joins a list with room (R108). -/
theorem State.listNew_legal (h : s.alarms.Legal) {j : Subject} {k : AlarmKind} (hl : s.alarms.entries.length < 64)
    (he : s.alarms.entry j k = none) (hm : s.alarms.mark j k = none) : (s.listNew j k).alarms.Legal :=
  h.append (AlarmEntry.standing_of_new j k s.uptime) hl he hm

/-- A raise of a listed pair counts up its entry, in its place or anew at the tail (R107). -/
theorem State.takeRaise_legal_of_entry (h : s.alarms.Legal) {j : Subject} {k : AlarmKind} {x : AlarmEntry}
    (he : s.alarms.entry j k = some x) :
    (s.takeRaise j k).alarms.Legal ∧ (s.alarms.Packed → (s.takeRaise j k).alarms.Packed) := by
  have hfree := h.without_length he
  have hlen := h.length
  rw [State.takeRaise, he]
  obtain ⟨-, rfl, rfl⟩ := Alarms.entry_some he
  dsimp only
  split
  · next ha =>
    rw [State.noticeEntry_alarms, State.withAlarms_alarms]
    refine ⟨h.replace (AlarmEntry.standing_of_active ha (countUp_bounds _)), fun hp hm => ?_⟩
    rw [Alarms.replace, List.length_map]
    exact hp hm
  · rw [State.noticeEntry_alarms, State.withAlarms_alarms]
    refine ⟨(h.without _ _).append (AlarmEntry.standing_of_active rfl (countUp_bounds _)) (by omega)
      (Alarms.without_entry _ _ _) (h.mark_of_entry he), fun hp hm => ?_⟩
    rw [Alarms.append, List.length_append, List.length_singleton, hfree]
    exact hp hm

/-- A raise of a pair that is not listed: it is marked where it is marked already or no entry can leave, and listed
where there is room or an acknowledged entry leaves (R107, R108). -/
theorem State.takeRaise_legal_of_noEntry (h : s.alarms.Legal) {j : Subject} {k : AlarmKind} (he : s.alarms.entry j k = none) :
    (s.takeRaise j k).alarms.Legal ∧ (s.alarms.Packed → (s.takeRaise j k).alarms.Packed) := by
  rw [State.takeRaise, he]
  dsimp only
  split
  · next m hm =>
    rw [State.putMark_alarms]
    exact ⟨h.setMark he, fun hp _ => hp (List.ne_nil_of_mem (Alarms.mark_some hm).1)⟩
  · next hm =>
    split
    · next hl =>
      exact ⟨State.listNew_legal h hl he hm, fun hp hne => absurd (hp hne) (Nat.ne_of_lt hl)⟩
    · next hl =>
      have hlen : s.alarms.entries.length = 64 := Nat.le_antisymm h.length (Nat.le_of_not_lt hl)
      split
      · next old ho =>
        have hfree := h.without_length (h.entry_of_mem (List.mem_of_find?_eq_some ho))
        have hroom : (s.unlist old).alarms.entries.length < 64 := by
          rw [State.unlist_alarms]
          omega
        refine ⟨State.listNew_legal (h.without _ _) hroom (Alarms.without_entry_of_none he _ _) hm, fun _ _ => ?_⟩
        rw [State.listNew_alarms, Alarms.append, List.length_append, List.length_singleton, State.unlist_alarms, hfree, hlen]
      · rw [State.putMark_alarms]
        exact ⟨h.setMark he, fun _ _ => hlen⟩

/-- A raise makes no room: with the list packed before it is so after it (R107, R108). -/
theorem State.takeRaise_legal (h : s.alarms.Legal) (j : Subject) (k : AlarmKind) :
    (s.takeRaise j k).alarms.Legal ∧ (s.alarms.Packed → (s.takeRaise j k).alarms.Packed) := by
  cases he : s.alarms.entry j k with
  | some x => exact State.takeRaise_legal_of_entry h he
  | none => exact State.takeRaise_legal_of_noEntry h he

/-- A clear makes room only where it removes an entry (R109, R113). -/
theorem State.takeClear_legal (h : s.alarms.Legal) (j : Subject) (k : AlarmKind) :
    (s.takeClear j k).alarms.Legal
      ∧ (s.reqRemoves (.clear j k) = false → s.alarms.Packed → (s.takeClear j k).alarms.Packed) := by
  unfold State.takeClear
  split
  · next x he =>
    have hx := h.standing x (Alarms.entry_some he).1
    obtain ⟨-, -, rfl⟩ := Alarms.entry_some he
    split
    · next ha =>
      dsimp only
      split
      · next hc =>
        refine ⟨h.without _ _, fun hr => ?_⟩
        simp only [State.reqRemoves, he, ha, hc, Bool.and_self] at hr
        cases hr
      · next hc =>
        rw [State.noticeEntry_alarms, State.withAlarms_alarms]
        simp only [Bool.or_eq_true, not_or, Bool.not_eq_true, Option.isSome_eq_false_iff, Option.isNone_iff_eq_none] at hc
        refine ⟨h.replace ⟨fun _ => ⟨hc.2, hc.1⟩, hx.2⟩, fun _ hp hm => ?_⟩
        rw [Alarms.replace, List.length_map]
        exact hp hm
    · exact ⟨h, fun _ => id⟩
  · split
    · rw [State.noticeMark_alarms, State.withAlarms_alarms]
      exact ⟨h.unmark j k, fun _ hp hm => hp fun hn => hm (by rw [Alarms.unmark, hn]; rfl)⟩
    · exact ⟨h, fun _ => id⟩

/-- An acknowledgement makes room only where it removes an entry (R110, R113). -/
theorem State.takeAck_legal (h : s.alarms.Legal) (j : Subject) (k : AlarmKind) (st : Station) :
    (s.takeAck j k st).alarms.Legal
      ∧ (s.reqRemoves (.ack j k st) = false → s.alarms.Packed → (s.takeAck j k st).alarms.Packed) := by
  have hacked := s.takeAck_alarms h.toPairsWf j k st
  refine ⟨?_, fun hr hp hm => ?_⟩
  · rw [hacked]
    refine ⟨h.toPairsWf.acked st _ _, (List.length_filterMap_le _ _).trans h.length, fun y hy => ?_⟩
    obtain ⟨x, hx, hxy⟩ := List.mem_filterMap.mp hy
    have hs := h.standing x hx
    split at hxy
    · unfold AlarmEntry.acked at hxy
      split at hxy
      · next ha =>
        cases hxy
        exact AlarmEntry.standing_of_active ha hs.2
      · cases hxy
    · cases hxy
      exact hs
  · rw [State.takeAck_length h.toPairsWf hr]
    refine hp fun hn => hm ?_
    rw [hacked, Alarms.acked, hn]
    rfl

/-- Removals leave the marks, and of the entries some. -/
theorem State.foldl_unlist_alarms (l : List AlarmEntry) (s : State) :
    (l.foldl State.unlist s).alarms.entries.Sublist s.alarms.entries
      ∧ (l.foldl State.unlist s).alarms.marks = s.alarms.marks := by
  induction l generalizing s with
  | nil => exact ⟨List.Sublist.refl _, rfl⟩
  | cons x l ih =>
    obtain ⟨he, hm⟩ := ih (s.unlist x)
    exact ⟨he.trans List.filter_sublist, hm⟩

/-- The removal of a subject makes room only where it removes an entry (R113, R118). -/
theorem State.takeDrop_legal (h : s.alarms.Legal) (j : Subject) :
    (s.takeDrop j).alarms.Legal
      ∧ (s.reqRemoves (.drop j) = false → s.alarms.Packed → (s.takeDrop j).alarms.Packed) := by
  obtain ⟨he, hm⟩ := State.foldl_unlist_alarms (s.alarms.entries.filter fun x => x.subject == j) s
  unfold State.takeDrop
  rw [State.withAlarms_alarms]
  refine ⟨h.sub he (hm ▸ List.filter_sublist), fun hr hp hne => ?_⟩
  have hnone : (s.alarms.entries.filter fun x => x.subject == j) = [] := by
    simpa [State.reqRemoves] using hr
  rw [hnone] at hne ⊢
  exact hp fun hn => hne (List.filter_eq_nil_iff.mpr fun m hm => by rw [List.foldl_nil, hn] at hm; cases hm)

/-- No request leaves the list illegal, and one that removes no entry makes no room (R104, R113). -/
theorem State.takeReq_legal (h : s.alarms.Legal) (r : AlarmReq) :
    (s.takeReq r).alarms.Legal ∧ (s.reqRemoves r = false → s.alarms.Packed → (s.takeReq r).alarms.Packed) := by
  cases r with
  | raise j k => exact ⟨(State.takeRaise_legal h j k).1, fun _ => (State.takeRaise_legal h j k).2⟩
  | clear j k => exact State.takeClear_legal h j k
  | ack j k st => exact State.takeAck_legal h j k st
  | drop j => exact State.takeDrop_legal h j
  | removalsDone => exact ⟨h, fun _ => id⟩

/-! ### The requests of an event -/

/-- The filling of freed room restores the last clause of R104 (R113). -/
theorem Alarms.Legal.filled {a : Alarms} (h : a.Legal) (now : Time) : (a.filled now).Wf := by
  have hmarks : (a.marks.take (64 - a.entries.length) ++ a.marks.drop (64 - a.entries.length)).Pairwise
      fun x y => x.before y = true := by
    rw [List.take_append_drop]
    exact h.marks
  obtain ⟨htake, hdrop, hbefore⟩ := List.pairwise_append.mp hmarks
  have taken : ∀ m ∈ a.marks.take (64 - a.entries.length), m ∈ a.marks := fun m hm => List.mem_of_mem_take hm
  have hlen := h.length
  refine Alarms.wf_iff.mpr ⟨⟨⟨?_, hdrop, fun x hx m hm => ?_⟩, ?_, fun x hx => ?_⟩, fun hm => ?_⟩
  · refine List.pairwise_append.mpr ⟨h.entries, htake.map _ fun x y hxy => Mark.before_irrefl hxy, fun x hx y hy => ?_⟩
    obtain ⟨m, hm, rfl⟩ := List.mem_map.mp hy
    refine fun hp => Bool.eq_false_iff.mp (h.apart x hx m (taken m hm)) ((m.isPair_iff _ _).mpr ?_)
    exact ⟨hp.1.symm, hp.2.symm⟩
  · rcases List.mem_append.mp hx with hx | hx
    · exact h.apart x hx m (List.mem_of_mem_drop hm)
    · obtain ⟨y, hy, rfl⟩ := List.mem_map.mp hx
      refine Bool.eq_false_iff.mpr fun hp => Mark.before_irrefl (hbefore y hy m hm) ?_
      exact ((m.isPair_iff _ _).mp hp).imp Eq.symm Eq.symm
  · simp only [Alarms.filled, List.length_append, List.length_map, List.length_take]
    omega
  · rcases List.mem_append.mp hx with hx | hx
    · exact h.standing x hx
    · obtain ⟨m, -, rfl⟩ := List.mem_map.mp hx
      exact AlarmEntry.standing_of_new _ _ _
  · have := List.length_pos_of_ne_nil hm
    simp only [Alarms.filled, List.length_append, List.length_map, List.length_take, List.length_drop] at this ⊢
    omega

/-- The requests of an event, taken from a legal list: while room is freed and not yet filled, some request is still to
come, after the last of which it is filled. -/
theorem State.takeReqs_wf (rs : List AlarmReq) {s : State} {freed : Bool} (h : s.alarms.Legal)
    (hp : freed = false → s.alarms.Packed) (hr : freed = true → rs ≠ []) : (s.takeReqs freed rs).alarms.Wf := by
  induction rs generalizing s freed with
  | nil => exact Alarms.wf_iff.mpr ⟨h, hp (Bool.eq_false_iff.mpr fun k => hr k rfl)⟩
  | cons r rs ih =>
    obtain ⟨hl, hpack⟩ := State.takeReq_legal h r
    unfold State.takeReqs
    split
    · have hw : (s.takeReq r).fill.alarms.Wf := by
        rw [State.fill_alarms _ hl.marks]
        exact hl.filled _
      exact ih (Alarms.wf_iff.mp hw).1 (fun _ => (Alarms.wf_iff.mp hw).2) nofun
    · next hc =>
      refine ih hl (fun hf => ?_) fun hf hnil => hc ?_
      · obtain ⟨hf, hrm⟩ := Bool.or_eq_false_iff.mp hf
        exact hpack hrm (hp hf)
      · rw [hf, hnil]
        rfl

end Requests

/-- The alarm requests of an event keep R104. -/
theorem Ev.takeAlarms_wf {e : Ev} (h : e.alarms.Wf) : e.takeAlarms.alarms.Wf := by
  obtain ⟨hl, hp⟩ := Alarms.wf_iff.mp h
  exact State.takeReqs_wf e.reqs hl (fun _ => hp) nofun

end Sys2Proof.Machine
end

section
/-! SUPPORT. Every operation of an event up to its end leaves the alarm list: its requests are taken there (R103). -/

namespace Sys2Proof.Machine

open Sys2Proof

theorem Ev.Touches.alarms {d : Slot} {e e' : Ev} (h : Ev.Touches d e e') : e'.alarms = e.alarms := by
  rw [h.rest]

theorem Ev.SetsSources.alarms {e e' : Ev} (h : e.SetsSources e') : e'.alarms = e.alarms := by
  rw [h.rest]

section Operations

variable (e : Ev) (b : BranchId) (d : Slot)

/-! ### Enrollment -/

theorem Ev.closeRun_alarms (n : Option Serial) : (e.closeRun b n).alarms = e.alarms :=
  (e.closeRun_hands (P := fun _ => True) (fun _ _ => trivial) b n).alarms

theorem Ev.endRun_alarms (n : Option Serial) : (e.endRun b n).alarms = e.alarms := e.closeRun_alarms b n

theorem Ev.abortRun_alarms : (e.abortRun b).alarms = e.alarms := e.closeRun_alarms b none

theorem Ev.beginFresh_alarms : (e.beginFresh b).alarms = e.alarms :=
  foldl_keeps (fun e : Ev => e.alarms) (fun e (p : Slot × Nat) => e.modDoor p.1 (Door.unbind e.uptime)) (fun _ _ => rfl) _ _

theorem Ev.noProgress_alarms (r : Run) {again : Ev → Run → Ev} (h : ∀ e r, (again e r).alarms = e.alarms) :
    (e.noProgress b r again).alarms = e.alarms := by
  unfold Ev.noProgress
  dsimp only
  split
  · exact h _ _
  · exact Ev.endRun_alarms _ b none

theorem Ev.takeAnswer_alarms (r : Run) (serial : Serial) : (e.takeAnswer b r serial).alarms = e.alarms := by
  unfold Ev.takeAnswer
  split
  · exact e.noProgress_alarms b r fun _ _ => rfl
  · split
    · rfl
    · exact e.endRun_alarms b _

/-! ### Queue requests and expiries -/

theorem Ev.request_alarms (dir : Dir) (o : Origin) (ba : Basis) : (e.request d dir o ba).alarms = e.alarms :=
  (e.request_hands (P := fun _ => True) (fun _ _ => trivial) d dir o ba).alarms

theorem Ev.dwellExpired_alarms : (e.dwellExpired d).alarms = e.alarms := by
  unfold Ev.dwellExpired
  dsimp only
  split
  · exact Ev.request_alarms _ d _ _ _
  · rfl

theorem Ev.retryExpired_alarms (dir : Dir) (ba : Basis) : (e.retryExpired d dir ba).alarms = e.alarms := by
  have again : ∀ dir o ba, ((e.toPhase d .idle).request d dir o ba).alarms = e.alarms := fun dir o ba =>
    Ev.request_alarms _ d dir o ba
  unfold Ev.retryExpired
  dsimp only
  repeat' split
  · rfl
  · exact again _ _ _
  · exact again _ _ _
  · exact again _ _ _
  · rfl

/-! ### Polls -/

/-- A report is taken on a POLLING branch, where no run is in progress. -/
theorem Ev.pollAnswered_alarms (p : Poll) (r : Report) (hb : e.branches[b].isPolling = true) :
    (e.pollAnswered b p r).alarms = e.alarms := by
  unfold Ev.pollAnswered
  dsimp only
  split
  · next d hd =>
    obtain ⟨v, hv, rfl, -⟩ := State.doorAt_some hd
    have hn : (e.modBranch v.branch (Branch.afterPoll p)).NoRunFor d :=
      State.noRunFor_of_polling hv (by rw [Ev.modBranch_same]; exact hb)
    rw [hv]
    exact (Ev.takeReport_spec _ d v r hn).1.alarms
  · rfl

theorem Ev.pollMissed_alarms (p : Poll) : (e.pollMissed b p).alarms = e.alarms := by
  unfold Ev.pollMissed
  dsimp only
  split
  · exact (Ev.takeMiss_spec _ _).1.alarms
  · rfl

/-! ### Swaps -/

theorem Ev.recompute_alarms (before : State) : (e.recompute before).alarms = e.alarms :=
  (e.recompute_hands (P := fun _ => True) (fun _ _ => trivial) before (fun _ => trivial) fun _ _ => trivial).alarms

theorem Ev.abortRuns_alarms : e.abortRuns.alarms = e.alarms := by
  refine foldl_keeps (fun e : Ev => e.alarms) _ (fun e b => ?_) _ _
  split
  · exact e.abortRun_alarms b
  · rfl

theorem Ev.rederive_alarms (now : Time) (bs : Banks) : (e.rederive now bs).alarms = e.alarms := by
  simp only [Ev.rederive, Ev.modDoors]

theorem Ev.swapRequests_alarms (old : State) (hadNone : Bool) : (e.swapRequests old hadNone).alarms = e.alarms := by
  have drops : (slots.foldl (fun e d => Ev.swapDrop old e d) e).alarms = e.alarms :=
    foldl_keeps (fun e : Ev => e.alarms) _ (fun e d => by unfold Ev.swapDrop; split <;> rfl) _ _
  refine (foldl_keeps (fun e : Ev => e.alarms) _ (fun e d => ?_) _ _).trans ?_
  · have lost := (e.enterLevel_touches d .linkLost).alarms
    unfold Ev.swapLost
    split
    · split
      · rfl
      · exact lost
    · exact lost
    · rfl
  · cases hadNone <;> exact drops

theorem Ev.swap_alarms (id : BankId) : (e.swap id).alarms = e.alarms := by
  rw [Ev.swap_eq, Ev.recompute_alarms, Ev.swapRequests_alarms, Ev.rederive_alarms, Ev.abortRuns_alarms]

theorem Ev.swapIfQuiescent_alarms : e.swapIfQuiescent.alarms = e.alarms := by
  unfold Ev.swapIfQuiescent
  split
  · next id _ =>
    split
    · exact e.swap_alarms id
    · rfl
  · rfl

/-! ### Panel commands -/

theorem Ev.doorClose_alarms : (e.doorClose d).1.alarms = e.alarms := by
  have close : ∀ e₁ : Ev, Ev.Touches d e e₁ → (e₁.requestRemote d .closing).alarms = e.alarms := fun e₁ h =>
    (e₁.request_alarms d _ _ _).trans h.alarms
  unfold Ev.doorClose
  dsimp only
  repeat' split
  · rfl
  · rfl
  · rfl
  · rfl
  · exact close _ (e.endHalted_touches d)
  · exact close _ ((e.toPhase_touches d _).trans (Ev.zeroRetry_touches _ d))
  · exact close _ (.refl d e)

theorem Ev.doorOpen_alarms : (e.doorOpen d).1.alarms = e.alarms := by
  have opens : (e.requestRemote d .opening).alarms = e.alarms := e.request_alarms d _ _ _
  unfold Ev.doorOpen
  dsimp only
  split_ifs
  case neg => exact opens
  all_goals rfl

theorem Ev.doorStop_alarms : (e.doorStop d).1.alarms = e.alarms := by
  unfold Ev.doorStop
  split
  · rfl
  · split
    · rfl
    · exact ((e.place_touches d _).trans (Ev.dropMove_touches _ d _)).alarms
    · exact (e.endHalted_touches d).alarms
    · rfl
    · rfl

theorem Ev.rearm_alarms : (e.rearm d).alarms = e.alarms := by
  unfold Ev.rearm
  split
  · dsimp only
    split
    · rfl
    · exact (Ev.needClose_hands (P := fun _ => True) (fun _ _ => trivial) _ d _).alarms
  · rfl

end Operations

/-- Every command of Table 9-4. -/
theorem panelCmd_alarms {code operand kind : Byte} {c : PanelCmd} (h : panelCmd code operand kind = some c) (src : Station)
    (p : PanelRec) (e : Ev) : (c.act src p e).1.alarms = e.alarms := by
  have sources : ∀ {e₁ : Ev}, e.SetsSources e₁ → (e₁.sourcesChanged e.toState).alarms = e.alarms := fun h =>
    (Ev.sourcesChanged_alarms _ _).trans h.alarms
  have door : ∀ f : Ev → Slot → Ev × Answer, (∀ d, (f e d).1.alarms = e.alarms) →
      ((cmdDoor operand f).act src p e).1.alarms = e.alarms := fun f hf => by
    dsimp only [cmdDoor]
    split
    · exact hf _
    · rfl
  unfold panelCmd at h
  split at h <;> cases h
  · dsimp only [cmdCloseZone]
    split
    · unfold Ev.closeZone
      split
      · rfl
      · exact sources (e.setMode_sets _ _ _)
    · rfl
  · exact sources (e.closeAll_sets p src)
  · dsimp only [cmdReleaseZone]
    split
    · exact sources (e.setMode_sets _ _ _)
    · rfl
  · exact sources ((e.setModes_sets _ _ _).trans (Ev.latches_set Ev.latchRelease_sets _ _))
  · exact door _ e.doorClose_alarms
  · exact door _ e.doorOpen_alarms
  · exact door _ e.doorStop_alarms
  · dsimp only [cmdAck]
    split
    · unfold Ev.ackOne
      dsimp only
      split
      · exact Ev.rearm_alarms _ _
      · rfl
    · rfl
  · exact foldl_keeps (fun e : Ev => e.alarms) _ Ev.rearm_alarms _ _

theorem Ev.orderUnit_alarms (e : Ev) (src : Station) (tag code : Byte) {c : Option PanelCmd}
    (hc : ∀ x, c = some x → ∃ operand kind, panelCmd code operand kind = some x) :
    (e.orderUnit src tag code c).alarms = e.alarms := by
  unfold Ev.orderUnit
  split
  · rfl
  · next p x hx =>
    obtain ⟨rfl, -⟩ := State.checkCommand_inr hx
    obtain ⟨operand, kind, hk⟩ := hc x rfl
    exact panelCmd_alarms hk src p e

/-! ### Management requests -/

/-- A request whose service leaves the alarm list. -/
def ServesAlarms (f : Ev → Ev × Reply) : Prop := ∀ e : Ev, (f e).1.alarms = e.alarms

theorem reads_serveAlarms : (∀ part, ServesAlarms fun e => e.identify part)
    ∧ (∀ page, ServesAlarms fun e => e.readStatus page) ∧ (∀ slot part, ServesAlarms fun e => e.readDoor slot part)
    ∧ (∀ bank table index part, ServesAlarms fun e => e.readRecord bank table index part)
    ∧ ∀ chunk, ServesAlarms fun e => e.readAlarms chunk := by
  refine ⟨fun part e => ?_, fun page e => ?_, fun slot part e => ?_, fun bank table index part e => ?_, fun chunk e => ?_⟩
  all_goals dsimp only [Ev.identify, Ev.readStatus, Ev.readDoor, Ev.readRecord, Ev.readAlarms]
  all_goals repeat' split
  all_goals rfl

theorem loads_serveAlarms : (ServesAlarms fun e => e.loadBegin)
    ∧ (∀ table index bytes, ServesAlarms fun e => e.loadChunk table index bytes)
    ∧ (∀ check, ServesAlarms fun e => e.loadEnd check) ∧ ServesAlarms fun e => e.startStore := by
  refine ⟨fun e => ?_, fun table index bytes e => ?_, fun check e => ?_, fun e => ?_⟩
  all_goals dsimp only [Ev.loadBegin, Ev.loadChunk, Ev.loadEnd, Ev.startStore]
  all_goals repeat' split
  all_goals rfl

theorem activateBank_serveAlarms (from_ : BankState) : ServesAlarms fun e => e.activateBank from_ := by
  intro e
  dsimp only [Ev.activateBank]
  split
  · rfl
  · next id _ =>
    split
    · rfl
    · split
      · dsimp only
        exact e.swap_alarms id
      · rfl

theorem enroll_serveAlarms (branch mode : Byte) : ServesAlarms fun e => e.enroll branch mode := by
  intro e
  dsimp only [Ev.enroll]
  repeat' split
  case h_3.isFalse.isTrue => exact e.beginFresh_alarms _
  all_goals rfl

theorem forgetForeign_serveAlarms (branch : Byte) : ServesAlarms fun e => e.forgetForeign branch := by
  intro e
  dsimp only [Ev.forgetForeign]
  split <;> rfl

/-- Every request of Table 10-3, by its payload. -/
theorem requestOf_serveAlarms (code : Byte) (ops : List Byte) : ServesAlarms (Ev.requestOf code ops) := by
  obtain ⟨identify, readStatus, readDoor, readRecord, readAlarms⟩ := reads_serveAlarms
  obtain ⟨loadBegin, loadChunk, loadEnd, startStore⟩ := loads_serveAlarms
  intro e
  unfold Ev.requestOf
  split
  · rfl
  · unfold Ev.request_
    split
    · exact identify _ e
    · exact readStatus _ e
    · exact readDoor _ _ e
    · exact readRecord _ _ _ _ e
    · exact readAlarms _ e
    · exact loadBegin e
    · exact loadChunk _ _ _ e
    · exact loadEnd _ e
    · exact activateBank_serveAlarms _ e
    · exact activateBank_serveAlarms _ e
    · exact startStore e
    · exact enroll_serveAlarms _ _ e
    · exact forgetForeign_serveAlarms _ e
    · rfl
    · rfl

/-- Every request of Table 10-3, by its row. -/
theorem requestRow_serveAlarms {c : Instr} {row : RequestRow} (h : requestRow c = some row) : ServesAlarms row.serve := by
  obtain ⟨identify, readStatus, readDoor, readRecord, readAlarms⟩ := reads_serveAlarms
  obtain ⟨loadBegin, loadChunk, loadEnd, startStore⟩ := loads_serveAlarms
  cases c <;> cases h
  case identify => exact identify _
  case readStatus => exact readStatus _
  case readDoor => exact readDoor _ _
  case readRecord => exact readRecord _ _ _ _
  case readAlarms => exact readAlarms _
  case loadBegin => exact loadBegin
  case loadChunk => exact loadChunk _ _ _
  case loadEnd => exact loadEnd _
  case activate => exact activateBank_serveAlarms _
  case rollback => exact activateBank_serveAlarms _
  case store => exact startStore
  case enroll => exact enroll_serveAlarms _ _
  case forgetForeign => exact forgetForeign_serveAlarms _
  case restartRequest => exact fun _ => rfl

/-! ### Heel, transmission, resets -/

theorem State.takeHeel_alarms (s : State) (src : HeelSrc) (v : BitVec 16) : (s.begin.takeHeel src v).alarms = s.alarms := by
  rw [State.begin_takeHeel]
  rfl

theorem State.judged_alarms (s : State) (h : Heel) : (s.heelEvent h []).judgeHeel.alarms = s.alarms := by
  rw [State.heelEvent_judgeHeel]
  rfl

theorem Ev.transmitError_alarms (e : Ev) : e.transmitError.alarms = e.alarms := by
  unfold Ev.transmitError
  dsimp only
  split <;> rfl

theorem Ev.transmitDone_alarms (e : Ev) (c : TxClass) : (e.transmitDone c).alarms = e.alarms := by
  unfold Ev.transmitDone
  dsimp only
  split <;> rfl

theorem Ev.powerOnLoad_alarms (e : Ev) : e.powerOnLoad.alarms = e.alarms := by
  unfold Ev.powerOnLoad
  split <;> rfl

theorem Ev.raiseNoTable_alarms (e : Ev) : e.raiseNoTable.alarms = e.alarms := by
  unfold Ev.raiseNoTable
  split <;> rfl

theorem Ev.freshRuns_alarms (e : Ev) : e.freshRuns.alarms = e.alarms := by
  refine foldl_keeps (fun e : Ev => e.alarms) _ (fun e b => ?_) _ _
  split
  · exact e.beginFresh_alarms b
  · rfl

theorem Ev.raiseAnew_alarms (e : Ev) : e.raiseAnew.alarms = e.alarms := by
  have unbound : e.raiseUnbound.alarms = e.alarms := by
    refine foldl_keeps (fun e : Ev => e.alarms) _ (fun e p => ?_) _ _
    split
    · exact (e.enterLevel_touches p.1 _).alarms
    · rfl
  have branch : ∀ (e : Ev) (b : BranchId), (e.raiseBranch b).alarms = e.alarms := fun e b => by
    unfold Ev.raiseBranch
    dsimp only
    repeat' split
    all_goals rfl
  rw [Ev.raiseAnew, Ev.raiseNoTable_alarms, foldl_keeps (fun e : Ev => e.alarms) _ branch, unbound]

end Sys2Proof.Machine
end

section
/-! SUPPORT. Every step keeps R104 (R103, R113), and only a reset and its own expiry move the re-announce timer (R117). -/

namespace Sys2Proof.Machine

open Sys2Proof

/-! ### The ends of an event -/

theorem State.sendPolls_alarms (s : State) : s.sendPolls.alarms = s.alarms := by
  rw [State.sendPolls_rest]

theorem State.judgeFreeze_alarms (s : State) : s.judgeFreeze.alarms = s.alarms := by
  unfold State.judgeFreeze
  split <;> rfl

/-- Swap and arbiters leave the list as the requests of the event find it. -/
theorem Ev.settledRequests_wf {e : Ev} (h : e.alarms.Wf) : e.swapIfQuiescent.arbiters.takeAlarms.alarms.Wf :=
  Ev.takeAlarms_wf (by rwa [(Ev.arbiters_alarms _).1, Ev.swapIfQuiescent_alarms])

theorem Ev.settle_wf {e : Ev} (h : e.alarms.Wf) : e.settle.alarms.Wf := by
  rw [Ev.settle, State.sendPolls_alarms, State.updateLive_alarms]
  exact Ev.settledRequests_wf h

theorem Ev.settleJudging_wf {e : Ev} (h : e.alarms.Wf) : e.settleJudging.alarms.Wf := by
  rw [Ev.settleJudging, State.sendPolls_alarms, State.judgeFreeze_alarms, State.updateLive_alarms]
  exact Ev.settledRequests_wf h

theorem Ev.settleReset_wf {e : Ev} (h : e.alarms.Wf) : e.settleReset.alarms.Wf := by
  rw [Ev.settleReset, State.sendPolls_alarms]
  exact Ev.takeAlarms_wf h

/-! ### Resets -/

/-- An empty list (R105). -/
theorem Alarms.blank_wf : Alarms.blank.Wf := by decide

theorem State.powerOn_wf (s : State) (pins : Pins) : (s.powerOn pins).alarms.Wf := by
  unfold State.powerOn
  dsimp only
  refine Ev.settleReset_wf ?_
  rw [Ev.freshRuns_alarms, Ev.raiseNoTable_alarms,
    foldl_keeps (fun e : Ev => e.alarms) _ (fun e b => (e.sample_sets b).alarms), Ev.powerOnLoad_alarms]
  exact Alarms.blank_wf

theorem State.restart_wf (s : State) (flag : EventFlag) (pins : Pins) : (s.restart flag pins).alarms.Wf := by
  unfold State.restart
  refine Ev.settleReset_wf ?_
  rw [Ev.raiseAnew_alarms]
  exact Alarms.blank_wf

theorem State.transmitted_wf {s : State} (h : s.alarms.Wf) (c : TxClass) (pins : Pins) : (s.transmitted c pins).alarms.Wf := by
  have hd : ∀ c, (s.begin.transmitDone c).alarms.Wf := fun c => by rwa [Ev.transmitDone_alarms]
  unfold State.transmitted
  split
  · exact s.restart_wf _ pins
  · split
    · dsimp only
      split
      · exact Ev.settleJudging_wf (hd .part)
      · exact Ev.settle_wf (hd .part)
    · exact Ev.settle_wf (hd c)

/-! ### Events that keep R104 and the timer -/

/-- R104 passes from the first state to the second, and the re-announce timer keeps its next expiry. -/
structure State.KeepsAlarms (s t : State) : Prop where
  wf : s.alarms.Wf → t.alarms.Wf
  timer : t.alarms.reannounceAt = s.alarms.reannounceAt

theorem State.outer_reannounceAt (s : State) : s.outer.reannounceAt = s.alarms.reannounceAt := rfl

namespace State.KeepsAlarms

variable {s t : State}

theorem of_eq (h : t.alarms = s.alarms) : s.KeepsAlarms t := ⟨fun hs => by rwa [h], by rw [h]⟩

/-- An event whose operations leave the list until its end. -/
theorem settle {e : Ev} (h : e.alarms = s.alarms) : s.KeepsAlarms e.settle where
  wf hs := Ev.settle_wf (by rwa [h])
  timer := by rw [← State.outer_reannounceAt, e.settle_outer, State.outer_reannounceAt, h]

theorem ite {c : Prop} [Decidable c] (h : s.KeepsAlarms t) : s.KeepsAlarms (if c then t else s) := by
  split
  · exact h
  · exact of_eq rfl

end State.KeepsAlarms

section Frames

variable (s : State)

theorem State.commandFrame_keepsAlarms (route : Route) (payload : List Byte) (tag code : Byte) {c : Option PanelCmd}
    (hc : ∀ x, c = some x → ∃ operand kind, panelCmd code operand kind = some x) :
    s.KeepsAlarms (s.commandFrame route payload tag code c) := by
  unfold State.commandFrame
  split
  · exact .settle (s.begin.orderUnit_alarms _ _ _ hc)
  · exact .of_eq rfl
  · exact .of_eq rfl

theorem State.requestFrame_keepsAlarms (route : Route) (payload : List Byte) (tag code : Byte) {f : Ev → Ev × Reply}
    (hf : ServesAlarms f) : s.KeepsAlarms (s.requestFrame route payload tag code f) := by
  unfold State.requestFrame
  split
  · exact .settle (hf s.begin)
  · exact .of_eq rfl
  · exact .of_eq rfl

theorem State.takeFrame_keepsAlarms (f : RxFrame) : s.KeepsAlarms (s.takeFrame f) := by
  unfold State.takeFrame
  split
  · exact .of_eq rfl
  · exact .of_eq rfl
  · unfold State.takeCommand
    split
    · exact .of_eq rfl
    · exact .settle (s.begin.orderUnit_alarms _ _ _ fun x hx => ⟨_, _, hx⟩)
  · unfold State.takeHeelFrame
    split
    · exact .of_eq rfl
    · exact .settle (s.takeHeel_alarms _ _)
  · unfold State.takeRequest
    split
    · exact .of_eq rfl
    · exact .settle (requestOf_serveAlarms _ _ s.begin)

theorem State.hear_keepsAlarms (bytes : List Byte) : s.KeepsAlarms (s.hear bytes) := by
  unfold State.hear
  split
  · exact s.takeFrame_keepsAlarms _
  · exact .of_eq rfl

end Frames

/-! ### The commands, one by one -/

/-- An outcome whose next state keeps R104 and the timer. -/
def State.KeepsAlarmsBy (s : State) (o : Host.Outcome State Fault Refusal) : Prop := ∀ t, o = .next t → s.KeepsAlarms t

theorem State.live_keepsAlarms {s : State} {f : State → State} (hf : s.KeepsAlarms (f s)) : s.KeepsAlarmsBy (s.live f) := by
  intro t h
  rcases State.live_next h with rfl | rfl
  · exact .of_eq rfl
  · exact hf

section Commands

variable (s : State)

theorem panelRow_keepsAlarms {c : Instr} {row : PanelRow} (h : panelRow c = some row) : s.KeepsAlarmsBy (exec c s) := by
  rw [exec_panelRow h]
  exact State.live_keepsAlarms (s.commandFrame_keepsAlarms _ _ _ _ fun y hy => Option.some.inj hy ▸ panelRow_cmd h)

theorem requestRow_keepsAlarms {c : Instr} {row : RequestRow} (h : requestRow c = some row) : s.KeepsAlarmsBy (exec c s) := by
  have he : exec c s = s.live fun s => s.requestFrame row.route row.payload row.tag row.code row.serve := by
    cases c <;> cases h <;> rfl
  rw [he]
  exact State.live_keepsAlarms (s.requestFrame_keepsAlarms _ _ _ _ (requestRow_serveAlarms h))

theorem execHeel_keepsAlarms (route : Route) (value : BitVec 16) : s.KeepsAlarmsBy (execHeel route value s) := by
  refine State.live_keepsAlarms ?_
  split
  · exact .settle (s.takeHeel_alarms _ value)
  · exact .of_eq rfl

theorem execStoreEnd_keepsAlarms (readBack : NvImage) : s.KeepsAlarmsBy (execStoreEnd readBack s) := by
  refine State.live_keepsAlarms ?_
  split
  · split <;> exact .of_eq rfl
  · exact .of_eq rfl

theorem execStatusReply_keepsAlarms (b : BranchId) (bytes : List Byte) : s.KeepsAlarmsBy (execStatusReply b bytes s) := by
  refine State.live_keepsAlarms ?_
  split
  · next q hq =>
    split
    · exact .settle (s.begin.pollAnswered_alarms b q _ (Branch.poll?_some hq).1)
    · exact .of_eq rfl
  · exact .of_eq rfl

theorem execPollMiss_keepsAlarms (b : BranchId) : s.KeepsAlarmsBy (execPollMiss b s) := by
  refine State.live_keepsAlarms ?_
  split
  · exact .settle (s.begin.pollMissed_alarms b _)
  · exact .of_eq rfl

theorem execLineSample_keepsAlarms (b : BranchId) (low : Bool) : s.KeepsAlarmsBy (execLineSample b low s) :=
  State.live_keepsAlarms (.settle ((Ev.sourcesChanged_alarms _ _).trans (Ev.sample_sets _ b).alarms))

theorem execRetryExpiry_keepsAlarms (d : Slot) : s.KeepsAlarmsBy (execRetryExpiry d s) := by
  refine State.live_keepsAlarms ?_
  split
  · exact .settle (s.begin.retryExpired_alarms d _ _)
  · exact .of_eq rfl

theorem execIssueDeadlineExpiry_keepsAlarms (d : Slot) : s.KeepsAlarmsBy (execIssueDeadlineExpiry d s) := by
  refine State.live_keepsAlarms ?_
  split
  · exact .settle (s.begin.issueExpired_touches d _).alarms
  · exact .of_eq rfl

theorem execDeadlineExpiry_keepsAlarms (d : Slot) : s.KeepsAlarmsBy (execDeadlineExpiry d s) := by
  refine State.live_keepsAlarms ?_
  split
  · exact .settle (s.begin.endTimeout_touches d _).alarms
  · exact .of_eq rfl

theorem execCallAnswer_keepsAlarms (b : BranchId) (serial : Serial) : s.KeepsAlarmsBy (execCallAnswer b serial s) := by
  refine State.live_keepsAlarms ?_
  split
  · exact .settle (s.begin.takeAnswer_alarms b _ serial)
  · exact .of_eq rfl

theorem execAssignSent_keepsAlarms (b : BranchId) : s.KeepsAlarmsBy (execAssignSent b s) := by
  refine State.live_keepsAlarms ?_
  split
  · exact .settle rfl
  · exact .of_eq rfl

theorem execCallAnswerFault_keepsAlarms (b : BranchId) : s.KeepsAlarmsBy (execCallAnswerFault b s) := by
  refine State.live_keepsAlarms ?_
  split
  · exact .settle (s.begin.noProgress_alarms b _ fun _ _ => rfl)
  · exact .of_eq rfl

theorem execCallNoAnswer_keepsAlarms (b : BranchId) : s.KeepsAlarmsBy (execCallNoAnswer b s) := by
  refine State.live_keepsAlarms ?_
  split
  · exact .settle (s.begin.endRun_alarms b none)
  · exact .of_eq rfl

end Commands

/-- Every command but a reset and the expiry of the re-announce timer. -/
theorem exec_keepsAlarms (c : Instr) (s : State) (hc : c.resets = false) (hn : c ≠ .reannounceExpiry) :
    s.KeepsAlarmsBy (exec c s) := by
  cases hp : panelRow c with
  | some row => exact panelRow_keepsAlarms s hp
  | none =>
    cases hr : requestRow c with
    | some row => exact requestRow_keepsAlarms s hr
    | none =>
      cases c with
      | powerOnReset | restartPin | powerLoss | transmitSuccess => cases hc
      | reannounceExpiry => exact absurd rfl hn
      | trunkFrame bytes => exact State.live_keepsAlarms (f := fun s => s.hear bytes) (s.hear_keepsAlarms bytes)
      | arbitrationLost winner =>
        obtain ⟨hw, ht⟩ := State.hear_keepsAlarms s.stopSending winner
        exact State.live_keepsAlarms (.ite ⟨hw, ht⟩)
      | heel route value => exact execHeel_keepsAlarms s route value
      | storeEnd readBack => exact execStoreEnd_keepsAlarms s readBack
      | transmitStart => exact State.live_keepsAlarms (f := fun s => { s with trunk := s.trunk.start }) (.of_eq rfl)
      | transmitError => exact State.live_keepsAlarms (.ite (.settle s.begin.transmitError_alarms))
      | statusReply b bytes => exact execStatusReply_keepsAlarms s b bytes
      | pollMiss b => exact execPollMiss_keepsAlarms s b
      | lineSample b low => exact execLineSample_keepsAlarms s b low
      | dwellExpiry d => exact State.live_keepsAlarms (.ite (.settle (s.begin.dwellExpired_alarms d)))
      | retryExpiry d => exact execRetryExpiry_keepsAlarms s d
      | warningLeadExpiry d => exact State.live_keepsAlarms (.ite (.settle (s.begin.leadExpired_touches d).alarms))
      | issueDeadlineExpiry d => exact execIssueDeadlineExpiry_keepsAlarms s d
      | deadlineExpiry d => exact execDeadlineExpiry_keepsAlarms s d
      | linkLostHoldExpiry d => exact State.live_keepsAlarms (.ite (.settle (s.begin.holdsExpired_touches d).alarms))
      | heelSourceStale src => exact State.live_keepsAlarms (.ite (.settle (s.judged_alarms _)))
      | heelStaleFirstJudge => exact State.live_keepsAlarms (.ite (.settle (s.judged_alarms _)))
      | spacingPoint => exact State.live_keepsAlarms (.ite (.of_eq s.judgeFreeze_alarms))
      | refreshPoint => exact State.live_keepsAlarms (.ite (.of_eq s.judgeFreeze_alarms))
      | snapshotRelease => exact State.live_keepsAlarms (.ite (.of_eq rfl))
      | callAnswer b serial => exact execCallAnswer_keepsAlarms s b serial
      | assignSent b => exact execAssignSent_keepsAlarms s b
      | callAnswerFault b => exact execCallAnswerFault_keepsAlarms s b
      | callNoAnswer b => exact execCallNoAnswer_keepsAlarms s b
      | closeZone | closeAll | releaseZone | releaseAll | doorClose | doorOpen | doorStop | ack | ackAll => cases hp
      | _ => cases hr

/-! ### The re-announce timer (R117) -/

/-- A REPEAT touches the notice class alone. -/
theorem State.reannounce_rest (s : State) : s.reannounce = { s with trunk := s.reannounce.trunk } := by
  unfold State.reannounce
  repeat' split
  all_goals rfl

theorem State.reannounced_eq (s : State) : s.reannounced = { s with
    alarms := { s.alarms with reannounceAt := s.uptime + 300 }
    trunk := s.reannounce.trunk } := by
  rw [State.reannounced, State.reannounce_rest]
  rfl

/-- The next expiry of the timer is no part of R104. -/
theorem Alarms.Wf.reannounceAt {a : Alarms} (h : a.Wf) (next : Time) : ({ a with reannounceAt := next } : Alarms).Wf := h

theorem exec_reannounceExpiry {s : State} (hp : s.powered = true) (hd : s.alarms.reannounceAt = s.uptime) :
    exec .reannounceExpiry s = .next s.reannounced := by
  show execReannounceExpiry s = _
  simp only [execReannounceExpiry, State.live, hp, State.reannounceDue, hd, beq_self_eq_true, if_true]

theorem find?_unacked_of_first {α : Type} {ackBy : α → Option Station} {l before after : List α} {x : α}
    (h : l = before ++ x :: after) (hb : ∀ y ∈ before, ackBy y ≠ none) (hx : ackBy x = none) :
    l.find? (fun x => (ackBy x).isNone) = some x :=
  List.find?_eq_some_iff_append.mpr
    ⟨by simp [hx], before, after, h, fun y hy => by simpa using Option.isSome_iff_ne_none.mpr (hb y hy)⟩

theorem find?_unacked_of_acked {α : Type} {ackBy : α → Option Station} {l : List α} (h : ∀ x ∈ l, ackBy x ≠ none) :
    l.find? (fun x => (ackBy x).isNone) = none :=
  List.find?_eq_none.mpr fun x hx => by simpa using h x hx

/-- The first unacknowledged entry is named (R117). -/
theorem State.reannounce_of_entry {s : State} {before after : List AlarmEntry} {x : AlarmEntry}
    (h : s.alarms.entries = before ++ x :: after) (hb : ∀ y ∈ before, y.ackBy ≠ none) (hx : x.ackBy = none) :
    s.reannounce = s.noticeEntry .again x := by
  rw [State.reannounce, find?_unacked_of_first (ackBy := AlarmEntry.ackBy) h hb hx]

/-- With every entry acknowledged the first unacknowledged mark is named (R117). -/
theorem State.reannounce_of_mark {s : State} {before after : List Mark} {m : Mark}
    (he : ∀ x ∈ s.alarms.entries, x.ackBy ≠ none) (h : s.alarms.marks = before ++ m :: after)
    (hb : ∀ y ∈ before, y.ackBy ≠ none) (hm : m.ackBy = none) :
    s.reannounce = s.noticeMark .again m := by
  rw [State.reannounce, find?_unacked_of_acked (ackBy := AlarmEntry.ackBy) he,
    find?_unacked_of_first (ackBy := Mark.ackBy) h hb hm]

/-- With nothing unacknowledged there is no REPEAT (R117). -/
theorem State.reannounce_of_acked {s : State} (he : ∀ x ∈ s.alarms.entries, x.ackBy ≠ none)
    (hm : ∀ m ∈ s.alarms.marks, m.ackBy ≠ none) : s.reannounce = s := by
  rw [State.reannounce, find?_unacked_of_acked (ackBy := AlarmEntry.ackBy) he, find?_unacked_of_acked (ackBy := Mark.ackBy) hm]

/-! ### The obligations -/

theorem State.live_wf {s : State} {f : State → State} (h : s.alarms.Wf) (hf : (f s).alarms.Wf) {t : State}
    (ht : s.live f = .next t) : t.alarms.Wf := by
  rcases State.live_next ht with rfl | rfl
  · exact h
  · exact hf

/-- The commands that start the part afresh or end it. -/
theorem exec_wf_of_resets {c : Instr} (hc : c.resets = true) {s t : State} (h : s.alarms.Wf) (ht : exec c s = .next t) :
    t.alarms.Wf := by
  cases c with
  | powerOnReset pins => exact Host.Outcome.next.inj ht ▸ s.powerOn_wf pins
  | restartPin pins => exact State.live_wf h (s.restart_wf _ pins) ht
  | powerLoss => exact State.live_wf (f := State.losePower) h Alarms.blank_wf ht
  | transmitSuccess pins =>
    have ht : execTransmitSuccess pins s = .next t := ht
    unfold execTransmitSuccess at ht
    refine State.live_wf h ?_ ht
    split
    · exact State.transmitted_wf h _ pins
    · exact h
  | _ => cases hc

/-- Every command keeps R104. -/
theorem exec_wf {c : Instr} {s t : State} (h : s.alarms.Wf) (ht : exec c s = .next t) : t.alarms.Wf := by
  by_cases hc : c.resets = true
  · exact exec_wf_of_resets hc h ht
  · by_cases hn : c = .reannounceExpiry
    · subst hn
      have ht : execReannounceExpiry s = .next t := ht
      refine State.live_wf h ?_ ht
      split
      · rw [State.reannounced_eq]
        exact h.reannounceAt _
      · exact h
    · exact (exec_keepsAlarms c s (by simpa using hc) hn t ht).wf h

/-- Settles O4: a request that removes no entry makes no room, and the room that the others make is filled after the last
of them; the operations of an event leave the list until its end, and a reset empties it. -/
theorem everyStepKeepsTheAlarmList : Obligations.EveryStepKeepsTheAlarmList := by
  unfold Obligations.EveryStepKeepsTheAlarmList
  intro s t hs h
  unfold step at h
  split at h
  · obtain rfl := Host.Outcome.next.inj h
    have ht : s.tick.alarms = s.alarms := by
      unfold State.tick
      split <;> rfl
    rwa [ht]
  · next c rest _ => exact exec_wf (s := { s with pending := rest }) hs h

/-- Settles O58: the operations and the end of an event leave the timer, and the REPEAT is that of `State.reannounce`. -/
theorem reannouncementsRepeat : Obligations.ReannouncementsRepeat := by
  intro s
  refine ⟨fun c t hc hn ht => (exec_keepsAlarms c s hc hn t ht).timer, fun hp hd => ?_⟩
  have htrunk : s.reannounced.trunk = s.reannounce.trunk := rfl
  refine ⟨_, exec_reannounceExpiry hp hd, s.reannounced_eq, fun he hm => ?_, fun before after x hx hb ha => ?_,
    fun before after m he hm hb ha => ?_⟩ <;> rw [htrunk]
  · rw [State.reannounce_of_acked he hm]
  · rw [State.reannounce_of_entry hx hb ha, State.noticeEntry, ha]
    rfl
  · have hne : s.alarms.marks.isEmpty = false := by simp [hm]
    rw [State.reannounce_of_mark he hm hb ha, State.noticeMark, ha, hne]
    rfl

end Sys2Proof.Machine
end

section
/-! SUPPORT. ACK of CLOSE-FAILED (R25, R69, R110, R112): the pair is acknowledged, and its FAILED door is re-armed. -/

namespace Sys2Proof.Machine

open Sys2Proof

/-- A slot number with the code of CLOSE-FAILED names that pair (R36). -/
theorem ackPair_closeFailed {slot : Byte} {d : Slot} (h : slotOf slot = some d) :
    ackPair slot 4 = some (.door d, .closeFailed) := by
  unfold slotOf at h
  split at h
  · next hlt =>
    cases h
    have hj : Subject.ofCode slot.toNat = some (.door ⟨slot.toNat, hlt⟩) := dif_pos hlt
    rw [ackPair, hj]
    rfl
  · cases h

theorem doorScope_of_fitted {d : Slot} {s : State} {p : PanelRec} (hf : s.fitted d = true) (hd : p.hasDoor d = true) :
    doorScope d s p = none := by
  simp [doorScope, hf, hd]

/-- The event of such an ACK hands the acknowledgement, and beside that changes the record of the door (R112). -/
theorem Ev.ackOne_closeFailed (e : Ev) (d : Slot) (src : Station) (h : e.NoRunFor d) :
    (e.push (.ack (.door d) .closeFailed src)).SameButDoors (e.ackOne (.door d) .closeFailed src)
      ∧ (e.ackOne (.door d) .closeFailed src).doors[d] = e.doors[d].rearmed (e.orderHeld d) e.uptime := by
  obtain ⟨hs, -, hd⟩ := (e.push (.ack (.door d) .closeFailed src)).rearm_spec d fun _ => h
  exact ⟨hs, hd⟩

/-- Settles O28: the re-arm hands `Door.rearmed` to the arbiters, and the one request of the event acknowledges the pair. -/
theorem ackRearmsAFailedDoor : Obligations.AckRearmsAFailedDoor := by
  intro s route slot tag d p hc hslot hp hr hfit hdoor hphase hflow hrun hb
  have hpair := ackPair_closeFailed hslot
  have hrow : panelRow (.ack route slot 4 tag) = some ⟨route, [8, slot, 4, tag], tag, 8, cmdAck slot 4⟩ := rfl
  have hoperand : ackOperand slot 4 s p = none := by
    rw [ackOperand, hpair]
    exact doorScope_of_fitted hfit hdoor
  have hact : (cmdAck slot 4).act route.src p s.begin = (s.begin.ackOne (.door d) .closeFailed route.src, .done) := by
    simp only [cmdAck, hpair]
  have hexec : exec (.ack route slot 4 tag) s =
      .next ((s.begin.ackOne (.door d) .closeFailed route.src).answer route.src tag 8 .done).settle := by
    rw [exec_panelRow_of_accepted hrow hc hp hr hoperand, hact]
  obtain ⟨hrest, hown⟩ := s.begin.ackOne_closeFailed d route.src hrun
  rw [hexec]
  generalize s.begin.ackOne (.door d) .closeFailed route.src = e at hrest hown
  have hout : (e.answer route.src tag 8 .done).outer = { s.outer with answers := s.withAnswer route.src tag 8 .done } :=
    Ev.answer_outer (by rw [hrest]; rfl) _ _ _ _
  have hq : (e.answer route.src tag 8 .done).swapIfQuiescent = e.answer route.src tag 8 .done :=
    Ev.swapIfQuiescent_of_not_pending _ (by rw [hrest]; exact hb)
  have hsame : e.alarms = s.alarms ∧ e.uptime = s.uptime ∧ e.reqs = [.ack (.door d) .closeFailed route.src] := by
    rw [hrest]
    exact ⟨rfl, rfl, rfl⟩
  obtain ⟨hal, hup, hreqs⟩ := hsame
  refine ⟨_, rfl, (Ev.settle_outer _).trans hout, ?_, fun hw => ?_⟩
  · refine State.rearmed_of_admits hphase hflow ?_
    have hadm := Ev.settle_admits _ hq d
    have hd : (e.answer route.src tag 8 .done).doors[d] = s.doors[d].rearmed (s.orderHeld d) s.uptime := hown
    rwa [hd] at hadm
  · have harb := Ev.arbiters_alarms (e.answer route.src tag 8 .done)
    refine State.acked_of_takeReqs hw (harb.1.trans hal) (harb.2.trans hup) ?_
    rw [Ev.settle_alarms hq, ← hreqs]
    rfl

end Sys2Proof.Machine
end

section
/-! SUPPORT. The sets of the banks (R119, R131, R133): every set is in canonical form, and a bank past loading keeps the
check value of its set. What an event does to the banks before its end, and a swap at its end, keep that. -/

namespace Sys2Proof.Machine

open Sys2Proof

/-! ### One bank -/

/-- A bank past loading: READY, PENDING, ACTIVE or RETIRED. -/
def Bank.Loaded (b : Bank) : Prop := b.state ≠ .empty ∧ b.state ≠ .loading

theorem Bank.Wf.of_loading {b : Bank} (hs : setWf b.set = true) (hl : b.state = .loading) : b.Wf :=
  ⟨hs, fun _ h => absurd hl h⟩

theorem Bank.blank_wf : Bank.blank.Wf := ⟨rfl, fun h => absurd rfl h⟩

/-- A bank past loading has the check value of its set in every state it may then take. -/
theorem Bank.Wf.withState {b : Bank} (h : b.Wf) (hl : b.Loaded) (st : BankState) : ({ b with state := st } : Bank).Wf :=
  ⟨h.1, fun _ _ => h.2 hl.1 hl.2⟩

/-- A restart makes a PENDING bank READY, and empties a LOADING one (R161). -/
theorem Bank.Wf.restarted {b : Bank} (h : b.Wf) : b.restarted.Wf := by
  unfold Bank.restarted
  split
  · next hs => exact h.withState (by rw [Bank.Loaded, hs]; decide) .ready
  · exact Bank.blank_wf
  · exact h

/-- An examination without a failure has found the check value of the set (R133). -/
theorem checkValue_of_examine {own : Station} {set : TableSet} {check : BitVec 16} (h : examine own set check = none) :
    checkValue set = check := by
  by_contra hne
  rw [examine, if_neg hne] at h
  cases h

/-- The bank of a good image (R174). -/
theorem loadImage_wf {own : Station} {image : NvImage} {bank : Bank} (h : loadImage own image = some bank) : bank.Wf := by
  unfold loadImage at h
  split at h
  · split_ifs at h with hgood
    cases h
    obtain ⟨hset, hexam⟩ := Bool.and_eq_true_iff.mp hgood
    exact ⟨hset, fun _ _ => checkValue_of_examine (Option.isNone_iff_eq_none.mp hexam)⟩
  · cases h

/-! ### Both banks -/

/-- The set of each bank is in canonical form, and its check value in order. -/
def Banks.SetsWf (bs : Banks) : Prop := ∀ id, (bs.get id).Wf

theorem Banks.wf_iff {bs : Banks} : bs.Wf ↔ bs.StatesWf ∧ bs.SetsWf :=
  ⟨fun ⟨h, ha, hb⟩ => ⟨h, fun | .a => ha | .b => hb⟩, fun ⟨h, hs⟩ => ⟨h, hs .a, hs .b⟩⟩

theorem Banks.get_put_same (bs : Banks) (id : BankId) (v : Bank) : (bs.put id v).get id = v := by
  cases id <;> rfl

theorem Banks.get_put_other (bs : Banks) {id x : BankId} (v : Bank) (h : x ≠ id) : (bs.put id v).get x = bs.get x := by
  cases id <;> cases x
  case a.a | b.b => exact absurd rfl h
  all_goals rfl

/-- A bank found in a state past loading. -/
theorem Banks.loaded_of_find {bs : Banks} {st : BankState} {id : BankId} (h : bs.find st = some id)
    (hst : st ≠ .empty ∧ st ≠ .loading) : (bs.get id).Loaded := by
  rwa [Bank.Loaded, Banks.state_of_find h]

namespace Banks.SetsWf

variable {bs : Banks} {id : BankId}

theorem put (h : bs.SetsWf) {v : Bank} (hv : v.Wf) : (bs.put id v).SetsWf := by
  intro x
  by_cases hx : x = id
  · subst hx
    rwa [Banks.get_put_same]
  · rw [Banks.get_put_other bs v hx]
    exact h x

theorem setState (h : bs.SetsWf) (hl : (bs.get id).Loaded) (st : BankState) : (bs.setState id st).SetsWf :=
  h.put ((h id).withState hl st)

end Banks.SetsWf

/-- A bank past loading is so still when another, or the same, is RETIRED. -/
theorem Banks.loaded_setState_retired {bs : Banks} {id : BankId} (h : (bs.get id).Loaded) (x : BankId) :
    ((bs.setState x .retired).get id).Loaded := by
  unfold Banks.setState
  by_cases hx : id = x
  · subst hx
    rw [Banks.get_put_same]
    exact ⟨nofun, nofun⟩
  · rwa [Banks.get_put_other bs _ hx]

/-- A swap changes states alone, of banks past loading (R161). -/
theorem Banks.SetsWf.swapped {bs : Banks} {id : BankId} (h : bs.SetsWf) (hl : (bs.get id).Loaded) : (bs.swapped id).SetsWf := by
  unfold Banks.swapped
  dsimp only
  split
  · next old hold =>
    exact (h.setState (Banks.loaded_of_find hold (by decide)) .retired).setState (Banks.loaded_setState_retired hl old) .active
  · exact h.setState hl .active

/-! ### What an event keeps -/

/-- The sets of the banks stay in order from the first state to the second. -/
def State.KeepsSets (s t : State) : Prop := s.banks.SetsWf → t.banks.SetsWf

namespace State.KeepsSets

variable {s t u : State}

theorem of_eq (h : t.banks = s.banks) : s.KeepsSets t := fun hs => by rwa [h]

theorem refl (s : State) : s.KeepsSets s := id

theorem trans (h : s.KeepsSets t) (k : t.KeepsSets u) : s.KeepsSets u := k ∘ h

end State.KeepsSets

theorem State.Drains.keepsSets {s t : State} (h : s.Drains t) : s.KeepsSets t := .of_eq h.banks

/-- A PENDING bank returns to READY with the set it has (R41). -/
theorem Ev.cancelPending_keepsSets (e : Ev) : e.KeepsSets e.cancelPending.toState := by
  unfold Ev.cancelPending
  split
  · next id h => exact fun hs => hs.setState (Banks.loaded_of_find h (by decide)) .ready
  · exact .refl _

theorem Ev.sourcesChanged_keepsSets (before : State) (e : Ev) : e.KeepsSets (e.sourcesChanged before).toState := by
  unfold Ev.sourcesChanged
  refine State.KeepsSets.trans ?_ (Ev.recompute_drains _ before).keepsSets
  split
  · exact e.cancelPending_keepsSets
  · exact .refl _

theorem Ev.swap_keepsSets (e : Ev) {id : BankId} (hl : (e.banks.get id).Loaded) : e.KeepsSets (e.swap id).toState := by
  intro hs
  rw [Ev.swap_banks]
  exact hs.swapped hl

theorem Ev.swapIfQuiescent_keepsSets (e : Ev) : e.KeepsSets e.swapIfQuiescent.toState := by
  unfold Ev.swapIfQuiescent
  split
  · next id h =>
    split
    · exact e.swap_keepsSets (Banks.loaded_of_find h (by decide))
    · exact .refl _
  · exact .refl _

/-! ### Panel commands -/

/-- A panel command drains flow on doors, or sets zone modes and line senses. -/
theorem panelCmd_drains_or_setsOrders {code operand kind : Byte} {c : PanelCmd} (h : panelCmd code operand kind = some c) :
    (∀ (src : Station) (p : PanelRec) (e : Ev), e.Drains (c.act src p e).1) ∨ c.SetsOrders := by
  have door : ∀ f : Ev → Slot → Ev × Answer, (∀ (e : Ev) d, e.Drains (f e d).1) →
      ∀ (src : Station) (p : PanelRec) (e : Ev), e.Drains ((cmdDoor operand f).act src p e).1 := by
    intro f hf src p e
    dsimp only [cmdDoor]
    split
    · exact hf e _
    · exact .refl _
  unfold panelCmd at h
  split at h <;> cases h
  · exact .inr (cmdCloseZone_setsOrders operand)
  · exact .inr cmdCloseAll_setsOrders
  · exact .inr (cmdReleaseZone_setsOrders operand)
  · exact .inr cmdReleaseAll_setsOrders
  · exact .inl (door _ Ev.doorClose_drains)
  · exact .inl (door _ Ev.doorOpen_drains)
  · exact .inl (door _ Ev.doorStop_drains)
  · refine .inl fun src p e => ?_
    dsimp only [cmdAck]
    split
    · exact e.ackOne_drains _ _ _
    · exact .refl _
  · exact .inl fun src p e => e.ackAll_drains p src

theorem Ev.SetsSources.banks {e e' : Ev} (h : e.SetsSources e') : e'.banks = e.banks := by rw [h.rest]

theorem panelCmd_keepsSets {code operand kind : Byte} {c : PanelCmd} (h : panelCmd code operand kind = some c) (src : Station)
    (p : PanelRec) (e : Ev) : e.KeepsSets (c.act src p e).1.toState := by
  rcases panelCmd_drains_or_setsOrders h with hd | hs
  · exact (hd src p e).keepsSets
  · obtain ⟨e', he, hact⟩ := hs src p e
    rw [hact]
    exact State.KeepsSets.trans (.of_eq he.banks) (e'.sourcesChanged_keepsSets e.toState)

theorem Ev.orderUnit_keepsSets (e : Ev) (src : Station) (tag code : Byte) {c : Option PanelCmd}
    (hc : ∀ x, c = some x → ∃ operand kind, panelCmd code operand kind = some x) :
    e.KeepsSets (e.orderUnit src tag code c).toState := by
  unfold Ev.orderUnit
  split
  · exact .refl _
  · next p x hx =>
    obtain ⟨rfl, -⟩ := State.checkCommand_inr hx
    obtain ⟨operand, kind, hk⟩ := hc x rfl
    exact panelCmd_keepsSets hk src p e

/-! ### Management requests -/

/-- A request whose service keeps the sets of the banks in order. -/
def ServesSets (f : Ev → Ev × Reply) : Prop := ∀ e : Ev, e.KeepsSets (f e).1.toState

theorem reads_serveSets : (∀ part, ServesSets fun e => e.identify part) ∧ (∀ page, ServesSets fun e => e.readStatus page)
    ∧ (∀ slot part, ServesSets fun e => e.readDoor slot part)
    ∧ (∀ bank table index part, ServesSets fun e => e.readRecord bank table index part)
    ∧ ∀ chunk, ServesSets fun e => e.readAlarms chunk := by
  refine ⟨fun part e => ?_, fun page e => ?_, fun slot part e => ?_, fun bank table index part e => ?_, fun chunk e => ?_⟩
  all_goals dsimp only [Ev.identify, Ev.readStatus, Ev.readDoor, Ev.readRecord, Ev.readAlarms]
  all_goals repeat' split
  all_goals exact .of_eq rfl

/-- LOAD-BEGIN empties the set of its bank (R162). -/
theorem loadBegin_serveSets : ServesSets fun e => e.loadBegin := by
  intro e
  dsimp only [Ev.loadBegin]
  split
  · exact .refl _
  · split
    · exact .refl _
    · exact fun hs => hs.put (.of_loading rfl rfl)

/-- LOAD-CHUNK puts a record of its table's length at its place (R119, R163). -/
theorem loadChunk_serveSets (table index : Byte) (bytes : List Byte) : ServesSets fun e => e.loadChunk table index bytes := by
  intro e
  dsimp only [Ev.loadChunk]
  split
  · exact .refl _
  · next id h =>
    split
    · exact .refl _
    · next hrange =>
      have hrec : recordWf ⟨table.toNat, index.toNat, bytes⟩ = true := by simpa [recordWf] using hrange
      exact fun hs => hs.put (.of_loading (putRecord_wf _ _ (hs id).1 hrec) (Banks.state_of_find h))

/-- LOAD-END keeps a check value that agrees, and empties the bank otherwise (R133, R163). -/
theorem loadEnd_serveSets (check : BitVec 16) : ServesSets fun e => e.loadEnd check := by
  intro e
  dsimp only [Ev.loadEnd]
  split
  · exact .refl _
  · next id h =>
    split
    · next hexam => exact fun hs => hs.put ⟨(hs id).1, fun _ _ => checkValue_of_examine hexam⟩
    · exact fun hs => hs.put Bank.blank_wf

/-- ACTIVATE and ROLLBACK change states alone, of banks past loading (R164). -/
theorem activateBank_serveSets {from_ : BankState} (hf : from_ ≠ .empty ∧ from_ ≠ .loading) :
    ServesSets fun e => e.activateBank from_ := by
  intro e
  dsimp only [Ev.activateBank]
  split
  · exact .refl _
  · next id h =>
    have hl := Banks.loaded_of_find h hf
    split
    · exact .refl _
    · split
      · dsimp only
        exact e.swap_keepsSets hl
      · exact fun hs => hs.setState hl .pending

theorem startStore_serveSets : ServesSets fun e => e.startStore := by
  intro e
  dsimp only [Ev.startStore]
  repeat' split
  all_goals exact .of_eq rfl

theorem enroll_serveSets (branch mode : Byte) : ServesSets fun e => e.enroll branch mode := by
  intro e
  dsimp only [Ev.enroll]
  repeat' split
  case h_3.isFalse.isTrue => exact (e.beginFresh_drains _).keepsSets
  all_goals exact .of_eq rfl

theorem forgetForeign_serveSets (branch : Byte) : ServesSets fun e => e.forgetForeign branch := by
  intro e
  dsimp only [Ev.forgetForeign]
  split <;> exact .of_eq rfl

/-- Every request of Table 10-3. -/
theorem requestOf_serveSets (code : Byte) (ops : List Byte) : ServesSets (Ev.requestOf code ops) := by
  obtain ⟨identify, readStatus, readDoor, readRecord, readAlarms⟩ := reads_serveSets
  intro e
  unfold Ev.requestOf
  split
  · exact .refl _
  · unfold Ev.request_
    split
    · exact identify _ e
    · exact readStatus _ e
    · exact readDoor _ _ e
    · exact readRecord _ _ _ _ e
    · exact readAlarms _ e
    · exact loadBegin_serveSets e
    · exact loadChunk_serveSets _ _ _ e
    · exact loadEnd_serveSets _ e
    · exact activateBank_serveSets (by decide) e
    · exact activateBank_serveSets (by decide) e
    · exact startStore_serveSets e
    · exact enroll_serveSets _ _ e
    · exact forgetForeign_serveSets _ e
    · exact .refl _
    · exact .refl _

theorem at16_bytes16 (v : BitVec 16) : at16 (bytes16 v) 0 = v :=
  (BitVec.extractLsb'_append_extractLsb'_eq_extractLsb' rfl).trans BitVec.extractLsb'_eq_self

/-- The row of a request serves what its payload says. -/
theorem requestRow_serve {c : Instr} {row : RequestRow} (h : requestRow c = some row) :
    row.serve = Ev.requestOf row.code (row.payload.drop 2) := by
  cases c <;> cases h
  case loadChunk table index bytes =>
    funext e
    simp [Ev.requestOf, Ev.request_, operandLength, at_]
  case loadEnd check =>
    funext e
    exact congrArg e.loadEnd (at16_bytes16 check).symm
  all_goals rfl

end Sys2Proof.Machine
end

section
/-! SUPPORT. Every step keeps the banks in a state of R161, each set in canonical form and each check value that of its
set (R119, R131, R133). -/

namespace Sys2Proof.Machine

open Sys2Proof

/-- The legal banks of R161, with sets and check values in order, pass from the first state to the second. -/
def State.KeepsBanks (s t : State) : Prop := s.banks.Wf → t.banks.Wf

namespace State.KeepsBanks

variable {s t u : State}

theorem refl (s : State) : s.KeepsBanks s := id

theorem trans (h : s.KeepsBanks t) (k : t.KeepsBanks u) : s.KeepsBanks u := k ∘ h

theorem of_eq (h : t.banks = s.banks) : s.KeepsBanks t := fun hs => by rwa [h]

theorem ite {c : Prop} [Decidable c] (h : s.KeepsBanks t) : s.KeepsBanks (if c then t else s) := by
  split
  · exact h
  · exact .refl s

end State.KeepsBanks

/-- States and sets are kept apart. -/
theorem State.Prepares.keepsBanks {s t : State} (h : s.Prepares t) (hs : s.KeepsSets t) : s.KeepsBanks t := fun hw => by
  obtain ⟨hstates, hsets⟩ := Banks.wf_iff.mp hw
  exact Banks.wf_iff.mpr ⟨h.banks hstates, hs hsets⟩

theorem State.Drains.keepsBanks {s t : State} (h : s.Drains t) : s.KeepsBanks t := .of_eq h.banks

theorem State.SameScene.keepsBanks {s t : State} (h : s.SameScene t) : s.KeepsBanks t := .of_eq (by rw [h])

/-! ### The ends of an event -/

theorem Ev.swapIfQuiescent_keepsBanks (e : Ev) : e.KeepsBanks e.swapIfQuiescent.toState :=
  e.swapIfQuiescent_prepares.keepsBanks e.swapIfQuiescent_keepsSets

/-- A swap at quiescence is the one part of an event's end that bears on the banks (R166). -/
theorem Ev.settle_banks (e : Ev) : e.settle.banks = e.swapIfQuiescent.banks := by
  have hw := (Ev.takeAlarms_works e.swapIfQuiescent.arbiters).trans (State.updateLive_works _)
  rw [Ev.settle, State.sendPolls_rest]
  exact hw.banks.trans (Ev.arbiters_banks _)

theorem Ev.settleJudging_banks (e : Ev) : e.settleJudging.banks = e.swapIfQuiescent.banks := by
  have hw := ((Ev.takeAlarms_works e.swapIfQuiescent.arbiters).trans (State.updateLive_works _)).trans (State.judgeFreeze_works _)
  rw [Ev.settleJudging, State.sendPolls_rest]
  exact hw.banks.trans (Ev.arbiters_banks _)

theorem Ev.settleReset_banks (e : Ev) : e.settleReset.banks = e.banks := by
  rw [Ev.settleReset, State.sendPolls_rest]
  exact (Ev.takeAlarms_works e).banks

theorem State.KeepsBanks.settle {s : State} {e : Ev} (h : s.KeepsBanks e.toState) : s.KeepsBanks e.settle :=
  (h.trans e.swapIfQuiescent_keepsBanks).trans (.of_eq e.settle_banks)

theorem State.KeepsBanks.settleJudging {s : State} {e : Ev} (h : s.KeepsBanks e.toState) : s.KeepsBanks e.settleJudging :=
  (h.trans e.swapIfQuiescent_keepsBanks).trans (.of_eq e.settleJudging_banks)

theorem State.Drains.settle_keepsBanks {s : State} {e : Ev} (h : s.Drains e.toState) : s.KeepsBanks e.settle :=
  h.keepsBanks.settle

/-! ### Frames -/

theorem Ev.orderUnit_keepsBanks (e : Ev) (src : Station) (tag code : Byte) {c : Option PanelCmd}
    (hc : ∀ x, c = some x → ∃ operand kind, panelCmd code operand kind = some x) :
    e.KeepsBanks (e.orderUnit src tag code c).toState :=
  (e.orderUnit_prepares src tag code c hc).keepsBanks (e.orderUnit_keepsSets src tag code hc)

theorem Ev.manager_keepsBanks (e : Ev) (src : Station) (tag code request : Byte) (ops : List Byte) :
    e.KeepsBanks (e.manager src tag code (Ev.requestOf request ops)).toState :=
  (e.manager_prepares src tag code (requestOf_prepared request ops)).keepsBanks (requestOf_serveSets request ops e)

theorem Ev.takeHeel_drains (e : Ev) (src : HeelSrc) (v : BitVec 16) : e.Drains (e.takeHeel src v) := by
  unfold Ev.takeHeel
  dsimp only
  split <;> exact .of_same rfl rfl

theorem Ev.heelJudged_drains (e : Ev) (h : Heel) : e.Drains ({ e with heel := h } : Ev).judgeHeel := by
  unfold Ev.judgeHeel
  split <;> exact .of_same rfl rfl

theorem Ev.transmitError_drains (e : Ev) : e.Drains e.transmitError := by
  unfold Ev.transmitError
  dsimp only
  split <;> exact .of_same rfl rfl

theorem Ev.transmitDone_drains (e : Ev) (c : TxClass) : e.Drains (e.transmitDone c) := by
  unfold Ev.transmitDone
  dsimp only
  split <;> exact .of_same rfl rfl

section Frames

variable (s : State)

theorem State.commandFrame_keepsBanks (route : Route) (payload : List Byte) (tag code : Byte) {c : Option PanelCmd}
    (hc : ∀ x, c = some x → ∃ operand kind, panelCmd code operand kind = some x) :
    s.KeepsBanks (s.commandFrame route payload tag code c) := by
  unfold State.commandFrame
  split
  · exact (s.begin.orderUnit_keepsBanks _ _ _ hc).settle
  · exact s.rxDiscard_scene.keepsBanks
  · exact .refl s

theorem State.requestFrame_keepsBanks (route : Route) (payload : List Byte) (tag code request : Byte) (ops : List Byte) :
    s.KeepsBanks (s.requestFrame route payload tag code (Ev.requestOf request ops)) := by
  unfold State.requestFrame
  split
  · exact (s.begin.manager_keepsBanks _ _ _ _ _).settle
  · exact s.rxDiscard_scene.keepsBanks
  · exact .refl s

theorem State.takeFrame_keepsBanks (f : RxFrame) : s.KeepsBanks (s.takeFrame f) := by
  unfold State.takeFrame
  split
  · exact .refl s
  · exact s.rxDiscard_scene.keepsBanks
  · unfold State.takeCommand
    split
    · exact .refl s
    · exact (s.begin.orderUnit_keepsBanks _ _ _ fun x hx => ⟨_, _, hx⟩).settle
  · unfold State.takeHeelFrame
    split
    · exact .refl s
    · exact (s.begin.takeHeel_drains _ _).settle_keepsBanks
  · unfold State.takeRequest
    split
    · exact .refl s
    · exact (s.begin.manager_keepsBanks _ _ _ _ _).settle

theorem State.hear_keepsBanks (bytes : List Byte) : s.KeepsBanks (s.hear bytes) := by
  unfold State.hear
  split
  · exact s.takeFrame_keepsBanks _
  · exact .refl s

end Frames

/-! ### Resets (R161, R173 to R177) -/

theorem Banks.Wf.restarted {bs : Banks} (h : bs.Wf) : (⟨bs.a.restarted, bs.b.restarted⟩ : Banks).Wf := by
  obtain ⟨hstates, ha, hb⟩ := h
  exact ⟨hstates.restarted.1, ha.restarted, hb.restarted⟩

theorem Banks.blank_wf : Banks.blank.Wf := ⟨.inr (.inr ⟨.inl rfl, rfl⟩), Bank.blank_wf, Bank.blank_wf⟩

/-- The power-on load takes a good image into bank A, or leaves both banks EMPTY (R174). -/
theorem Ev.powerOnLoad_banksWf {e : Ev} (h : e.banks = Banks.blank) : e.powerOnLoad.banks.Wf := by
  refine Banks.wf_iff.mpr ⟨(Ev.powerOnLoad_banks h).1, ?_⟩
  have hblank : e.banks.SetsWf := h ▸ (Banks.wf_iff.mp Banks.blank_wf).2
  unfold Ev.powerOnLoad
  split
  · next bank hb => exact hblank.put (id := .a) (loadImage_wf hb)
  · exact hblank

section Resets

variable (s : State)

/-- A restart takes each bank to what R161 says, and nothing else of it bears on the banks. -/
theorem State.restart_banks (flag : EventFlag) (pins : Pins) :
    (s.restart flag pins).banks = ⟨s.banks.a.restarted, s.banks.b.restarted⟩ := by
  have habandon : s.begin.Drains s.begin.abandonRuns :=
    Ev.Drains.foldl _ (fun e b => .ite (e.closeRun_drains b none) (.refl _)) _ _
  have hruns : s.begin.abandonRuns.banks = s.banks := habandon.banks
  calc (s.restart flag pins).banks
    _ = (s.begin.abandonRuns.restartState flag pins).begin.raiseAnew.banks := Ev.settleReset_banks _
    _ = (s.begin.abandonRuns.restartState flag pins).banks := (Ev.raiseAnew_still _).banks
    _ = ⟨s.banks.a.restarted, s.banks.b.restarted⟩ := by simp only [State.restartState, hruns]

theorem State.restart_keepsBanks (flag : EventFlag) (pins : Pins) : s.KeepsBanks (s.restart flag pins) := fun h => by
  rw [State.restart_banks]
  exact h.restarted

theorem State.powerOn_banksWf (pins : Pins) : (s.powerOn pins).banks.Wf := by
  unfold State.powerOn
  dsimp only
  generalize he : Ev.setFlag _ EventFlag.powerOn = e
  have hblank : e.banks = Banks.blank := by
    rw [← he]
    rfl
  have hsamples : (branchIds.foldl Ev.sample e.powerOnLoad).banks = e.powerOnLoad.banks :=
    foldl_keeps (fun e : Ev => e.banks) _ (fun e b => (e.sample_sets b).banks) _ _
  rw [Ev.settleReset_banks, ((Ev.raiseNoTable_still _).trans (Ev.freshRuns_still _)).banks, hsamples]
  exact Ev.powerOnLoad_banksWf hblank

theorem State.transmitted_keepsBanks (c : TxClass) (pins : Pins) : s.KeepsBanks (s.transmitted c pins) := by
  have hd := s.begin.transmitDone_drains c
  unfold State.transmitted
  split
  · exact s.restart_keepsBanks _ pins
  · split
    · have hp : s.KeepsBanks (s.begin.transmitDone .part).partSent.toState := hd.keepsBanks
      dsimp only
      split
      · exact hp.settleJudging
      · exact hp.settle
    · exact hd.settle_keepsBanks

end Resets

/-! ### The commands, one by one -/

/-- An outcome whose next state has legal banks where the state before has. -/
def State.KeepsBanksBy (s : State) (o : Host.Outcome State Fault Refusal) : Prop := ∀ t, o = .next t → s.KeepsBanks t

theorem State.live_keepsBanks {s : State} {f : State → State} (hf : s.KeepsBanks (f s)) : s.KeepsBanksBy (s.live f) := by
  intro t h
  rcases State.live_next h with rfl | rfl
  · exact .refl _
  · exact hf

section Commands

variable (s : State)

/-- The rows of Table 2-2. -/
theorem panelRow_keepsBanks {c : Instr} {row : PanelRow} (h : panelRow c = some row) : s.KeepsBanksBy (exec c s) := by
  rw [exec_panelRow h]
  exact State.live_keepsBanks (s.commandFrame_keepsBanks _ _ _ _ fun y hy => Option.some.inj hy ▸ panelRow_cmd h)

/-- The rows of Table 10-3. -/
theorem requestRow_keepsBanks {c : Instr} {row : RequestRow} (h : requestRow c = some row) : s.KeepsBanksBy (exec c s) := by
  have he : exec c s = s.live fun s => s.requestFrame row.route row.payload row.tag row.code row.serve := by
    cases c <;> cases h <;> rfl
  rw [he, requestRow_serve h]
  exact State.live_keepsBanks (s.requestFrame_keepsBanks _ _ _ _ _ _)

theorem execHeel_keepsBanks (route : Route) (value : BitVec 16) : s.KeepsBanksBy (execHeel route value s) := by
  refine State.live_keepsBanks ?_
  split
  · exact (s.begin.takeHeel_drains _ value).settle_keepsBanks
  · exact .refl s

theorem execStoreEnd_keepsBanks (readBack : NvImage) : s.KeepsBanksBy (execStoreEnd readBack s) := by
  refine State.live_keepsBanks ?_
  split
  · exact .ite (s.endStore_scene _ readBack).keepsBanks
  · exact .refl s

theorem execTransmitSuccess_keepsBanks (pins : Pins) : s.KeepsBanksBy (execTransmitSuccess pins s) := by
  refine State.live_keepsBanks ?_
  split
  · exact s.transmitted_keepsBanks _ pins
  · exact .refl s

theorem execStatusReply_keepsBanks (b : BranchId) (bytes : List Byte) : s.KeepsBanksBy (execStatusReply b bytes s) := by
  refine State.live_keepsBanks ?_
  split
  · next q hq =>
    split
    · exact (s.begin.pollAnswered_drains b q _ (Branch.poll?_some hq).1).settle_keepsBanks
    · exact .refl s
  · exact .refl s

theorem execPollMiss_keepsBanks (b : BranchId) : s.KeepsBanksBy (execPollMiss b s) := by
  refine State.live_keepsBanks ?_
  split
  · exact (s.begin.pollMissed_drains b _).settle_keepsBanks
  · exact .refl s

/-- A sample that finds a line low may cancel a PENDING activation (R41). -/
theorem execLineSample_keepsBanks (b : BranchId) (low : Bool) : s.KeepsBanksBy (execLineSample b low s) := by
  refine State.live_keepsBanks (State.KeepsBanks.settle ?_)
  have hsample : s.KeepsBanks ((s.setLine b low).begin.sample b).toState := .of_eq (Ev.sample_sets _ b).banks
  exact hsample.trans ((Ev.sourcesChanged_prepares _ _).keepsBanks (Ev.sourcesChanged_keepsSets _ _))

theorem execRetryExpiry_keepsBanks (d : Slot) : s.KeepsBanksBy (execRetryExpiry d s) := by
  refine State.live_keepsBanks ?_
  split
  · exact (s.begin.retryExpired_drains d _ _).settle_keepsBanks
  · exact .refl s

theorem execIssueDeadlineExpiry_keepsBanks (d : Slot) : s.KeepsBanksBy (execIssueDeadlineExpiry d s) := by
  refine State.live_keepsBanks ?_
  split
  · exact (s.begin.issueExpired_drains d _).settle_keepsBanks
  · exact .refl s

theorem execDeadlineExpiry_keepsBanks (d : Slot) : s.KeepsBanksBy (execDeadlineExpiry d s) := by
  refine State.live_keepsBanks ?_
  split
  · exact (s.begin.endTimeout_drains d _).settle_keepsBanks
  · exact .refl s

theorem execCallAnswer_keepsBanks (b : BranchId) (serial : Serial) : s.KeepsBanksBy (execCallAnswer b serial s) := by
  refine State.live_keepsBanks ?_
  split
  · exact (s.begin.takeAnswer_drains b _ serial).settle_keepsBanks
  · exact .refl s

theorem execAssignSent_keepsBanks (b : BranchId) : s.KeepsBanksBy (execAssignSent b s) := by
  refine State.live_keepsBanks ?_
  split
  · exact (s.begin.beginRound_drains b _).settle_keepsBanks
  · exact .refl s

theorem execCallAnswerFault_keepsBanks (b : BranchId) : s.KeepsBanksBy (execCallAnswerFault b s) := by
  refine State.live_keepsBanks ?_
  split
  · exact (s.begin.noProgress_drains b _ _ fun e r => e.beginRound_drains b r).settle_keepsBanks
  · exact .refl s

theorem execCallNoAnswer_keepsBanks (b : BranchId) : s.KeepsBanksBy (execCallNoAnswer b s) := by
  refine State.live_keepsBanks ?_
  split
  · exact (s.begin.endRun_drains b none).settle_keepsBanks
  · exact .refl s

end Commands

/-- Every command. -/
theorem exec_keepsBanks (c : Instr) (s : State) : s.KeepsBanksBy (exec c s) := by
  cases hp : panelRow c with
  | some row => exact panelRow_keepsBanks s hp
  | none =>
    cases hr : requestRow c with
    | some row => exact requestRow_keepsBanks s hr
    | none =>
      cases c with
      | powerOnReset pins => exact fun t h _ => Host.Outcome.next.inj h ▸ s.powerOn_banksWf pins
      | restartPin pins => exact State.live_keepsBanks (s.restart_keepsBanks _ pins)
      | powerLoss => exact State.live_keepsBanks (f := State.losePower) fun _ => Banks.blank_wf
      | trunkFrame bytes => exact State.live_keepsBanks (f := fun s => s.hear bytes) (s.hear_keepsBanks bytes)
      | arbitrationLost winner => exact State.live_keepsBanks (.ite (s.stopSending.hear_keepsBanks winner))
      | heel route value => exact execHeel_keepsBanks s route value
      | storeEnd readBack => exact execStoreEnd_keepsBanks s readBack
      | transmitStart => exact State.live_keepsBanks (f := fun s => { s with trunk := s.trunk.start }) (.of_eq rfl)
      | transmitError => exact State.live_keepsBanks (.ite s.begin.transmitError_drains.settle_keepsBanks)
      | transmitSuccess pins => exact execTransmitSuccess_keepsBanks s pins
      | statusReply b bytes => exact execStatusReply_keepsBanks s b bytes
      | pollMiss b => exact execPollMiss_keepsBanks s b
      | lineSample b low => exact execLineSample_keepsBanks s b low
      | dwellExpiry d => exact State.live_keepsBanks (.ite (s.begin.dwellExpired_drains d).settle_keepsBanks)
      | retryExpiry d => exact execRetryExpiry_keepsBanks s d
      | warningLeadExpiry d => exact State.live_keepsBanks (.ite (s.begin.leadExpired_drains d).settle_keepsBanks)
      | issueDeadlineExpiry d => exact execIssueDeadlineExpiry_keepsBanks s d
      | deadlineExpiry d => exact execDeadlineExpiry_keepsBanks s d
      | linkLostHoldExpiry d => exact State.live_keepsBanks (.ite (s.begin.holdsExpired_drains d).settle_keepsBanks)
      | heelSourceStale src => exact State.live_keepsBanks (.ite (s.begin.heelJudged_drains _).settle_keepsBanks)
      | heelStaleFirstJudge => exact State.live_keepsBanks (.ite (s.begin.heelJudged_drains _).settle_keepsBanks)
      | reannounceExpiry => exact State.live_keepsBanks (.ite s.reannounced_scene.keepsBanks)
      | spacingPoint => exact State.live_keepsBanks (.ite s.judgeFreeze_scene.keepsBanks)
      | refreshPoint => exact State.live_keepsBanks (.ite s.judgeFreeze_scene.keepsBanks)
      | snapshotRelease => exact State.live_keepsBanks (.ite (.of_eq rfl))
      | callAnswer b serial => exact execCallAnswer_keepsBanks s b serial
      | assignSent b => exact execAssignSent_keepsBanks s b
      | callAnswerFault b => exact execCallAnswerFault_keepsBanks s b
      | callNoAnswer b => exact execCallNoAnswer_keepsBanks s b
      | closeZone | closeAll | releaseZone | releaseAll | doorClose | doorOpen | doorStop | ack | ackAll => cases hp
      | _ => cases hr

/-- Settles O6: a load puts records of their tables' lengths in their places and is READY only with the check value of its
set, every other change of a set empties it, and a swap, a cancellation and a restart change the states of banks past
loading alone; a power-on load takes an image in order. -/
theorem everyStepKeepsTheBanks : Obligations.EveryStepKeepsTheBanks := by
  unfold Obligations.EveryStepKeepsTheBanks
  intro s t hs h
  unfold step at h
  split at h
  · obtain rfl := Host.Outcome.next.inj h
    have ht : s.tick.banks = s.banks := by
      unfold State.tick
      split <;> rfl
    rwa [ht]
  · next c rest _ => exact exec_keepsBanks c { s with pending := rest } t h hs

end Sys2Proof.Machine
end


section
/-! SUPPORT. A settled part of which one branch changes that does not poll: nothing is left to be done (R137). -/

namespace Sys2Proof.Machine

open Sys2Proof

/-- A settled part stays settled over a change of one branch that keeps its line sense and leaves it without polls. -/
theorem State.Settled.modBranch {s : State} (h : s.Settled) (b : BranchId) (f : Branch → Branch)
    (hf : (f s.branches[b]).sense = s.branches[b].sense) (hp : (f s.branches[b]).isPolling = false) :
    State.Settled (s.begin.modBranch b f).toState := by
  obtain ⟨hb, hw, ha, hl, hpolled⟩ := h
  have hs : s.SameSources (s.begin.modBranch b f).toState := by
    refine ⟨rfl, rfl, fun x => ?_⟩
    by_cases hx : b = x
    · subst hx
      exact (congrArg Branch.sense (Ev.modBranch_same s.begin b f)).trans hf
    · exact congrArg Branch.sense (Ev.modBranch_other s.begin b x f hx)
  refine ⟨hb, hw, ha, ?_, fun x hxp hne => ?_⟩
  · exact Eq.trans hl (State.picture_congr hs rfl rfl).symm
  · by_cases hx : b = x
    · subst hx
      rw [Ev.modBranch_same] at hxp
      cases hp.symm.trans hxp
    · rw [Ev.modBranch_other _ _ _ _ hx] at hxp ⊢
      exact hpolled x hxp hne

/-- An event that changes one branch so is over with that change. -/
theorem State.Settled.modBranch_settle {s : State} (h : s.Settled) (b : BranchId) (f : Branch → Branch)
    (hf : (f s.branches[b]).sense = s.branches[b].sense) (hp : (f s.branches[b]).isPolling = false) :
    (s.begin.modBranch b f).settle = { s with branches := s.branches.set b (f s.branches[b]) } :=
  Ev.settle_of_settled (h.modBranch b f hf hp) rfl

end Sys2Proof.Machine
end

section
/-! SUPPORT. The rounds of a run (R144, R145): the CALL, the free addresses, the serials of the record. -/

namespace Sys2Proof.Machine

open Sys2Proof

/-! ### The class window, the free addresses -/

theorem State.callFrame_of_branchRec {s : State} {b : BranchId} {v : BranchRec} (h : s.branchRec b = some v) :
    s.callFrame b = .call v.classMin v.classMax := by
  rw [State.callFrame, h]

theorem State.addressHeld_iff (s : State) (b : BranchId) (r : Run) (a : Nat) :
    s.addressHeld b r a = true ↔ s.AddressTaken b r a := by
  simp [State.addressHeld, State.AddressTaken, or_assoc]

theorem mem_addresses (a : Nat) : a ∈ addresses ↔ 1 ≤ a ∧ a ≤ 16 := by
  simp only [addresses, List.mem_cons, List.not_mem_nil, or_false]
  omega

theorem addresses_sorted : addresses.Pairwise (· < ·) := by decide

/-- The lowest free address: the ones below it are held (R144). -/
theorem State.freeAddress_lowest {s : State} {b : BranchId} {r : Run} {a : Nat} (h : s.freeAddress b r = some a) :
    1 ≤ a ∧ a ≤ 16 ∧ ¬s.AddressTaken b r a ∧ ∀ x, 1 ≤ x → x < a → s.AddressTaken b r x := by
  obtain ⟨hfree, before, after, hsplit, hheld⟩ := List.find?_eq_some_iff_append.mp h
  obtain ⟨ha1, ha16⟩ := (mem_addresses a).mp (List.mem_of_find?_eq_some h)
  refine ⟨ha1, ha16, fun k => ?_, fun x hx hxa => ?_⟩
  · rw [(s.addressHeld_iff b r a).mpr k] at hfree
    cases hfree
  · have hmem : x ∈ before ++ a :: after := hsplit ▸ (mem_addresses x).mpr ⟨hx, by omega⟩
    have hsorted : (before ++ a :: after).Pairwise (· < ·) := hsplit ▸ addresses_sorted
    obtain ⟨-, hafter, -⟩ := List.pairwise_append.mp hsorted
    rcases List.mem_append.mp hmem with hm | hm
    · exact (s.addressHeld_iff b r x).mp (by simpa using hheld x hm)
    · rcases List.mem_cons.mp hm with rfl | hm
      · exact absurd hxa (lt_irrefl _)
      · exact absurd ((List.pairwise_cons.mp hafter).1 x hm) (by omega)

/-- With every address 1 to 16 held there is no free one (R144). -/
theorem State.freeAddress_none {s : State} {b : BranchId} {r : Run}
    (h : ∀ a, 1 ≤ a → a ≤ 16 → s.AddressTaken b r a) : s.freeAddress b r = none := by
  refine List.find?_eq_none.mpr fun a ha => ?_
  obtain ⟨ha1, ha16⟩ := (mem_addresses a).mp ha
  rw [(s.addressHeld_iff b r a).mpr (h a ha1 ha16)]
  decide

/-! ### The serials of a record -/

/-- A serial that no pair of the record has. -/
theorem Run.find_of_new {r : Run} {serial : Serial} (h : ∀ p ∈ r.pairs, p.1 ≠ serial) :
    (r.pairs.find? fun p => p.1 == serial) = none :=
  List.find?_eq_none.mpr fun p hp k => h p hp (beq_iff_eq.mp k)

/-- The pair of a serial, in a list of pairs of different serials. -/
theorem find_of_mem_pairs {ps : List (Serial × Nat)} {serial : Serial} {a : Nat} (h : (serial, a) ∈ ps)
    (hd : ps.Pairwise fun p q => p.1 ≠ q.1) : (ps.find? fun p => p.1 == serial) = some (serial, a) := by
  induction ps with
  | nil => cases h
  | cons p ps ih =>
    obtain ⟨hp, hps⟩ := List.pairwise_cons.mp hd
    rcases List.mem_cons.mp h with rfl | hm
    · exact List.find?_cons_of_pos (beq_self_eq_true _)
    · rw [List.find?_cons_of_neg (by simpa using hp _ hm)]
      exact ih hm hps

/-! ### Events of a run -/

/-- A run at its step. -/
theorem Branch.runAt_of_state {br : Branch} {r : Run} {step : RunStep} (h : br.state = .enrolling r)
    (hs : r.step = step) : br.runAt step = some r := by
  simp only [Branch.runAt, Branch.run, h, hs, if_true]

theorem exec_callAnswer {s : State} {b : BranchId} {r : Run} (hp : s.powered = true)
    (hr : s.branches[b].state = .enrolling r) (hs : r.step = .calling) (serial : Serial) :
    exec (.callAnswer b serial) s = .next (s.begin.takeAnswer b r serial).settle := by
  simp only [exec, execCallAnswer, State.live, hp, if_true, Branch.runAt_of_state hr hs]

theorem exec_assignSent {s : State} {b : BranchId} {r : Run} (hp : s.powered = true)
    (hr : s.branches[b].state = .enrolling r) (hs : r.step = .assigning) :
    exec (.assignSent b) s = .next (s.begin.beginRound b r).settle := by
  simp only [exec, execAssignSent, State.live, hp, if_true, Branch.runAt_of_state hr hs]

theorem exec_callAnswerFault {s : State} {b : BranchId} {r : Run} (hp : s.powered = true)
    (hr : s.branches[b].state = .enrolling r) (hs : r.step = .calling) :
    exec (.callAnswerFault b) s = .next (s.begin.noProgress b r fun e r' => e.beginRound b r').settle := by
  simp only [exec, execCallAnswerFault, State.live, hp, if_true, Branch.runAt_of_state hr hs]

theorem exec_callNoAnswer {s : State} {b : BranchId} {r : Run} (hp : s.powered = true)
    (hr : s.branches[b].state = .enrolling r) (hs : r.step = .calling) :
    exec (.callNoAnswer b) s = .next (s.begin.endRun b none).settle := by
  simp only [exec, execCallNoAnswer, State.live, hp, if_true, Branch.runAt_of_state hr hs]

/-- A round without progress that is not the third (R145). -/
theorem Ev.noProgress_of_repeat {r : Run} (h : r.noProgress < 2) (e : Ev) (b : BranchId) (again : Ev → Run → Ev) :
    e.noProgress b r again = again e { r with noProgress := r.noProgress + 1 } :=
  if_pos (Nat.succ_lt_succ h)

/-- Two changes of a branch are one. -/
theorem Ev.modBranch_modBranch (e : Ev) (b : BranchId) (f g : Branch → Branch) :
    (e.modBranch b f).modBranch b g = e.modBranch b (g ∘ f) := by
  have hg : (e.branches.set b (f e.branches[b]))[b] = f e.branches[b] := Ev.modBranch_same e b f
  have hv : ((e.branches.set b (f e.branches[b])).set b (g ((e.branches.set b (f e.branches[b]))[b])))
      = e.branches.set b (g (f e.branches[b])) := by
    rw [hg]
    exact Vector.set_set ..
  exact congrArg (fun v => ({ e with branches := v } : Ev)) hv

/-- Settles O53: each round is one change of a branch that does not poll. -/
theorem roundsAssignAddresses : Obligations.RoundsAssignAddresses := by
  intro s b r v hpow hset hr hv
  have hcall : s.callFrame b = .call v.classMin v.classMax := State.callFrame_of_branchRec hv
  refine ⟨fun serial a hs hnew ha => ⟨?_, State.freeAddress_lowest ha⟩, fun serial a hs hmem hd hn => ?_, fun hs => ?_,
    fun hs hn => ?_⟩
  · have ha' : s.begin.freeAddress b r = some a := ha
    rw [exec_callAnswer hpow hr hs, Ev.takeAnswer, Run.find_of_new hnew]
    dsimp only
    rw [ha']
    exact congrArg Host.Outcome.next (hset.modBranch_settle b _ rfl rfl)
  · rw [exec_callAnswer hpow hr hs, Ev.takeAnswer, find_of_mem_pairs hmem hd]
    dsimp only
    rw [Ev.noProgress_of_repeat hn, Ev.sendAssign, Ev.modBranch_modBranch]
    exact congrArg Host.Outcome.next (hset.modBranch_settle b _ rfl rfl)
  · have hcall' : s.begin.callFrame b = .call v.classMin v.classMax := hcall
    rw [exec_assignSent hpow hr hs, Ev.beginRound, hcall']
    exact congrArg Host.Outcome.next (hset.modBranch_settle b _ rfl rfl)
  · have hcall' : s.begin.callFrame b = .call v.classMin v.classMax := hcall
    rw [exec_callAnswerFault hpow hr hs, Ev.noProgress_of_repeat hn, Ev.beginRound, hcall']
    exact congrArg Host.Outcome.next (hset.modBranch_settle b _ rfl rfl)

end Sys2Proof.Machine
end


section
/-! SUPPORT. The branches at the end of an event in which no bank is swapped: polls go out (R137), and nothing else. -/

namespace Sys2Proof.Machine

open Sys2Proof

/-- A poll that goes out keeps the state of the branch and its foreign list. -/
theorem State.polled_keeps (s : State) (b : BranchId) :
    (s.polled b).state = s.branches[b].state ∧ (s.polled b).foreign = s.branches[b].foreign := by
  unfold State.polled
  split
  · cases s.nextPoll b with
    | none => exact ⟨rfl, rfl⟩
    | some p => exact ⟨rfl, rfl⟩
  · exact ⟨rfl, rfl⟩

/-- No poll goes out on a branch that is not POLLING. -/
theorem State.polled_of_not_polling {s : State} {b : BranchId} (h : s.branches[b].isPolling = false) :
    s.polled b = s.branches[b] := by
  unfold State.polled
  rw [h]
  rfl

section Settle

variable {e : Ev} (h : e.swapIfQuiescent = e) (b : BranchId)
include h

theorem Ev.settle_branch : e.settle.branches[b] = e.arbitrated.polled b := by
  rw [e.settle_eq h, State.sendPolls_branch]

theorem Ev.settle_branch_keeps :
    e.settle.branches[b].state = e.branches[b].state ∧ e.settle.branches[b].foreign = e.branches[b].foreign := by
  rw [Ev.settle_branch h]
  have hk := e.arbitrated.polled_keeps b
  rw [e.arbitrated_rest] at hk ⊢
  exact hk

theorem Ev.settle_branch_of_not_polling (hp : e.branches[b].isPolling = false) :
    e.settle.branches[b] = e.branches[b] := by
  have hr : e.arbitrated.branches = e.branches := by rw [e.arbitrated_rest]
  rw [Ev.settle_branch h, State.polled_of_not_polling (by rwa [hr]), hr]

omit b in
theorem Ev.settle_mgr : e.settle.mgr = e.mgr := by
  rw [e.settle_eq h, State.sendPolls_rest, e.arbitrated_rest]

end Settle

end Sys2Proof.Machine
end

section
/-! SUPPORT. Management requests as rows (R167): what reaches the Management Responder is one event and one reply. -/

namespace Sys2Proof.Machine

open Sys2Proof

/-- Every management request is its MGMT-REQUEST frame. -/
theorem exec_requestRow {i : Instr} {row : RequestRow} (h : requestRow i = some row) (s : State) :
    exec i s = s.live fun s => s.requestFrame row.route row.payload row.tag row.code row.serve := by
  cases i <;> cases h <;> rfl

/-- A MGMT-REQUEST that reaches the Management Responder is served and answered. -/
theorem exec_requestRow_of_managed {i : Instr} {row : RequestRow} (h : requestRow i = some row) {s : State}
    (hm : s.Managed row.route row.payload) :
    exec i s = .next ((row.serve s.begin).1.reply row.route.src row.tag row.code (row.serve s.begin).2).settle := by
  obtain ⟨hp, hd⟩ := hm
  have hf : s.requestFrame row.route row.payload row.tag row.code row.serve =
      ((row.serve s.begin).1.reply row.route.src row.tag row.code (row.serve s.begin).2).settle := by
    unfold State.requestFrame
    rw [hd]
    rfl
  rw [exec_requestRow h, ← hf]
  exact congrArg Host.Outcome.next (if_pos hp)

/-- The reply class, the last-request flag and the outer part once a request that keeps the outer part is answered. -/
theorem Ev.reply_outer {s : State} {e : Ev} (h : e.outer = s.outer) (src : Station) (tag code : Byte) (r : Reply) :
    (e.reply src tag code r).outer =
      { s.outer with lastRequest := r.flag code, replies := s.withReply src tag code r } := by
  have ho : (e.reply src tag code r).outer =
      { e.outer with lastRequest := r.flag code, replies := e.withReply src tag code r } := rfl
  have hi : e.trunk.ownId = s.trunk.ownId := congrArg Outer.ownId h
  have ha : e.trunk.replies = s.trunk.replies := congrArg Outer.replies h
  rw [ho, h, State.withReply, State.withReply, State.replyFrame, State.replyFrame, hi, ha]

/-- A settled part that only replies. -/
theorem Ev.reply_settle {e : Ev} (h : e.Settled) (hr : e.reqs = []) (src : Station) (tag code : Byte) (r : Reply) :
    (e.reply src tag code r).settle = e.toState.replied src tag code r :=
  Ev.settle_of_settled (e := e.reply src tag code r) h hr

end Sys2Proof.Machine
end

section
/-! SUPPORT. FORGET-FOREIGN (R147): the list of one branch is emptied, and the clear of FOREIGN-UNIT is handed on. -/

namespace Sys2Proof.Machine

open Sys2Proof

/-- The event of a FORGET-FOREIGN. -/
def State.forgetEvent (s : State) (b : BranchId) : Ev :=
  (s.begin.modBranch b fun r => { r with foreign := [] }).push (.clear (.branch b) .foreignUnit)

theorem State.begin_forgetForeign {s : State} {branch : Byte} {b : BranchId} (h : branchOf branch = some b) :
    s.begin.forgetForeign branch = (s.forgetEvent b, .ok []) := by
  rw [Ev.forgetForeign, h]
  rfl

theorem State.forgetEvent_outer (s : State) (b : BranchId) : (s.forgetEvent b).outer = s.outer :=
  s.begin.modBranch_outer b (fun r => { r with foreign := [] }) fun _ => ⟨rfl, rfl⟩

theorem State.forgetEvent_foreign (s : State) (b x : BranchId) :
    (s.forgetEvent b).branches[x].foreign = if x = b then [] else s.branches[x].foreign := by
  by_cases hx : x = b
  · subst hx
    rw [if_pos rfl]
    exact congrArg Branch.foreign (Ev.modBranch_same s.begin x fun r => { r with foreign := [] })
  · rw [if_neg hx]
    exact congrArg Branch.foreign (Ev.modBranch_other s.begin b x (fun r => { r with foreign := [] }) (Ne.symm hx))

/-- Settles O42: the event changes one foreign list, and its one request clears FOREIGN-UNIT. -/
theorem forgetForeignEmptiesTheList : Obligations.ForgetForeignEmptiesTheList := by
  intro s route tag branch b hset hb hm hbr
  have hexec := exec_requestRow_of_managed (i := .forgetForeign route tag branch) rfl hm
  have he := State.begin_forgetForeign (s := s) hbr
  obtain ⟨e, hE⟩ : ∃ e, e = (s.forgetEvent b).reply route.src tag 13 (.ok []) := ⟨_, rfl⟩
  have hq : e.swapIfQuiescent = e := Ev.swapIfQuiescent_of_not_pending _ (hE ▸ hb)
  have hforeign : ∀ x : BranchId, e.branches[x].foreign = if x = b then [] else s.branches[x].foreign := by
    rw [hE]
    exact s.forgetEvent_foreign b
  have hal : e.alarms = s.alarms := hE ▸ rfl
  refine ⟨e.settle, ?_, ?_, ?_, ?_, fun x hx => ?_, fun x hx ha hack => ?_⟩
  · rw [hexec, hE]
    dsimp only
    rw [he]
  · rw [Ev.settle_outer, hE, Ev.reply_outer (s.forgetEvent_outer b)]
    rfl
  · rw [(Ev.settle_branch_keeps hq b).2, hforeign, if_pos rfl]
  · refine (Ev.settle_doors hq ?_).trans (hE ▸ rfl)
    subst hE
    exact hset.2.2.1
  · rw [(Ev.settle_branch_keeps hq x).2, hforeign, if_neg hx]
  · obtain ⟨-, hsub, hkind⟩ := Alarms.entry_some hx
    have hx' : e.arbiters.alarms.entry (.branch b) .foreignUnit = some x := by rwa [(Ev.arbiters_alarms e).1, hal]
    have hreq : e.reqs = [.clear (.branch b) .foreignUnit] := hE ▸ rfl
    rw [Ev.settle_alarms hq, hreq, State.takeReqs_one, State.reqRemoves_clear_of_unacked hx' hack rfl]
    refine (congrArg (fun a : Alarms => a.entry (.branch b) .foreignUnit)
      (State.takeClear_alarms_of_unacked hx' ha hack rfl)).trans ?_
    exact Alarms.entry_replace hx' hsub hkind

end Sys2Proof.Machine
end


section
/-! SUPPORT. ENROLL (R141 to R143): the begin of a FRESH run unbinds the doors of its branch, that of an ADD run none. -/

namespace Sys2Proof.Machine

open Sys2Proof

/-! ### The doors that lose their binding -/

/-- Each door of a list of different doors loses its binding, and nothing else changes. -/
theorem Ev.unbindAll_spec (l : List (Slot × Nat)) (hl : (l.map Prod.fst).Nodup) (e : Ev) :
    e.SameButDoors (l.foldl (fun e p => e.modDoor p.1 (Door.unbind e.uptime)) e)
      ∧ ∀ d : Slot, (l.foldl (fun e p => e.modDoor p.1 (Door.unbind e.uptime)) e).doors[d] =
        if d ∈ l.map Prod.fst then e.doors[d].unbind e.uptime else e.doors[d] := by
  induction l generalizing e with
  | nil => exact ⟨rfl, fun d => rfl⟩
  | cons p l ih =>
    obtain ⟨hp, hl⟩ := List.nodup_cons.mp hl
    obtain ⟨hs, hd⟩ := ih hl (e.modDoor p.1 (Door.unbind e.uptime))
    refine ⟨Ev.SameButDoors.trans rfl hs, fun d => ?_⟩
    rw [List.foldl_cons, hd d, List.map_cons]
    by_cases hx : p.1 = d
    · subst hx
      rw [if_neg hp, Ev.modDoor_same, if_pos List.mem_cons_self]
    · rw [Ev.modDoor_other _ _ _ _ hx]
      simp only [List.mem_cons, Ne.symm hx, false_or]
      rfl

theorem State.bound_slots_nodup (s : State) (b : BranchId) : ((s.bound b).map Prod.fst).Nodup :=
  List.pairwise_map.mpr (s.bound_nodup b)

/-- What a door without its binding is (R9, R26). -/
theorem Door.unbind_keeps (now : Time) (r : Door) :
    (r.unbind now).link = .unbound ∧ (r.unbind now).binding = none ∧ (r.unbind now).report = none
      ∧ (r.unbind now).slot = .none ∧ (r.unbind now).conds = r.conds := by
  obtain ⟨hlink, -, -, -, -, -, hconds⟩ := r.leaveOnline_keeps now .unbound
  exact ⟨hlink, rfl, rfl, rfl, hconds⟩

/-! ### The begin of a FRESH run (R142) -/

/-- A branch at the begin of a FRESH run. -/
def Branch.fresh (call : BranchFrame) (r : Branch) : Branch :=
  { r.send [.unassign, call] with
    state := .enrolling ⟨.fresh, 0, [], .calling⟩
    inFlight := none
    foreign := r.foreign.map fun f => { f with address := none } }

/-- A FRESH run begins: the branch and its bound doors change, and nothing else. -/
theorem Ev.beginFresh_spec (e : Ev) (b : BranchId) :
    e.beginFresh b = { e with doors := (e.beginFresh b).doors, branches := (e.beginFresh b).branches }
      ∧ (e.beginFresh b).branches[b] = e.branches[b].fresh (e.callFrame b)
      ∧ ∀ d : Slot, (e.beginFresh b).doors[d] =
        if d ∈ (e.bound b).map Prod.fst then e.doors[d].unbind e.uptime else e.doors[d] := by
  obtain ⟨hs, hd⟩ := e.unbindAll_spec (e.bound b) (e.bound_slots_nodup b)
  unfold Ev.beginFresh
  dsimp only
  generalize (e.bound b).foldl (fun e p => e.modDoor p.1 (Door.unbind e.uptime)) e = e₁ at hs hd
  rw [Ev.SameButDoors] at hs
  refine ⟨?_, ?_, hd⟩
  · rw [hs]
    rfl
  · rw [Ev.modBranch_same, hs]
    rfl

/-- The event of a request for a FRESH run. -/
def State.freshEvent (s : State) (b : BranchId) (src : Station) (tag : Byte) : Ev :=
  (s.begin.beginFresh b).reply src tag 12 (.ok [])

section Fresh

variable (s : State) (b : BranchId) (src : Station) (tag : Byte)

theorem State.freshEvent_outer :
    (s.freshEvent b src tag).outer =
      { s.outer with lastRequest := none, replies := s.withReply src tag 12 (.ok []) } :=
  Ev.reply_outer (s.begin.beginFresh_outer b) src tag 12 (.ok [])

theorem State.freshEvent_branch : (s.freshEvent b src tag).branches[b] = s.branches[b].fresh (s.callFrame b) :=
  (s.begin.beginFresh_spec b).2.1

theorem State.freshEvent_door (d : Slot) :
    (s.freshEvent b src tag).doors[d] =
      if d ∈ (s.bound b).map Prod.fst then s.doors[d].unbind s.uptime else s.doors[d] :=
  (s.begin.beginFresh_spec b).2.2 d

theorem State.freshEvent_sources : s.SameSources (s.freshEvent b src tag).toState :=
  (s.begin.beginFresh_moves b).sources.trans ⟨rfl, rfl, fun _ => rfl⟩

variable {s} (hb : s.bankPending = false)
include hb

theorem State.freshEvent_noSwap : (s.freshEvent b src tag).swapIfQuiescent = s.freshEvent b src tag := by
  refine Ev.swapIfQuiescent_of_not_pending _ ?_
  have hbanks : (s.freshEvent b src tag).banks = s.banks := by
    rw [State.freshEvent, (s.begin.beginFresh_spec b).1]
    rfl
  rw [State.bankPending, hbanks]
  exact hb

/-- No door of the branch is bound at the end of the event. -/
theorem State.freshEvent_bound : (s.freshEvent b src tag).settle.bound b = [] := by
  have hq := State.freshEvent_noSwap b src tag hb
  have hs := (s.freshEvent_sources b src tag).trans (Ev.settle_sources _ hq)
  refine List.eq_nil_iff_forall_not_mem.mpr fun p hp => ?_
  obtain ⟨v, hv, hvb, hbind⟩ := (State.mem_bound _ b p.1 p.2).mp hp
  obtain ⟨-, -, -, hkept, -⟩ := (Ev.settle_admits _ hq p.1).keeps
  rw [hkept, State.freshEvent_door] at hbind
  by_cases hm : p.1 ∈ (s.bound b).map Prod.fst
  · rw [if_pos hm, (Door.unbind_keeps _ _).2.1] at hbind
    cases hbind
  · rw [if_neg hm] at hbind
    exact hm (List.mem_map_of_mem ((s.mem_bound b p.1 p.2).mpr ⟨v, (hs.doorRec p.1).symm.trans hv, hvb, hbind⟩))

/-- A door that waits in no queue is left as the begin of the run leaves it. -/
theorem State.freshEvent_settle_door {d : Slot} (hd : s.doors[d].entry = none) :
    (s.freshEvent b src tag).settle.doors[d] =
      if d ∈ (s.bound b).map Prod.fst then s.doors[d].unbind s.uptime else s.doors[d] := by
  rw [← s.freshEvent_door b src tag d]
  refine (Ev.settle_admits _ (State.freshEvent_noSwap b src tag hb) d).of_no_entry ?_
  rw [State.freshEvent_door]
  split
  · exact Door.unbind_entry _ hd
  · exact hd

/-- No poll goes out on a branch that ENROLLS. -/
theorem State.freshEvent_settle_branch :
    (s.freshEvent b src tag).settle.branches[b] = s.branches[b].fresh (s.callFrame b) := by
  have hbr := s.freshEvent_branch b src tag
  rw [Ev.settle_branch_of_not_polling (State.freshEvent_noSwap b src tag hb) b (congrArg Branch.isPolling hbr), hbr]

end Fresh

/-! ### ENROLL -/

/-- ENROLL of a POLLING branch that is not busy begins its run (R141). -/
theorem State.begin_enroll {s : State} {branch mode : Byte} {b : BranchId} (h : branchOf branch = some b)
    (hp : s.branches[b].state = .polling) (hbusy : s.enrollBusy b = false) (hm : mode.toNat ≤ 1) :
    s.begin.enroll branch mode = (if mode = 0 then s.begin.beginFresh b else s.begin.beginAdd b, .ok []) := by
  have hp' : s.begin.branches[b].state = .polling := hp
  have hbusy' : s.begin.enrollBusy b = false := hbusy
  simp only [Ev.enroll, h, if_neg (Nat.not_lt.mpr hm), hp', hbusy', Bool.false_eq_true, if_false]

/-- A door of a branch that is not busy waits in no queue (R141). -/
theorem State.entry_of_not_busy {s : State} {b : BranchId} (h : s.enrollBusy b = false) :
    ∀ p ∈ s.bound b, s.doors[p.1].entry = none := by
  intro p hp
  have := List.any_eq_false.mp h p hp
  simp only [Bool.or_eq_true, not_or, Option.isSome_iff_ne_none, not_not] at this
  exact this.1.1

/-- Settles O41: the begin of a FRESH run, door by door, and that of an ADD run, which leaves nothing to do. -/
theorem enrollStartsARun : Obligations.EnrollStartsARun := by
  intro s route tag branch b r hset hb hbr hrec hpoll hbusy
  have hcall : s.callFrame b = .call r.classMin r.classMax := State.callFrame_of_branchRec hrec
  refine ⟨fun hm => ?_, fun hm => ?_⟩
  · have hexec := exec_requestRow_of_managed (i := .enroll route tag branch 0) rfl hm
    dsimp only at hexec
    rw [State.begin_enroll hbr hpoll hbusy (by decide), if_pos rfl] at hexec
    have hbranch := State.freshEvent_settle_branch b route.src tag hb
    rw [hcall] at hbranch
    refine ⟨(s.freshEvent b route.src tag).settle, hexec, ?_, congrArg Branch.state hbranch,
      congrArg Branch.inFlight hbranch, congrArg Branch.sent hbranch, congrArg Branch.foreign hbranch,
      State.freshEvent_bound b route.src tag hb, fun p hp => ?_, fun d hd hnb => ?_⟩
    · rw [Ev.settle_outer, State.freshEvent_outer]
    · rw [State.freshEvent_settle_door b route.src tag hb (s.entry_of_not_busy hbusy p hp),
        if_pos (List.mem_map_of_mem hp)]
      obtain ⟨hlink, -, hreport, hslot, hconds⟩ := Door.unbind_keeps s.uptime s.doors[p.1]
      exact ⟨hlink, hreport, hslot, hconds⟩
    · rw [State.freshEvent_settle_door b route.src tag hb hd, if_neg]
      intro hmem
      obtain ⟨p, hp, hpd⟩ := List.mem_map.mp hmem
      exact hnb p hp hpd
  · have hexec := exec_requestRow_of_managed (i := .enroll route tag branch 1) rfl hm
    dsimp only at hexec
    rw [State.begin_enroll hbr hpoll hbusy (by decide), if_neg (by decide), Ev.beginAdd] at hexec
    rw [hexec, ← hcall]
    exact congrArg Host.Outcome.next (Ev.reply_settle (hset.modBranch b _ rfl rfl) rfl route.src tag 12 (.ok []))

end Sys2Proof.Machine
end


section
/-! SUPPORT. The end or abort of a run (R146, R147): the doors of its branch, the foreign units, the alarm requests. -/

namespace Sys2Proof.Machine

open Sys2Proof

/-! ### Serials and doors of a branch -/

/-- The serials of the fitted doors of a branch differ. -/
abbrev State.SerialsDiffer (s : State) (b : BranchId) : Prop :=
  (s.branchDoors b).Pairwise fun p q => p.2.serial ≠ q.2.serial

/-- The door found for a serial carries it. -/
theorem State.doorOfSerial_serial {s : State} {b : BranchId} {serial : Serial} {d : Slot} {v : DoorRec}
    (h : s.doorOfSerial b serial = some d) (hv : s.doorRec d = some v) : v.serial = serial := by
  simp only [State.doorOfSerial, Option.map_eq_some_iff] at h
  obtain ⟨⟨x, w⟩, hf, rfl⟩ := h
  obtain rfl : w = v := Option.some.inj (((s.mem_branchDoors b x w).mp (List.mem_of_find?_eq_some hf)).1.symm.trans hv)
  exact beq_iff_eq.mp (List.find?_some (p := fun p : Slot × DoorRec => p.2.serial == serial) hf)

/-- Where serials differ, a door is found by its serial. -/
theorem State.doorOfSerial_own {s : State} {b : BranchId} {d : Slot} {v : DoorRec} (h : s.SerialsDiffer b)
    (hv : (d, v) ∈ s.branchDoors b) : s.doorOfSerial b v.serial = some d := by
  have hsome : ((s.branchDoors b).find? fun p => p.2.serial == v.serial).isSome :=
    List.find?_isSome.mpr ⟨_, hv, beq_self_eq_true _⟩
  obtain ⟨p, hp⟩ := Option.isSome_iff_exists.mp hsome
  have hserial : p.2.serial = v.serial :=
    beq_iff_eq.mp (List.find?_some (p := fun p : Slot × DoorRec => p.2.serial == v.serial) hp)
  have hpd : p = (d, v) := by
    by_contra hne
    rcases pairwise_either h (List.mem_of_find?_eq_some hp) hv hne with k | k
    · exact k hserial
    · exact k hserial.symm
  rw [State.doorOfSerial, hp, hpd]
  rfl

theorem State.doorOfSerial_eq_none (s : State) (b : BranchId) (serial : Serial) :
    s.doorOfSerial b serial = none ↔ ((s.branchDoors b).all fun q => q.2.serial != serial) = true := by
  simp [State.doorOfSerial]

/-! ### The doors of the branch -/

/-- The record of a door with serial `serial` once the pairs of a run record are bound (R146). -/
def Door.boundBy (now : Time) (serial : Serial) (ps : List (Serial × Nat)) (x : Door) : Door :=
  match ps.find? fun p => p.1 == serial with
  | some p => x.bind now p.2
  | none => x

theorem Door.boundBy_of_new {ps : List (Serial × Nat)} {serial : Serial} (h : ∀ p ∈ ps, p.1 ≠ serial) (now : Time)
    (x : Door) : x.boundBy now serial ps = x := by
  rw [Door.boundBy, List.find?_eq_none.mpr fun p hp k => h p hp (beq_iff_eq.mp k)]

theorem Door.boundBy_of_mem {ps : List (Serial × Nat)} {serial : Serial} {a : Nat} (h : (serial, a) ∈ ps)
    (hd : ps.Pairwise fun p q => p.1 ≠ q.1) (now : Time) (x : Door) : x.boundBy now serial ps = x.bind now a := by
  rw [Door.boundBy, find_of_mem_pairs h hd]

section Doors

variable {e : Ev} {b : BranchId} {d : Slot} {v : DoorRec} (hser : e.SerialsDiffer b) (hd : (d, v) ∈ e.branchDoors b)
include hser hd

theorem Ev.bindPair_door (p : Serial × Nat) :
    (e.bindPair b p).doors[d] = if p.1 = v.serial then e.doors[d].bind e.uptime p.2 else e.doors[d] := by
  unfold Ev.bindPair
  by_cases hp : p.1 = v.serial
  · rw [hp, State.doorOfSerial_own hser hd, if_pos rfl]
    exact Ev.modDoor_same e d (Door.bind e.uptime p.2)
  · rw [if_neg hp]
    cases hx : e.doorOfSerial b p.1 with
    | none => rfl
    | some x =>
      refine Ev.modDoor_other e x d (Door.bind e.uptime p.2) ?_
      rintro rfl
      exact hp (State.doorOfSerial_serial hx ((e.mem_branchDoors b x v).mp hd).1).symm

theorem Ev.bindPairs_door (ps : List (Serial × Nat)) (hp : ps.Pairwise fun p q => p.1 ≠ q.1) :
    (ps.foldl (fun e p => e.bindPair b p) e).doors[d] = e.doors[d].boundBy e.uptime v.serial ps := by
  induction ps generalizing e with
  | nil => rfl
  | cons p ps ih =>
    obtain ⟨hp1, hps⟩ := List.pairwise_cons.mp hp
    have hm := e.bindPair_rebinds b p
    have hdoors := hm.sources.branchDoors b
    have hserial : (e.bindPair b p).SerialsDiffer b := by rwa [State.SerialsDiffer, hdoors]
    rw [List.foldl_cons, ih hserial (hdoors ▸ hd) hps, hm.uptime, Ev.bindPair_door hser hd]
    by_cases hpv : p.1 = v.serial
    · have hmem : (v.serial, p.2) ∈ p :: ps := hpv ▸ List.mem_cons_self
      rw [if_pos hpv, Door.boundBy_of_new fun q hq => hpv ▸ (hp1 q hq).symm, Door.boundBy_of_mem hmem hp]
    · rw [if_neg hpv, Door.boundBy, Door.boundBy, List.find?_cons_of_neg (by simpa using hpv)]

end Doors

/-! ### The doors left without a binding -/

/-- LINK-LOST of one door, where it has no binding. -/
def Ev.markLost (e : Ev) (d : Slot) : Ev := if e.doors[d].binding.isNone then e.enterLevel d .linkLost else e

theorem Ev.markUnbound_eq (e : Ev) (b : BranchId) :
    e.markUnbound b = (e.branchDoors b).foldl (fun e p => e.markLost p.1) e := rfl

/-- A door with other conditions; LINK-LOST is not removed. -/
def Door.Marked (x y : Door) : Prop :=
  ∃ c, y = { x with conds := c } ∧ (x.conds.linkLost = true → c.linkLost = true)

theorem Door.Marked.refl (x : Door) : x.Marked x := ⟨x.conds, rfl, id⟩

theorem Door.Marked.trans {x y z : Door} (h : x.Marked y) (k : y.Marked z) : x.Marked z := by
  obtain ⟨c, rfl, hc⟩ := h
  obtain ⟨c', rfl, hc'⟩ := k
  exact ⟨c', rfl, hc' ∘ hc⟩

/-- One door without a binding has LINK-LOST afterwards; the other doors stay. -/
theorem Ev.markLost_spec (e : Ev) (d : Slot) :
    (e.markLost d).branches = e.branches ∧ (∀ x : Slot, e.doors[x].Marked (e.markLost d).doors[x])
      ∧ (e.doors[d].binding = none → (e.markLost d).doors[d].conds.linkLost = true)
      ∧ ∃ rs, (e.markLost d).reqs = e.reqs ++ rs ∧ ∀ r ∈ rs, ∃ x, r = .raise (.door x) .linkLost := by
  unfold Ev.markLost
  by_cases hb : e.doors[d].binding = none
  · have ht := e.enterLevel_touches d .linkLost
    rw [if_pos (Option.isNone_iff_eq_none.mpr hb)]
    refine ⟨ht.branches, fun x => ?_, fun _ => by rw [Ev.enterLevel_door]; rfl, ?_⟩
    · by_cases hx : x = d
      · subst hx
        exact ⟨_, Ev.enterLevel_door e x .linkLost, fun _ => rfl⟩
      · rw [ht.other hx]
        exact .refl _
    · unfold Ev.enterLevel
      split
      · exact ⟨[], (List.append_nil _).symm, nofun⟩
      · exact ⟨[.raise (.door d) .linkLost], rfl, fun r hr => ⟨d, List.mem_singleton.mp hr⟩⟩
  · rw [if_neg fun k => hb (Option.isNone_iff_eq_none.mp k)]
    exact ⟨rfl, fun _ => .refl _, fun k => absurd k hb, [], (List.append_nil _).symm, nofun⟩

theorem Ev.markLosts_spec (l : List (Slot × DoorRec)) (e : Ev) :
    (l.foldl (fun e p => e.markLost p.1) e).branches = e.branches
      ∧ (∀ x : Slot, e.doors[x].Marked (l.foldl (fun e p => e.markLost p.1) e).doors[x])
      ∧ (∀ p ∈ l, e.doors[p.1].binding = none →
          (l.foldl (fun e p => e.markLost p.1) e).doors[p.1].conds.linkLost = true)
      ∧ ∃ rs, (l.foldl (fun e p => e.markLost p.1) e).reqs = e.reqs ++ rs
          ∧ ∀ r ∈ rs, ∃ x, r = .raise (.door x) .linkLost := by
  induction l generalizing e with
  | nil => exact ⟨rfl, fun _ => .refl _, nofun, [], (List.append_nil _).symm, nofun⟩
  | cons p l ih =>
    obtain ⟨hbr, hmark, hlost, rs, hrs, hP⟩ := e.markLost_spec p.1
    obtain ⟨kbr, kmark, klost, qs, kqs, kP⟩ := ih (e.markLost p.1)
    rw [List.foldl_cons]
    refine ⟨kbr.trans hbr, fun x => (hmark x).trans (kmark x), fun q hq hb => ?_, rs ++ qs, ?_, fun r hr => ?_⟩
    · rcases List.mem_cons.mp hq with rfl | hq
      · obtain ⟨c, hc, hkeep⟩ := kmark q.1
        rw [hc]
        exact hkeep (hlost hb)
      · obtain ⟨c, hc, -⟩ := hmark q.1
        exact klost q hq (by rw [hc]; exact hb)
    · rw [kqs, hrs, List.append_assoc]
    · exact (List.mem_append.mp hr).elim (hP r) (kP r)

/-! ### The foreign units -/

/-- The foreign units among the pairs of a run record, in order (R146). -/
def State.foreignPairs (s : State) (b : BranchId) (ps : List (Serial × Nat)) : List Foreign :=
  (ps.filter fun p => (s.branchDoors b).all fun q => q.2.serial != p.1).map fun p => ⟨p.1, some p.2⟩

theorem State.foreignPairs_cons (s : State) (b : BranchId) (p : Serial × Nat) (ps : List (Serial × Nat)) :
    s.foreignPairs b (p :: ps) =
      (if s.doorOfSerial b p.1 = none then [⟨p.1, some p.2⟩] else []) ++ s.foreignPairs b ps := by
  simp only [State.foreignPairs, List.filter_cons, State.doorOfSerial_eq_none]
  split <;> rfl

theorem State.foreignOf_eq (s : State) (b : BranchId) (r : Run) (n : Option Serial) :
    s.foreignOf b r n = s.foreignPairs b r.pairs ++ n.toList.map fun serial => ⟨serial, none⟩ := rfl

/-- Foreign units are taken into the list of a branch one after the other, and FOREIGN-UNIT is asked for each (R147). -/
structure Ev.TakesForeign (b : BranchId) (fs : List Foreign) (e e' : Ev) : Prop where
  foreign : e'.branches[b].foreign = fs.foldl foreignList e.branches[b].foreign
  reqs : e'.reqs = e.reqs ++ List.replicate fs.length (.raise (.branch b) .foreignUnit)

namespace Ev.TakesForeign

variable {b : BranchId} {fs gs : List Foreign} {e e₁ e₂ e₃ : Ev}

theorem refl (e : Ev) : e.TakesForeign b [] e := ⟨rfl, (List.append_nil _).symm⟩

theorem trans (h : e₁.TakesForeign b fs e₂) (k : e₂.TakesForeign b gs e₃) : e₁.TakesForeign b (fs ++ gs) e₃ where
  foreign := by rw [k.foreign, h.foreign, List.foldl_append]
  reqs := by rw [k.reqs, h.reqs, List.length_append, List.replicate_add, List.append_assoc]

end Ev.TakesForeign

theorem Ev.takeForeign_takes (e : Ev) (b : BranchId) (f : Foreign) : e.TakesForeign b [f] (e.takeForeign b f) where
  foreign := congrArg Branch.foreign (Ev.modBranch_same e b fun r => { r with foreign := foreignList r.foreign f })
  reqs := rfl

theorem Ev.bindPair_takes (e : Ev) (b : BranchId) (p : Serial × Nat) :
    e.TakesForeign b (if e.doorOfSerial b p.1 = none then [⟨p.1, some p.2⟩] else []) (e.bindPair b p) := by
  unfold Ev.bindPair
  cases e.doorOfSerial b p.1 with
  | none => exact e.takeForeign_takes b _
  | some d => exact ⟨rfl, (List.append_nil _).symm⟩

theorem Ev.bindPairs_takes (b : BranchId) (ps : List (Serial × Nat)) (e : Ev) :
    e.TakesForeign b (e.foreignPairs b ps) (ps.foldl (fun e p => e.bindPair b p) e) := by
  induction ps generalizing e with
  | nil => exact .refl e
  | cons p ps ih =>
    have hf : (e.bindPair b p).foreignPairs b ps = e.foreignPairs b ps := by
      rw [State.foreignPairs, (e.bindPair_rebinds b p).sources.branchDoors b, State.foreignPairs]
    have htail := ih (e.bindPair b p)
    rw [hf] at htail
    rw [State.foreignPairs_cons]
    exact (e.bindPair_takes b p).trans htail

/-! ### The whole run -/

/-- The state of an event in which the pairs of a run and the serial without an address are taken. -/
def Ev.takenRun (e : Ev) (b : BranchId) (r : Run) (noAddress : Option Serial) : Ev :=
  match noAddress with
  | some serial => (r.pairs.foldl (fun e p => e.bindPair b p) e).takeForeign b ⟨serial, none⟩
  | none => r.pairs.foldl (fun e p => e.bindPair b p) e

theorem Ev.boundRun_eq (e : Ev) (b : BranchId) (r : Run) (n : Option Serial) :
    e.boundRun b r n = (e.takenRun b r n).markUnbound b := by
  cases n <;> rfl

theorem Ev.takenRun_takes (e : Ev) (b : BranchId) (r : Run) (n : Option Serial) :
    e.TakesForeign b (e.foreignOf b r n) (e.takenRun b r n) := by
  rw [State.foreignOf_eq]
  cases n with
  | none => exact (e.bindPairs_takes b r.pairs).trans (.refl _)
  | some serial => exact (e.bindPairs_takes b r.pairs).trans (Ev.takeForeign_takes _ b _)

theorem Ev.takenRun_rebinds (e : Ev) (b : BranchId) (r : Run) (n : Option Serial) : e.Rebinds (e.takenRun b r n) := by
  have h := Ev.Rebinds.foldl (fun e p => e.bindPair b p) r.pairs (fun e p _ => e.bindPair_rebinds b p) e
  cases n with
  | none => exact h
  | some serial => exact h.trans (Ev.takeForeign_rebinds _ _ _)

theorem Ev.takenRun_doors (e : Ev) (b : BranchId) (r : Run) (n : Option Serial) :
    (e.takenRun b r n).doors = (r.pairs.foldl (fun e p => e.bindPair b p) e).doors := by
  cases n <;> rfl

section Close

variable {e : Ev} {b : BranchId} {r : Run} (hr : e.branches[b].run = some r) (n : Option Serial)
include hr

/-- The branch after the end of a run: POLLING, with the foreign units of the run in its list. -/
theorem Ev.closeRun_branch :
    (∃ br : Branch, (e.closeRun b n).branches[b] = br.toPolling)
      ∧ (e.closeRun b n).branches[b].foreign = (e.foreignOf b r n).foldl foreignList e.branches[b].foreign := by
  have hb : (e.closeRun b n).branches[b] = (e.takenRun b r n).branches[b].toPolling := by
    rw [Ev.closeRun_of_run hr, Ev.modBranch_same, Ev.boundRun_eq, Ev.markUnbound_eq,
      (Ev.markLosts_spec _ _).1]
  exact ⟨⟨_, hb⟩, by rw [hb]; exact (e.takenRun_takes b r n).foreign⟩

/-- The requests that the end of a run hands on: FOREIGN-UNIT for each foreign unit, then LINK-LOST of doors. -/
theorem Ev.closeRun_reqs :
    ∃ rs, (e.closeRun b n).reqs =
        e.reqs ++ List.replicate (e.foreignOf b r n).length (.raise (.branch b) .foreignUnit) ++ rs
      ∧ ∀ q ∈ rs, ∃ d, q = .raise (.door d) .linkLost := by
  obtain ⟨-, -, -, rs, hrs, hP⟩ := (e.takenRun b r n).markLosts_spec ((e.takenRun b r n).branchDoors b)
  refine ⟨rs, ?_, hP⟩
  rw [Ev.closeRun_of_run hr, Ev.boundRun_eq, ← (e.takenRun_takes b r n).reqs]
  exact hrs

/-- The end of a run changes neither the banks, nor the management record, nor the alarm list. -/
theorem Ev.closeRun_rest :
    (e.closeRun b n).banks = e.banks ∧ (e.closeRun b n).mgr = e.mgr ∧ (e.closeRun b n).alarms = e.alarms := by
  rw [Ev.closeRun_of_run hr]
  exact (e.boundRun_binds b r n).rest

/-- A door of the branch after the end of a run: bound anew where its serial is in the record, and marked where it has
no binding. -/
theorem Ev.closeRun_door (hpairs : r.pairs.Pairwise fun p q => p.1 ≠ q.1) (hser : e.SerialsDiffer b) {d : Slot}
    {v : DoorRec} (hd : (d, v) ∈ e.branchDoors b) :
    (e.doors[d].boundBy e.uptime v.serial r.pairs).Marked (e.closeRun b n).doors[d]
      ∧ ((e.closeRun b n).doors[d].binding = none → (e.closeRun b n).doors[d].conds.linkLost = true) := by
  have hdoors := (e.takenRun_rebinds b r n).sources.branchDoors b
  obtain ⟨-, hmark, hlost, -⟩ := (e.takenRun b r n).markLosts_spec ((e.takenRun b r n).branchDoors b)
  have hclose : (e.closeRun b n).doors[d] = ((e.takenRun b r n).markUnbound b).doors[d] := by
    rw [Ev.closeRun_of_run hr, Ev.boundRun_eq]
    rfl
  have htaken : (e.takenRun b r n).doors[d] = e.doors[d].boundBy e.uptime v.serial r.pairs := by
    rw [Ev.takenRun_doors, Ev.bindPairs_door hser hd r.pairs hpairs]
  rw [hclose, Ev.markUnbound_eq, ← htaken]
  refine ⟨hmark d, fun k => hlost (d, v) (hdoors ▸ hd) ?_⟩
  obtain ⟨c, hc, -⟩ := hmark d
  rw [hc] at k
  exact k

/-- What the end of a run leaves (R146, R147). -/
theorem Ev.closeRun_closed (hpairs : r.pairs.Pairwise fun p q => p.1 ≠ q.1) (hser : e.SerialsDiffer b) :
    State.RunClosed e.toState (e.closeRun b n).toState b r n := by
  obtain ⟨⟨br, hbr⟩, hforeign⟩ := Ev.closeRun_branch hr n
  have hdoor := fun (p : Slot × DoorRec) (hp : p ∈ e.branchDoors b) => Ev.closeRun_door hr n hpairs hser (d := p.1) hp
  refine ⟨by rw [hbr]; rfl, fun p hp a ha => ?_, fun p hp hnew => ?_, fun p hp => (hdoor p hp).2, hforeign⟩
  · obtain ⟨⟨c, hc, -⟩, -⟩ := hdoor p hp
    rw [hc, Door.boundBy_of_mem ha hpairs]
    exact ⟨rfl, (Door.leaveOnline_keeps _ _ _).1, rfl⟩
  · obtain ⟨⟨c, hc, -⟩, -⟩ := hdoor p hp
    rw [hc, Door.boundBy_of_new hnew]

end Close

end Sys2Proof.Machine
end


section
/-! SUPPORT. What keeps the outcome of a run: the doors of its branch keep binding, link, miss count and LINK-LOST, and the
branch its foreign list (R146, R147). -/

namespace Sys2Proof.Machine

open Sys2Proof

/-- Binding, link, miss count and LINK-LOST of a door are the same. -/
abbrev Door.LinkedAs (x y : Door) : Prop :=
  y.binding = x.binding ∧ y.link = x.link ∧ y.miss = x.miss ∧ y.conds.linkLost = x.conds.linkLost

theorem Door.LinkedAs.trans {x y z : Door} (h : x.LinkedAs y) (k : y.LinkedAs z) : x.LinkedAs z := by
  obtain ⟨h1, h2, h3, h4⟩ := h
  obtain ⟨k1, k2, k3, k4⟩ := k
  exact ⟨k1.trans h1, k2.trans h2, k3.trans h3, k4.trans h4⟩

/-- The fitted doors of a branch and their links, and the foreign list of the branch, are the same. -/
structure State.SameBranch (b : BranchId) (s t : State) : Prop where
  doors : t.branchDoors b = s.branchDoors b
  foreign : t.branches[b].foreign = s.branches[b].foreign
  door : ∀ p ∈ s.branchDoors b, s.doors[p.1].LinkedAs t.doors[p.1]

namespace State.SameBranch

variable {b : BranchId} {s t u : State} {r : Run} {n : Option Serial}

theorem refl (s : State) : s.SameBranch b s := ⟨rfl, rfl, fun _ _ => ⟨rfl, rfl, rfl, rfl⟩⟩

theorem trans (h : s.SameBranch b t) (k : t.SameBranch b u) : s.SameBranch b u :=
  ⟨k.doors.trans h.doors, k.foreign.trans h.foreign, fun p hp => (h.door p hp).trans (k.door p (h.doors ▸ hp))⟩

theorem foreignOf (h : s.SameBranch b t) : t.foreignOf b r n = s.foreignOf b r n := by
  rw [State.foreignOf, h.doors, State.foreignOf]

/-- A run that is closed later was closed from here. -/
theorem closed_of_later (h : s.SameBranch b t) (k : t.RunClosed u b r n) : s.RunClosed u b r n := by
  obtain ⟨hp, hown, hnew, hlost, hforeign⟩ := k
  rw [h.doors] at hown hnew hlost
  refine ⟨hp, hown, fun p hp hn => (hnew p hp hn).trans (h.door p hp).1, hlost, ?_⟩
  rw [hforeign, h.foreignOf, h.foreign]

/-- A closed run stays closed. -/
theorem closed_after (h : t.SameBranch b u) (k : s.RunClosed t b r n) (hd : t.branchDoors b = s.branchDoors b)
    (hp : u.branches[b].state = t.branches[b].state) : s.RunClosed u b r n := by
  obtain ⟨kp, kown, knew, klost, kforeign⟩ := k
  have hdoor := h.door
  rw [hd] at hdoor
  refine ⟨(Branch.isPolling_congr hp).trans kp, fun p hm a ha => ?_, fun p hm hn => ?_, fun p hm hb => ?_,
    h.foreign.trans kforeign⟩
  · obtain ⟨h1, h2, h3, -⟩ := hdoor p hm
    obtain ⟨k1, k2, k3⟩ := kown p hm a ha
    exact ⟨h1.trans k1, h2.trans k2, h3.trans k3⟩
  · exact (hdoor p hm).1.trans (knew p hm hn)
  · obtain ⟨h1, -, -, h4⟩ := hdoor p hm
    exact h4.trans (klost p hm (h1.symm.trans hb))

end State.SameBranch

/-- The end of an event without a swap keeps the outcome of a run. -/
theorem Ev.settle_sameBranch {e : Ev} (h : e.swapIfQuiescent = e) (b : BranchId) :
    State.SameBranch b e.toState e.settle := by
  refine ⟨(e.settle_sources h).branchDoors b, (Ev.settle_branch_keeps h b).2, fun p _ => ?_⟩
  obtain ⟨-, hlink, hmiss, hbind, hconds, -⟩ := (e.settle_admits h p.1).keeps
  exact ⟨hbind, hlink, hmiss, congrArg Conds.linkLost hconds⟩

end Sys2Proof.Machine
end

section
/-! SUPPORT. One alarm pair raised several times in one event (R107, R108). -/

namespace Sys2Proof.Machine

open Sys2Proof

variable {j : Subject} {k : AlarmKind}

theorem Alarms.ofPair_replace_same (a : Alarms) (y : AlarmEntry) :
    (a.replace y).ofPair y.subject y.kind =
      ((a.ofPair y.subject y.kind).1.map fun _ => y, (a.ofPair y.subject y.kind).2) := by
  have hy : y.isPair y.subject y.kind = true := (y.isPair_iff _ _).mpr ⟨rfl, rfl⟩
  simp only [Alarms.ofPair, Alarms.replace]
  congr 1
  induction a.entries with
  | nil => rfl
  | cons x l ih =>
    rw [List.map_cons, List.filter_cons, List.filter_cons, ih]
    cases hx : x.isPair y.subject y.kind <;> simp [hx, hy]

/-- A raise of a pair that is listed and active counts (R108). -/
theorem State.takeRaise_counts {s : State} {x : AlarmEntry} (h : s.alarms.ofPair j k = ([x], [])) (ha : x.active = true) :
    (s.takeRaise j k).alarms.ofPair j k = ([{ x with count := countUp x.count }], []) := by
  have he : s.alarms.entry j k = some x := by rw [Alarms.entry_eq, h]; rfl
  obtain ⟨-, rfl, rfl⟩ := Alarms.entry_some he
  have hr : (s.takeRaise x.subject x.kind).alarms = s.alarms.replace { x with count := countUp x.count } := by
    simp only [State.takeRaise, he, ha, if_true, State.noticeEntry_alarms, State.withAlarms_alarms]
  rw [hr]
  refine (Alarms.ofPair_replace_same s.alarms { x with count := countUp x.count }).trans ?_
  dsimp only
  rw [h]
  rfl

/-- Raises of a pair that is listed and active count up to 255 (R107). -/
theorem State.raises_count (n : Nat) {s : State} {x : AlarmEntry} (h : s.alarms.ofPair j k = ([x], []))
    (ha : x.active = true) (hc : x.count ≤ 255) :
    ((List.replicate n (AlarmReq.raise j k)).foldl State.takeReq s).alarms.ofPair j k =
      ([{ x with count := min 255 (x.count + n) }], []) := by
  induction n generalizing s x with
  | zero =>
    have hx : min 255 (x.count + 0) = x.count := Nat.min_eq_right hc
    rw [hx]
    exact h
  | succ n ih =>
    have hstep : (s.takeReq (.raise j k)).alarms.ofPair j k = ([{ x with count := countUp x.count }], []) :=
      State.takeRaise_counts h ha
    have hcount : min 255 (countUp x.count + n) = min 255 (x.count + (n + 1)) := by
      unfold countUp
      omega
    rw [List.replicate_succ, List.foldl_cons, ih hstep ha (Nat.min_le_left _ _), ← hcount]

/-- Raises of an absent pair that find room list it once, with their number, up to 255, as its raise count. -/
theorem State.raises_listed {n : Nat} (hn : n ≠ 0) {s : State} (h : s.alarms.Absent j k)
    (hr : s.alarms.entries.length < 64) :
    ((List.replicate n (AlarmReq.raise j k)).foldl State.takeReq s).alarms.ofPair j k =
      ([⟨j, k, s.uptime, true, none, min 255 n⟩], []) := by
  obtain ⟨m, rfl⟩ := Nat.exists_eq_succ_of_ne_zero hn
  have hone : (s.takeReq (.raise j k)).alarms.ofPair j k = ([⟨j, k, s.uptime, true, none, 1⟩], []) :=
    State.takeRaise_listed h (.inl hr)
  rw [List.replicate_succ, List.foldl_cons, State.raises_count m hone rfl (Nat.le_of_ble_eq_true rfl),
    Nat.succ_eq_one_add]

end Sys2Proof.Machine
end

section
/-! SUPPORT. A run that ends complete (R144 to R147): its outcome at the end of the event, the first poll, FOREIGN-UNIT. -/

namespace Sys2Proof.Machine

open Sys2Proof

/-- The run of a branch that is ENROLLING. -/
theorem Branch.run_of_state {br : Branch} {r : Run} (h : br.state = .enrolling r) : br.run = some r := by
  rw [Branch.run, h]

/-- An event that has ended the run `r` of branch `b`, with `frames` on its data line. -/
structure State.RunEnds (s : State) (b : BranchId) (r : Run) (noAddress : Option Serial) (frames : List BranchFrame)
    (e : Ev) : Prop where
  outer : e.outer = s.outer
  events : e.mgr.events = s.mgr.events ||| 0x0040#16
  banks : e.banks = s.banks
  alarms : e.alarms = s.alarms
  branchDoors : e.branchDoors b = s.branchDoors b
  closed : s.RunClosed e.toState b r noAddress
  branch : ∃ br : Branch, e.branches[b] = { br.toPolling with sent := frames }
  reqs : ∃ rs, e.reqs = List.replicate (s.foreignOf b r noAddress).length (.raise (.branch b) .foreignUnit) ++ rs
    ∧ ∀ q ∈ rs, ∃ d, q = .raise (.door d) .linkLost

namespace State.RunEnds

variable {s : State} {b : BranchId} {r : Run} {n : Option Serial} {frames : List BranchFrame} {e : Ev}

section Settle

variable (h : s.RunEnds b r n frames e) (hb : s.bankPending = false)
include h hb

theorem noSwap : e.swapIfQuiescent = e := by
  refine e.swapIfQuiescent_of_not_pending ?_
  rw [State.bankPending, h.banks]
  exact hb

theorem settle_closed : s.RunClosed e.settle b r n :=
  (Ev.settle_sameBranch (h.noSwap hb) b).closed_after h.closed h.branchDoors (Ev.settle_branch_keeps (h.noSwap hb) b).1

theorem settle_events : e.settle.mgr.events = s.mgr.events ||| 0x0040#16 := by
  rw [Ev.settle_mgr (h.noSwap hb), h.events]

/-- The poll that is due once the run has ended: a regular one to the lowest bound address (R137, R146). -/
theorem settle_poll (hne : e.settle.bound b ≠ []) :
    ∃ p, e.settle.branches[b].inFlight = some p ∧ p.turn = .regular ∧ e.settle.branches[b].rotation = p.address
      ∧ (∃ x ∈ e.settle.bound b, x.2 = p.address) ∧ ∀ x ∈ e.settle.bound b, 1 ≤ x.2 → p.address ≤ x.2 := by
  obtain ⟨br, hbr⟩ := h.branch
  have hu : e.arbitrated.branches[b] = { br.toPolling with sent := frames } := by
    rw [e.arbitrated_rest]
    exact hbr
  have hbound : e.settle.bound b = e.arbitrated.bound b := by
    rw [e.settle_eq (h.noSwap hb), State.sendPolls_bound]
  rw [hbound] at hne ⊢
  obtain ⟨a, turn, hn, hm, hcase⟩ := e.arbitrated.nextPoll_spec b hne
  rw [hu] at hcase
  obtain ⟨rfl, hlow⟩ : turn = .regular ∧ ∀ x ∈ e.arbitrated.bound b, 1 ≤ x.2 → a ≤ x.2 := by
    rcases hcase with ⟨hdue, -⟩ | ⟨-, ht, ⟨-, hlow⟩ | ⟨-, hlow⟩⟩
    · cases hdue
    · exact ⟨ht, hlow⟩
    · exact ⟨ht, fun x hx _ => hlow x hx⟩
  have hsent : e.settle.branches[b] =
      ({ br.toPolling with sent := frames } : Branch).poll e.arbitrated.uptime a (e.arbitrated.slotOf b a) .regular := by
    rw [Ev.settle_branch (h.noSwap hb), State.polled, hn, hu]
    rfl
  rw [hsent]
  obtain ⟨x, hx, rfl⟩ := List.mem_map.mp hm
  exact ⟨_, rfl, rfl, rfl, ⟨x, hx, rfl⟩, hlow⟩

/-- The frames of the event come before the poll. -/
theorem settle_sent (hf : frames ≠ []) : e.settle.branches[b].sent.head? = frames.head? := by
  obtain ⟨br, hbr⟩ := h.branch
  have hu : e.arbitrated.branches[b] = { br.toPolling with sent := frames } := by
    rw [e.arbitrated_rest]
    exact hbr
  rw [Ev.settle_branch (h.noSwap hb), State.polled, hu]
  obtain ⟨f, fs, rfl⟩ := List.exists_cons_of_ne_nil hf
  cases e.arbitrated.nextPoll b <;> rfl

/-- FOREIGN-UNIT is listed for the foreign units of the run, with their number as raise count (R107, R147). -/
theorem settle_listed (hf : s.foreignOf b r n ≠ []) (he : s.alarms.entry (.branch b) .foreignUnit = none)
    (hm : s.alarms.mark (.branch b) .foreignUnit = none) (hr : s.alarms.entries.length < 64) :
    e.settle.alarms.entry (.branch b) .foreignUnit =
      some ⟨.branch b, .foreignUnit, s.uptime, true, none, min 255 (s.foreignOf b r n).length⟩ := by
  obtain ⟨rs, hreqs, hlost⟩ := h.reqs
  obtain ⟨hal, hup⟩ := Ev.arbiters_alarms e
  have hal' : e.arbiters.alarms = s.alarms := hal.trans h.alarms
  have hup' : e.arbiters.uptime = s.uptime := hup.trans (congrArg Outer.uptime h.outer)
  have hraise : ∀ q ∈ e.reqs, ∃ j k, q = .raise j k := by
    rw [hreqs]
    intro q hq
    rcases List.mem_append.mp hq with hq | hq
    · exact ⟨_, _, (List.mem_replicate.mp hq).2⟩
    · obtain ⟨d, hd⟩ := hlost q hq
      exact ⟨_, _, hd⟩
  have habsent : e.arbiters.alarms.Absent (.branch b) .foreignUnit := by
    rw [hal']
    exact .of_none he hm
  have hlisted := State.raises_listed (mt List.length_eq_zero_iff.mp hf) habsent (by rw [hal']; exact hr)
  rw [hup'] at hlisted
  rw [Ev.settle_alarms (h.noSwap hb), State.takeReqs_raises _ hraise, hreqs, List.foldl_append, Alarms.entry_eq,
    State.raises_ofPair (fun q hq => ?_) fun x hx => ?_, hlisted]
  · rfl
  · obtain ⟨d, hd⟩ := hlost q hq
    exact ⟨_, _, hd, by decide⟩
  · rw [hlisted] at hx
    rw [List.mem_singleton.mp hx]

end Settle

/-- The end of a run is such an event; its count of rounds without progress is of no account. -/
theorem of_endRun {e₀ : Ev} {k : Nat} (hrun : e₀.branches[b].run = some { r with noProgress := k })
    (hsame : s.SameBranch b e₀.toState) (ho : e₀.outer = s.outer)
    (hrest : e₀.banks = s.banks ∧ e₀.mgr = s.mgr ∧ e₀.alarms = s.alarms ∧ e₀.reqs = [])
    (hpairs : r.pairs.Pairwise fun p q => p.1 ≠ q.1) (hser : s.SerialsDiffer b) (n : Option Serial) :
    s.RunEnds b r n [] (e₀.endRun b n) := by
  obtain ⟨hb, hm, ha, hq⟩ := hrest
  obtain ⟨hbanks, hmgr, halarms⟩ := Ev.closeRun_rest hrun n
  obtain ⟨rs, hreqs, hlost⟩ := Ev.closeRun_reqs hrun n
  obtain ⟨⟨br, hbr⟩, -⟩ := Ev.closeRun_branch hrun n
  have hser' : e₀.SerialsDiffer b := by rwa [State.SerialsDiffer, hsame.doors]
  exact
    { outer := (e₀.endRun_outer b n).trans ho
      events := congrArg (fun m : Mgr => m.events ||| 0x0040#16) (hmgr.trans hm)
      banks := hbanks.trans hb
      alarms := halarms.trans ha
      branchDoors := ((e₀.endRun_rebinds b n).sources.branchDoors b).trans hsame.doors
      closed := hsame.closed_of_later (Ev.closeRun_closed hrun n hpairs hser')
      branch := ⟨br, hbr⟩
      reqs := ⟨rs, by rw [← hsame.foreignOf]; rw [hq] at hreqs; exact hreqs, hlost⟩ }

/-- Other frames on the data line. -/
theorem send (h : s.RunEnds b r n frames e) (fs : List BranchFrame) :
    s.RunEnds b r n fs (e.modBranch b fun br => br.send fs) := by
  have hbr := Ev.modBranch_same e b fun br => br.send fs
  obtain ⟨br, hb⟩ := h.branch
  have hsame : State.SameBranch b e.toState (e.modBranch b fun br => br.send fs).toState :=
    ⟨rfl, by rw [hbr]; rfl, fun _ _ => ⟨rfl, rfl, rfl, rfl⟩⟩
  exact
    { outer := (e.modBranch_outer b (fun br => br.send fs) fun _ => ⟨rfl, rfl⟩).trans h.outer
      events := h.events
      banks := h.banks
      alarms := h.alarms
      branchDoors := h.branchDoors
      closed := hsame.closed_after h.closed h.branchDoors (by rw [hbr]; rfl)
      branch := ⟨br, by rw [hbr, hb]; rfl⟩
      reqs := h.reqs }

end State.RunEnds

/-! ### The four ways a run ends -/

/-- The third round without progress is recorded, and the run ends (R145). -/
theorem Ev.noProgress_of_third {r : Run} (h : 2 ≤ r.noProgress) (e : Ev) (b : BranchId) (again : Ev → Run → Ev) :
    e.noProgress b r again =
      (e.modBranch b fun br => { br with state := .enrolling { r with noProgress := r.noProgress + 1 } }).endRun b none :=
  if_neg (Nat.not_lt.mpr (Nat.succ_le_succ h))

section Ends

variable {s : State} {b : BranchId} {r : Run} (hr : s.branches[b].state = .enrolling r)
  (hpairs : r.pairs.Pairwise fun p q => p.1 ≠ q.1) (hser : s.SerialsDiffer b)
include hpairs hser

theorem State.runEnds_thirdRound (hn : 2 ≤ r.noProgress) (again : Ev → Run → Ev) :
    s.RunEnds b r none [] (s.begin.noProgress b r again) := by
  rw [Ev.noProgress_of_third hn]
  generalize hf : (fun br : Branch => { br with state := .enrolling { r with noProgress := r.noProgress + 1 } }) = f
  have hbr := Ev.modBranch_same s.begin b f
  have hsame : s.SameBranch b (s.begin.modBranch b f).toState :=
    ⟨rfl, by rw [hbr, ← hf]; rfl, fun _ _ => ⟨rfl, rfl, rfl, rfl⟩⟩
  refine State.RunEnds.of_endRun (k := r.noProgress + 1) ?_ hsame ?_ ⟨rfl, rfl, rfl, rfl⟩ hpairs hser none
  · rw [hbr, ← hf]
    rfl
  · exact s.begin.modBranch_outer b f fun _ => hf ▸ ⟨rfl, rfl⟩

include hr

theorem State.runEnds_here (n : Option Serial) : s.RunEnds b r n [] (s.begin.endRun b n) := by
  have hrun : s.begin.branches[b].run = some r := Branch.run_of_state hr
  exact State.RunEnds.of_endRun (k := r.noProgress) hrun (.refl s) rfl ⟨rfl, rfl, rfl, rfl⟩ hpairs hser n

end Ends

/-- The four ends of a run, as the statement lists them; each is one event, with the ASSIGN of a recorded serial on the
data line. -/
theorem exec_runEnds {s : State} {b : BranchId} {r : Run} {i : Instr} {n : Option Serial} (hpow : s.powered = true)
    (hr : s.branches[b].state = .enrolling r) (hpairs : r.pairs.Pairwise fun p q => p.1 ≠ q.1) (hser : s.SerialsDiffer b)
    (hs : r.step = .calling)
    (hi : (i = .callNoAnswer b ∧ n = none)
      ∨ (i = .callAnswerFault b ∧ 2 ≤ r.noProgress ∧ n = none)
      ∨ (∃ serial a, i = .callAnswer b serial ∧ (serial, a) ∈ r.pairs ∧ 2 ≤ r.noProgress ∧ n = none)
      ∨ (∃ serial, i = .callAnswer b serial ∧ (∀ p ∈ r.pairs, p.1 ≠ serial)
          ∧ (∀ a, 1 ≤ a → a ≤ 16 → s.AddressTaken b r a) ∧ n = some serial)) :
    ∃ frames e, exec i s = .next e.settle ∧ s.RunEnds b r n frames e
      ∧ ∀ serial a, i = .callAnswer b serial → (serial, a) ∈ r.pairs → frames = [.assign serial a] := by
  rcases hi with ⟨rfl, rfl⟩ | ⟨rfl, hn, rfl⟩ | ⟨serial, a, rfl, hmem, hn, rfl⟩ | ⟨serial, rfl, hnew, htaken, rfl⟩
  · exact ⟨_, _, exec_callNoAnswer hpow hr hs, State.runEnds_here hr hpairs hser none, nofun⟩
  · exact ⟨_, _, exec_callAnswerFault hpow hr hs, State.runEnds_thirdRound hpairs hser hn _, nofun⟩
  · have htake : s.begin.takeAnswer b r serial =
        (s.begin.noProgress b r fun e r' => e.sendAssign b r' serial a).modBranch b fun br => br.send [.assign serial a] := by
      rw [Ev.takeAnswer, find_of_mem_pairs hmem hpairs]
    refine ⟨[.assign serial a], _, (exec_callAnswer hpow hr hs serial).trans (congrArg _ (congrArg Ev.settle htake)),
      (State.runEnds_thirdRound hpairs hser hn _).send _, fun serial' a' hi' ha' => ?_⟩
    obtain rfl : serial = serial' := (Instr.callAnswer.inj hi').2
    have hsame := (find_of_mem_pairs hmem hpairs).symm.trans (find_of_mem_pairs ha' hpairs)
    rw [(Prod.mk.inj (Option.some.inj hsame)).2]
  · have hnone : s.begin.freeAddress b r = none := State.freeAddress_none (s := s) htaken
    have htake : s.begin.takeAnswer b r serial = s.begin.endRun b (some serial) := by
      rw [Ev.takeAnswer, Run.find_of_new hnew]
      dsimp only
      rw [hnone]
    refine ⟨[], _, (exec_callAnswer hpow hr hs serial).trans (congrArg _ (congrArg Ev.settle htake)),
      State.runEnds_here hr hpairs hser (some serial), fun serial' a' hi' ha' => ?_⟩
    obtain rfl : serial = serial' := (Instr.callAnswer.inj hi').2
    exact absurd rfl (hnew _ ha')

end Sys2Proof.Machine
end


section
/-! SUPPORT. The abort of an ADD run by an order or a queue request (R148): along the operations of an event the run of a
branch stands, or has been aborted and bound. -/

namespace Sys2Proof.Machine

open Sys2Proof

/-! ### Operations that keep the links of the doors -/

/-- An open withdrawn by an order keeps the link of the door (R38). -/
theorem Door.withdrawn_linked (r : Door) : r.LinkedAs r.withdrawn := by
  have hstop : r.LinkedAs r.stopped := by
    unfold Door.stopped
    split <;> exact ⟨rfl, rfl, rfl, rfl⟩
  have hdrop : r.LinkedAs r.openDropped := by
    unfold Door.openDropped
    split
    · split
      · exact ⟨rfl, rfl, rfl, rfl⟩
      · exact hstop
      · exact ⟨rfl, rfl, rfl, rfl⟩
      · exact ⟨rfl, rfl, rfl, rfl⟩
    · exact ⟨rfl, rfl, rfl, rfl⟩
  rw [Door.withdrawn_eq]
  split
  · exact hdrop
  · exact hdrop

/-- An order release keeps the link of the door (R40). -/
theorem Door.released_linked (r : Door) : r.LinkedAs r.released := by
  have hdrop : r.LinkedAs r.workDropped := by
    unfold Door.workDropped
    repeat' split
    all_goals exact ⟨rfl, rfl, rfl, rfl⟩
  rw [Door.released_eq]
  exact hdrop

/-- An operation on the doors of a branch that keeps their links, the branch and the event flags. -/
structure Ev.KeepsRun (b : BranchId) (e e' : Ev) : Prop where
  same : State.SameBranch b e.toState e'.toState
  state : e'.branches[b].state = e.branches[b].state
  events : e'.mgr.events = e.mgr.events

theorem Ev.KeepsRun.refl (b : BranchId) (e : Ev) : e.KeepsRun b e := ⟨.refl _, rfl, rfl⟩

theorem Ev.KeepsRun.trans {b : BranchId} {e₁ e₂ e₃ : Ev} (h : e₁.KeepsRun b e₂) (k : e₂.KeepsRun b e₃) : e₁.KeepsRun b e₃ :=
  ⟨h.same.trans k.same, k.state.trans h.state, k.events.trans h.events⟩

/-- An operation on one door that keeps its link. -/
theorem Ev.Touches.keepsRun {d : Slot} {e e' : Ev} (h : Ev.Touches d e e') (hd : e.doors[d].LinkedAs e'.doors[d])
    (b : BranchId) : e.KeepsRun b e' where
  same := by
    refine ⟨h.sources.branchDoors b, by rw [h.branches], fun p _ => ?_⟩
    by_cases hp : p.1 = d
    · subst hp
      exact hd
    · rw [h.other hp]
      exact ⟨rfl, rfl, rfl, rfl⟩
  state := by rw [h.branches]
  events := by rw [h.rest]

section Ops

variable (e : Ev) (d : Slot) (b : BranchId)

theorem Ev.withdrawOpen_keepsRun : e.KeepsRun b (e.withdrawOpen d) :=
  (e.withdrawOpen_touches d).keepsRun (by rw [Ev.withdrawOpen_door]; exact Door.withdrawn_linked _) b

theorem Ev.orderRelease_keepsRun : e.KeepsRun b (e.orderRelease d) :=
  (e.orderRelease_touches d).keepsRun (by rw [Ev.orderRelease_door]; exact Door.released_linked _) b

theorem Ev.toPhase_keepsRun (p : Phase) : e.KeepsRun b (e.toPhase d p) :=
  (e.toPhase_touches d p).keepsRun (by rw [Ev.toPhase_door]; exact ⟨rfl, rfl, rfl, rfl⟩) b

theorem Ev.localOpen_keepsRun : e.KeepsRun b (e.enterLevel d .localOpen) :=
  (e.enterLevel_touches d .localOpen).keepsRun (by rw [Ev.enterLevel_door]; exact ⟨rfl, rfl, rfl, rfl⟩) b

/-- A queue request is the abort of a run, and then keeps the links. -/
theorem Ev.request_keepsRun (dir : Dir) (o : Origin) (basis : Basis) :
    (e.abortFor d).KeepsRun b (e.request d dir o basis) := by
  rcases e.request_cases d dir o basis with ⟨h, -⟩ | ⟨-, -, ht, hd⟩
  · rw [h]
    exact .refl b _
  · exact ht.keepsRun (by rw [hd]; exact ⟨rfl, rfl, rfl, rfl⟩) b

/-- The end of the run of another branch. -/
theorem Ev.closeRun_keepsRun {x : BranchId} (hx : x ≠ b) : e.KeepsRun b (e.closeRun x none) := by
  cases hr : e.branches[x].run with
  | none =>
    rw [Ev.closeRun_of_noRun hr]
    exact .refl b e
  | some r =>
    have hbind := e.boundRun_binds x r none
    obtain ⟨hstate, -, hforeign⟩ := hbind.branch b
    have hbr : (e.closeRun x none).branches[b] = (e.boundRun x r none).branches[b] := by
      rw [Ev.closeRun_of_run hr]
      exact Ev.modBranch_other _ x b _ hx
    refine ⟨⟨(e.closeRun_rebinds x none).sources.branchDoors b, ?_, fun p hp => ?_⟩, ?_, ?_⟩
    · rw [hbr, hforeign (Ne.symm hx)]
    · obtain ⟨hv, hvb⟩ := (e.mem_branchDoors b p.1 p.2).mp hp
      rw [Ev.closeRun_off fun w hw k => hx ?_]
      · exact ⟨rfl, rfl, rfl, rfl⟩
      · obtain rfl : p.2 = w := Option.some.inj (hv.symm.trans hw)
        exact k.symm.trans hvb
    · rw [hbr, hstate]
    · rw [(Ev.closeRun_rest hr none).2.1]

end Ops

/-! ### The run stands, or is aborted -/

/-- A queue request for a door that is bound on the branch of a run aborts the run (R148). -/
theorem Ev.abortFor_of_run {e : Ev} {b : BranchId} {r : Run} {d : Slot} {v : DoorRec} (hv : (d, v) ∈ e.branchDoors b)
    (hd : e.doors[d].binding ≠ none) (hrun : e.branches[b].run = some r) : e.abortFor d = e.abortRun b := by
  obtain ⟨hrec, rfl⟩ := (e.mem_branchDoors b d v).mp hv
  unfold Ev.abortFor
  rw [hrec]
  dsimp only
  rw [Option.isSome_iff_ne_none.mpr hd, hrun]
  rfl

/-- The event flag of an abort (R148). -/
def abortedFlag : BitVec 16 := 0x0080

/-- The abort flag set twice is set. -/
theorem or_abortedFlag (x : BitVec 16) : x ||| abortedFlag ||| abortedFlag = x ||| abortedFlag := by
  rw [BitVec.or_assoc, BitVec.or_self]

/-- The run `r` of the branch is in progress as in the state before; other runs may have been aborted. -/
structure State.RunStands (s : State) (b : BranchId) (r : Run) (e : Ev) : Prop where
  same : s.SameBranch b e.toState
  state : e.branches[b].state = .enrolling r
  events : e.mgr.events ||| abortedFlag = s.mgr.events ||| abortedFlag

/-- The run `r` of the branch has been aborted, and is bound (R148). -/
structure State.RunAborted (s : State) (b : BranchId) (r : Run) (e : Ev) : Prop where
  branchDoors : e.branchDoors b = s.branchDoors b
  closed : s.RunClosed e.toState b r none
  events : e.mgr.events = s.mgr.events ||| abortedFlag

section Abort

variable {s : State} {b : BranchId} {r : Run} {e e' : Ev}

theorem State.RunStands.keeps (h : s.RunStands b r e) (k : e.KeepsRun b e') : s.RunStands b r e' :=
  ⟨h.same.trans k.same, k.state.trans h.state, by rw [k.events, h.events]⟩

theorem State.RunAborted.keeps (h : s.RunAborted b r e) (k : e.KeepsRun b e') : s.RunAborted b r e' :=
  ⟨k.same.doors.trans h.branchDoors, k.same.closed_after h.closed h.branchDoors k.state, by rw [k.events, h.events]⟩

/-- An operation on doors of any branch: a run stands or is aborted by it, and an aborted one stays so. -/
structure State.RunGoesOn (s : State) (b : BranchId) (r : Run) (e e' : Ev) : Prop where
  stands : s.RunStands b r e → s.RunStands b r e' ∨ s.RunAborted b r e'
  aborted : s.RunAborted b r e → s.RunAborted b r e'

namespace State.RunGoesOn

theorem refl (e : Ev) : s.RunGoesOn b r e e := ⟨.inl, id⟩

theorem trans {e₁ e₂ e₃ : Ev} (h : s.RunGoesOn b r e₁ e₂) (k : s.RunGoesOn b r e₂ e₃) : s.RunGoesOn b r e₁ e₃ :=
  ⟨fun hs => (h.stands hs).elim k.stands fun ha => .inr (k.aborted ha), k.aborted ∘ h.aborted⟩

theorem of_keeps (k : e.KeepsRun b e') : s.RunGoesOn b r e e' := ⟨fun h => .inl (h.keeps k), fun h => h.keeps k⟩

end State.RunGoesOn

/-- The abort of the run of another branch. -/
theorem Ev.abortRun_goesOn (e : Ev) {x : BranchId} (hx : x ≠ b) : s.RunGoesOn b r e (e.abortRun x) := by
  have k := e.closeRun_keepsRun b hx
  have hevents : (e.abortRun x).mgr.events = e.mgr.events ||| abortedFlag :=
    congrArg (fun v : BitVec 16 => v ||| abortedFlag) k.events
  have hsame : State.SameBranch b e.toState (e.abortRun x).toState := ⟨k.same.doors, k.same.foreign, k.same.door⟩
  have hstate : (e.abortRun x).branches[b].state = e.branches[b].state := k.state
  refine ⟨fun h => .inl ⟨h.same.trans hsame, hstate.trans h.state, ?_⟩, fun h => ⟨hsame.doors.trans h.branchDoors,
    hsame.closed_after h.closed h.branchDoors hstate, ?_⟩⟩
  · rw [hevents, or_abortedFlag, h.events]
  · rw [hevents, h.events, or_abortedFlag]

variable (hpairs : r.pairs.Pairwise fun p q => p.1 ≠ q.1) (hser : s.SerialsDiffer b)
include hpairs hser

/-- The abort of the run itself binds it (R148). -/
theorem State.RunStands.abortRun (h : s.RunStands b r e) : s.RunAborted b r (e.abortRun b) := by
  have hrun : e.branches[b].run = some r := Branch.run_of_state h.state
  have hser' : e.SerialsDiffer b := by rwa [State.SerialsDiffer, h.same.doors]
  refine ⟨((e.abortRun_rebinds b).sources.branchDoors b).trans h.same.doors,
    h.same.closed_of_later (Ev.closeRun_closed hrun none hpairs hser'), ?_⟩
  have hmgr : (e.abortRun b).mgr.events = e.mgr.events ||| abortedFlag :=
    congrArg (fun m : Mgr => m.events ||| abortedFlag) (Ev.closeRun_rest hrun none).2.1
  rw [hmgr, h.events]

theorem Ev.abortFor_goesOn (e : Ev) (d : Slot) : s.RunGoesOn b r e (e.abortFor d) := by
  unfold Ev.abortFor
  split
  · next v _ =>
    split
    · next hc =>
      by_cases hx : v.branch = b
      · subst hx
        refine ⟨fun h => .inr (h.abortRun hpairs hser), fun h => ?_⟩
        have hrun : (e.branches[v.branch].run).isSome = true := (Bool.and_eq_true _ _ ▸ hc).2
        rw [Branch.run_of_isPolling h.closed.1] at hrun
        cases hrun
      · exact e.abortRun_goesOn hx
    · exact .refl e
  · exact .refl e

/-- A queue request or order set for a door bound on the branch aborts the run that stands (R148). -/
theorem State.RunStands.abortFor (h : s.RunStands b r e) {d : Slot} {v : DoorRec} (hv : (d, v) ∈ s.branchDoors b)
    (hd : s.doors[d].binding ≠ none) : s.RunAborted b r (e.abortFor d) := by
  obtain ⟨hbind, -⟩ := h.same.door (d, v) hv
  rw [Ev.abortFor_of_run (h.same.doors ▸ hv) (fun k => hd (hbind.symm.trans k)) (Branch.run_of_state h.state)]
  exact h.abortRun hpairs hser

theorem Ev.needClose_goesOn (e : Ev) (d : Slot) (o : Origin) : s.RunGoesOn b r e (e.needClose d o) := by
  unfold Ev.needClose
  dsimp only
  split
  · split
    · exact .of_keeps (e.toPhase_keepsRun d b _)
    · exact (e.abortFor_goesOn hpairs hser d).trans (.of_keeps (e.request_keepsRun d b _ _ _))
  · exact .refl e

theorem Ev.orderOutcome_goesOn (e : Ev) (d : Slot) : s.RunGoesOn b r e (e.orderOutcome d) := by
  unfold Ev.orderOutcome
  dsimp only
  have hneed := e.needClose_goesOn hpairs hser d .order
  split
  · split
    · exact hneed.trans (.of_keeps (Ev.localOpen_keepsRun _ d b))
    · exact hneed
  · exact .refl e

/-- What an order set does after the abort. -/
theorem Ev.orderSet_goesOn (e : Ev) (d : Slot) : s.RunGoesOn b r (e.abortFor d) (e.orderSet d) :=
  (State.RunGoesOn.of_keeps (Ev.withdrawOpen_keepsRun _ d b)).trans (Ev.orderOutcome_goesOn hpairs hser _ d)

theorem Ev.handOrder_goesOn (e : Ev) (before : State) (d : Slot) : s.RunGoesOn b r e (e.handOrder before d) := by
  unfold Ev.handOrder
  split
  · exact (e.abortFor_goesOn hpairs hser d).trans (e.orderSet_goesOn hpairs hser d)
  · exact .of_keeps (e.orderRelease_keepsRun d b)
  · exact .refl e

/-- Where an order begins for a bound door of the branch, the orders that are handed on abort the run (R148). -/
theorem Ev.handOrders_abort {before : State} {d : Slot} {v : DoorRec} (hv : (d, v) ∈ s.branchDoors b)
    (hd : s.doors[d].binding ≠ none) (hfree : before.orderHeld d = false) (l : List (Slot × DoorRec)) (hl : (d, v) ∈ l)
    (e : Ev) (hfit : ∀ p ∈ l, e.fitted p.1 = true) (hheld : e.orderHeld d = true)
    (hrun : s.RunStands b r e ∨ s.RunAborted b r e) :
    s.RunAborted b r (l.foldl (fun e p => e.handOrder before p.1) e) := by
  have after : ∀ (l : List (Slot × DoorRec)) (e : Ev),
      s.RunAborted b r e → s.RunAborted b r (l.foldl (fun e p => e.handOrder before p.1) e) := fun l => by
    induction l with
    | nil => exact fun _ h => h
    | cons p l ih => exact fun e h => ih _ ((e.handOrder_goesOn hpairs hser before p.1).aborted h)
  induction l generalizing e with
  | nil => cases hl
  | cons p l ih =>
    rw [List.foldl_cons]
    have hstep := e.handOrder_goesOn hpairs hser before p.1
    by_cases hp : p.1 = d
    · refine after l _ ?_
      have hset : e.handOrder before p.1 = e.orderSet d := by
        rw [hp, Ev.handOrder, hfree, hheld]
      rcases hrun with h | h
      · rw [hset]
        exact (e.orderSet_goesOn hpairs hser d).aborted (h.abortFor hpairs hser hv hd)
      · exact hstep.aborted h
    · have hm := Ev.handOrder_moves before e p.1 (hfit p List.mem_cons_self)
      refine ih ((List.mem_cons.mp hl).resolve_left fun k => hp (congrArg Prod.fst k).symm) _ (fun q hq => ?_) ?_ ?_
      · exact (hm.sources.fitted q.1).trans (hfit q (List.mem_cons_of_mem _ hq))
      · exact (hm.sources.orderHeld d).trans hheld
      · exact hrun.elim hstep.stands fun h => .inr (hstep.aborted h)

end Abort

/-- The transmit queue is of no account. -/
theorem State.RunAborted.trunk {s : State} {b : BranchId} {r : Run} {e : Ev} (h : s.RunAborted b r e) (tr : Trunk) :
    s.RunAborted b r { e with trunk := tr } := ⟨h.branchDoors, h.closed, h.events⟩

/-- The end of the event keeps the outcome of the abort. -/
theorem State.RunAborted.settle {s : State} {b : BranchId} {r : Run} {e : Ev} (h : s.RunAborted b r e)
    (hq : e.swapIfQuiescent = e) : e.settle.mgr.events = s.mgr.events ||| abortedFlag ∧ s.RunClosed e.settle b r none :=
  ⟨by rw [Ev.settle_mgr hq, h.events],
    (Ev.settle_sameBranch hq b).closed_after h.closed h.branchDoors (Ev.settle_branch_keeps hq b).1⟩

end Sys2Proof.Machine
end

section
/-! SUPPORT. The commands that abort an ADD run (R148): CLOSE-ZONE, CLOSE-ALL and LINE_SAMPLE by the orders that begin,
DOOR-CLOSE and DOOR-OPEN by their queue request. -/

namespace Sys2Proof.Machine

open Sys2Proof

/-! ### Changes of modes and senses -/

/-- The event in which modes and senses change, and the orders follow; the transmit queue is left open. -/
def State.Reorders (s : State) (t : State) : Prop :=
  ∃ (e f : Ev) (tr : Trunk), s.begin.SetsSources e ∧ f = { e.sourcesChanged s with trunk := tr } ∧ t = f.settle

/-- An answer changes the transmit queue. -/
theorem Ev.answer_rest (e : Ev) (src : Station) (tag code : Byte) (a : Answer) :
    ∃ tr, e.answer src tag code a = { e with trunk := tr } := ⟨_, rfl⟩

/-- Such an event that leaves the transmit queue as it is. -/
theorem State.reorders_of_sets {s : State} {e : Ev} (h : s.begin.SetsSources e) : s.Reorders (e.sourcesChanged s).settle := by
  generalize hg : Ev.sourcesChanged s e = g
  exact ⟨e, g, g.trunk, h, by rw [hg], rfl⟩

/-- A zone command leaves the orders as they are, or is such an event. -/
theorem State.commandFrame_reorders (s : State) (route : Route) (payload : List Byte) (tag code : Byte) {x : PanelCmd}
    (hx : x.SetsOrders) :
    (∀ d, (s.commandFrame route payload tag code (some x)).orderHeld d = s.orderHeld d)
      ∨ s.Reorders (s.commandFrame route payload tag code (some x)) := by
  unfold State.commandFrame
  split
  · refine .inr ?_
    unfold Ev.orderUnit
    split
    · next a _ =>
      obtain ⟨tr, htr⟩ := s.begin.answer_rest route.src tag code a
      have hself : s.begin.sourcesChanged s = s.begin := s.begin.sourcesChanged_self
      exact ⟨s.begin, _, tr, .refl _, by rw [hself]; exact htr, rfl⟩
    · next p y hy =>
      obtain rfl := Option.some.inj (State.checkCommand_inr hy).1
      obtain ⟨e, he, hact⟩ := hx route.src p s.begin
      rw [hact]
      exact ⟨e, _, _, he, rfl, rfl⟩
  · exact .inl fun _ => rfl
  · exact .inl fun _ => rfl

/-- CLOSE-ZONE, CLOSE-ALL and LINE_SAMPLE leave the orders as they are, or are such an event. -/
theorem exec_reorders {c : Instr} {s t : State}
    (hc : (∃ x y z, c = .closeZone x y z) ∨ (∃ x y, c = .closeAll x y) ∨ ∃ x y, c = .lineSample x y)
    (h : exec c s = .next t) :
    (∀ d, t.orderHeld d = s.orderHeld d) ∨ ∃ pins, State.Reorders { s with pins := pins } t := by
  have row : ∀ {x : PanelCmd} (_ : x.SetsOrders) (route payload tag code),
      (s.live fun s => s.commandFrame route payload tag code (some x)) = .next t →
        (∀ d, t.orderHeld d = s.orderHeld d) ∨ ∃ pins, State.Reorders { s with pins := pins } t := by
    intro x hx route payload tag code h
    rcases State.live_next h with ht | ht
    · exact .inl fun d => by rw [ht]
    · rw [ht]
      exact (s.commandFrame_reorders route payload tag code hx).imp id fun k => ⟨s.pins, k⟩
  rcases hc with ⟨route, zone, tag, rfl⟩ | ⟨route, tag, rfl⟩ | ⟨b, low, rfl⟩
  · exact row (cmdCloseZone_setsOrders zone) _ _ _ _ h
  · exact row cmdCloseAll_setsOrders _ _ _ _ h
  · have h : execLineSample b low s = .next t := h
    rcases State.live_next h with ht | ht
    · exact .inl fun d => by rw [ht]
    · rw [ht]
      exact .inr ⟨_, State.reorders_of_sets (Ev.sample_sets (s.setLine b low).begin b)⟩

/-- Where no bank is PENDING, the orders follow a change of their sources one door after the other (R37). -/
theorem Ev.sourcesChanged_of_not_pending {before : State} {e : Ev} (h : e.bankPending = false) :
    Ev.sourcesChanged before e = e.fittedDoors.foldl (fun e p => e.handOrder before p.1) e := by
  have hc : e.cancelPending = e := by
    unfold Ev.cancelPending
    split
    · next id hid => simp [State.bankPending, hid] at h
    · rfl
  rw [Ev.sourcesChanged, hc, ite_self]
  rfl

/-- An order that begins for a bound door of the branch aborts the run of the branch (R148). -/
theorem State.Reorders.aborts {s t : State} (h : s.Reorders t) {b : BranchId} {r : Run} {d : Slot} {v : DoorRec}
    (hb : s.bankPending = false) (hr : s.branches[b].state = .enrolling r)
    (hpairs : r.pairs.Pairwise fun p q => p.1 ≠ q.1) (hser : s.SerialsDiffer b) (hv : s.doorRec d = some v)
    (hvb : v.branch = b) (hd : s.doors[d].binding ≠ none) (hfree : s.orderHeld d = false) (hheld : t.orderHeld d = true) :
    t.mgr.events = s.mgr.events ||| abortedFlag ∧ s.RunClosed t b r none := by
  obtain ⟨e, f, tr, he, hf, ht⟩ := h
  rw [ht] at hheld ⊢
  have hbank : e.bankPending = false := by rw [he.rest]; exact hb
  have hsources := Ev.sourcesChanged_sources s e
  have hbank' := Ev.sourcesChanged_bankPending (before := s) hbank
  have hchanged := Ev.sourcesChanged_of_not_pending (before := s) hbank
  generalize Ev.sourcesChanged s e = g at hf hsources hbank' hchanged
  have hq : f.swapIfQuiescent = f := f.swapIfQuiescent_of_not_pending (hf ▸ hbank')
  have hheld' : e.orderHeld d = true := by
    rw [← hheld, (f.settle_sources hq).orderHeld, hf]
    exact (hsources.orderHeld d).symm
  have hset : e.activeSet = s.activeSet := by rw [he.rest]; rfl
  have hdoors : e.branchDoors b = s.branchDoors b := by
    simp only [State.branchDoors, State.fittedDoors, State.doorRec_congr hset]
  have hstands : s.RunStands b r e := by
    refine ⟨⟨hdoors, by rw [he.line]; rfl, fun p _ => ?_⟩, by rw [he.line]; exact hr, by rw [he.rest]; rfl⟩
    have hsame : e.doors = s.doors := by rw [he.rest]; rfl
    rw [hsame]
    exact ⟨rfl, rfl, rfl, rfl⟩
  have hmem : (d, v) ∈ s.branchDoors b := (s.mem_branchDoors b d v).mpr ⟨hv, hvb⟩
  have habort : s.RunAborted b r g := by
    rw [hchanged]
    refine Ev.handOrders_abort hpairs hser hmem hd hfree e.fittedDoors ?_ e (fun p hp => ?_) hheld' (.inl hstands)
    · exact (e.mem_fittedDoors d v).mpr ((he.doorRec d).trans hv)
    · exact State.fitted_of_doorRec ((e.mem_fittedDoors p.1 p.2).mp hp)
  exact State.RunAborted.settle (hf ▸ habort.trunk tr) hq

/-! ### DOOR-CLOSE and DOOR-OPEN -/

/-- A DOOR-CLOSE of an ONLINE door that is IDLE and not CLOSED is a queue request (R33). -/
theorem Ev.doorClose_of_idle {e : Ev} {d : Slot} (hs : e.doors[d].state ≠ .closed) (hl : e.doors[d].link = .online)
    (hp : e.doors[d].phase = .idle) : e.doorClose d = (e.requestRemote d .closing, .accepted) := by
  have hg : e.doors[d].goal = none := by rw [Door.goal, hp]
  have hlocal : e.doors[d].phase.local_ = false := by rw [hp]; rfl
  unfold Ev.doorClose
  dsimp only
  rw [if_neg hs, if_neg (not_not.mpr hl), hlocal, hg, hp, if_neg Bool.false_ne_true, if_neg (by decide)]

/-- A DOOR-OPEN of an ONLINE door that is IDLE, not OPEN and under no order is a queue request (R34). -/
theorem Ev.doorOpen_of_idle {e : Ev} {d : Slot} (hs : e.doors[d].state ≠ .opened) (ho : e.orderHeld d = false)
    (hl : e.doors[d].link = .online) (hp : e.doors[d].phase = .idle) :
    e.doorOpen d = (e.requestRemote d .opening, .accepted) := by
  have hg : e.doors[d].goal = none := by rw [Door.goal, hp]
  have hlocal : e.doors[d].phase.local_ = false := by rw [hp]; rfl
  unfold Ev.doorOpen
  dsimp only
  rw [ho, if_neg Bool.false_ne_true, hg, if_neg (by decide), if_neg hs, if_neg (not_not.mpr hl), if_neg (by decide),
    hlocal, if_neg Bool.false_ne_true]

/-- What the queue request of a remote command leaves that aborts the run of the branch of its door (R33, R34, R148). -/
structure State.RemoteAborts (s : State) (b : BranchId) (r : Run) (d : Slot) (v : DoorRec) (dir : Dir) (e : Ev) : Prop where
  aborted : s.RunAborted b r e
  outer : e.outer = s.outer
  sources : s.SameSources e.toState
  banks : e.banks = s.banks
  queued : (∀ x ∈ r.pairs, x.1 ≠ v.serial) → e.doors[d].phase = .queued
    ∧ e.doors[d].entry = some ⟨dir, .remote, .remote, s.uptime⟩ ∧ e.doors[d].move = .none ∧ e.doors[d].timer = .none
    ∧ e.doors[d].retry = 0

theorem State.requestRemote_aborts {s : State} {b : BranchId} {r : Run} {d : Slot} {v : DoorRec}
    (hr : s.branches[b].state = .enrolling r) (hpairs : r.pairs.Pairwise fun p q => p.1 ≠ q.1) (hser : s.SerialsDiffer b)
    (hv : (d, v) ∈ s.branchDoors b) (hd : s.doors[d].binding ≠ none) (hl : s.doors[d].link = .online)
    (hm : s.doors[d].move = .none) (dir : Dir) : s.RemoteAborts b r d v dir (s.begin.requestRemote d dir) where
  aborted :=
    have hstands : s.RunStands b r s.begin := ⟨.refl s, hr, rfl⟩
    (hstands.abortFor hpairs hser hv hd).keeps (s.begin.request_keepsRun d b dir .remote .remote)
  outer := s.begin.request_outer d dir .remote .remote
  sources := (s.begin.request_moves d dir .remote .remote (by decide)).sources
  banks := (s.begin.request_hands (P := fun _ => True) (fun _ _ => trivial) d dir .remote .remote).banks
  queued hnew := by
    have hrun : s.begin.branches[b].run = some r := Branch.run_of_state hr
    have habort : s.begin.abortFor d = s.begin.abortRun b := Ev.abortFor_of_run hv hd hrun
    obtain ⟨⟨c, hc, -⟩, -⟩ := Ev.closeRun_door hrun none hpairs hser (d := d) (v := v) hv
    rw [Door.boundBy_of_new hnew] at hc
    have hdoor : (s.begin.abortFor d).doors[d] = { s.doors[d] with conds := c } := by
      rw [habort]
      exact hc
    rcases s.begin.request_cases d dir .remote .remote with ⟨-, hno⟩ | ⟨-, -, -, hq⟩
    · rw [hdoor] at hno
      exact absurd ⟨hl, hm⟩ hno
    · rw [hdoor] at hq
      have hq' : (s.begin.requestRemote d dir).doors[d] =
        { ({ s.doors[d] with conds := c } : Door).enqueued s.uptime dir .remote .remote with retry := 0 } := hq
      rw [hq']
      exact ⟨rfl, rfl, hm, rfl, rfl⟩

theorem State.uptime_of_outer {s t : State} (h : s.outer = t.outer) : s.uptime = t.uptime := congrArg Outer.uptime h

/-- The end of the event of a remote command that aborts a run: the run is bound, and a door that it does not bind anew is
queued (R51, R148). -/
theorem State.RemoteAborts.settle {s : State} {b : BranchId} {r : Run} {d : Slot} {v : DoorRec} {dir : Dir} {e : Ev}
    (h : s.RemoteAborts b r d v dir e) (hb : s.bankPending = false)
    (hdir : dir = .closing ∨ s.orderHeld d = false) {f : Ev} {src : Station} {tag code : Byte} {a : Answer}
    (hf : f = e.answer src tag code a) :
    f.settle.outer = { s.outer with answers := s.withAnswer src tag code a }
      ∧ f.settle.mgr.events = s.mgr.events ||| abortedFlag ∧ s.RunClosed f.settle b r none
      ∧ ((∀ x ∈ r.pairs, x.1 ≠ v.serial) → f.settle.WorksNow d dir .remote .remote ∧ f.settle.doors[d].retry = 0) := by
  have hout : f.settle.outer = { s.outer with answers := s.withAnswer src tag code a } := by
    rw [Ev.settle_outer, hf, Ev.answer_outer h.outer]
  obtain ⟨tr, htr⟩ := e.answer_rest src tag code a
  have hfe : f = { e with trunk := tr } := hf.trans htr
  have hbanks : f.banks = s.banks := by rw [hfe]; exact h.banks
  have hq : f.swapIfQuiescent = f := f.swapIfQuiescent_of_not_pending (by rw [State.bankPending, hbanks]; exact hb)
  have habort : s.RunAborted b r f := by rw [hfe]; exact h.aborted.trunk tr
  have hdoors : f.doors = e.doors := by rw [hfe]
  have hheld : f.settle.orderHeld d = s.orderHeld d := by
    rw [(f.settle_sources hq).orderHeld, hfe]
    exact h.sources.orderHeld d
  obtain ⟨hevents, hclosed⟩ := habort.settle hq
  refine ⟨hout, hevents, hclosed, fun hnew => ?_⟩
  have hqueued := h.queued hnew
  rw [← hdoors] at hqueued
  obtain ⟨hphase, hentry, hmove, htimer, hretry⟩ := hqueued
  have hadm := f.settle_admits hq d
  have hup : f.settle.uptime = s.uptime :=
    calc f.settle.uptime
      _ = f.uptime := State.uptime_of_outer f.settle_outer
      _ = e.uptime := by rw [hfe]
      _ = s.uptime := State.uptime_of_outer h.outer
  obtain ⟨-, -, -, -, -, -, hkept⟩ := hadm.keeps
  refine ⟨?_, hkept.trans hretry⟩
  rw [State.WorksNow, hup]
  exact hadm.worksOn hphase hentry hmove htimer (hdir.imp id hheld.trans)

/-- Settles O54: the ends of a run, its aborts by orders, and its aborts by remote commands. -/
theorem runsEndInBindings : Obligations.RunsEndInBindings := by
  intro s b r hpow hb hr hpairs hser
  refine ⟨fun i n hs hi => ?_, fun c t d v hc hexec hv hvb hd hfree hheld => ?_, ?_⟩
  · obtain ⟨frames, e, hexec, hends, hassign⟩ := exec_runEnds hpow hr hpairs hser hs hi
    refine ⟨e.settle, hexec, (Ev.settle_outer e).trans hends.outer, hends.settle_events hb, hends.settle_closed hb,
      fun serial a hi' ha => ?_, fun hne hpos => ?_, hends.settle_listed hb⟩
    · rw [hends.settle_sent hb (by rw [hassign serial a hi' ha]; exact List.cons_ne_nil _ _), hassign serial a hi' ha]
      rfl
    · obtain ⟨p, hfl, hturn, hrot, hmem, hlow⟩ := hends.settle_poll hb hne
      exact ⟨p, hfl, hturn, hrot, hmem, fun x hx => hlow x hx (hpos x hx)⟩
  · rcases exec_reorders hc hexec with hsame | ⟨pins, hre⟩
    · rw [hsame, hfree] at hheld
      cases hheld
    · exact hre.aborts (s := { s with pins := pins }) hb hr hpairs hser hv hvb hd hfree hheld
  · intro route slot tag d v p i code dir hi hc hslot hpan hright hhas hv hvb hd hl hp hflow
    have hmem : (d, v) ∈ s.branchDoors b := (s.mem_branchDoors b d v).mpr ⟨hv, hvb⟩
    have hdir : dir = .closing ∨ s.orderHeld d = false := by
      rcases hi with ⟨-, -, k, -⟩ | ⟨-, -, -, -, k⟩
      · exact .inl k
      · exact .inr k
    have hexec : exec i s = .next ((s.begin.requestRemote d dir).answer route.src tag code .accepted).settle := by
      rcases hi with ⟨rfl, rfl, rfl, hs⟩ | ⟨rfl, rfl, rfl, hs, ho⟩
      · rw [exec_doorCommand (i := .doorClose route slot tag) rfl hc hslot hpan hright hhas (State.fitted_of_doorRec hv),
          Ev.doorClose_of_idle (e := s.begin) hs hl hp]
      · rw [exec_doorCommand (i := .doorOpen route slot tag) rfl hc hslot hpan hright hhas (State.fitted_of_doorRec hv),
          Ev.doorOpen_of_idle (e := s.begin) hs ho hl hp]
    have hmove : s.doors[d].move = .none := (Door.flowWf_rests hflow (by rw [hp]; rfl)).2
    exact ⟨_, hexec, (State.requestRemote_aborts hr hpairs hser hmem hd hl hmove dir).settle hb hdir rfl⟩

end Sys2Proof.Machine
end
